-- ==== Sys2Proof/Word.lean ====
section
/-! DEFINITION. The words of the CA2410: bytes of a frame and the two- and four-byte numbers made of them (spec/12, R196). -/

namespace Sys2Proof

/-- One byte of a frame (R196). -/
abbrev Byte := BitVec 8

/-- A two-byte field of a frame, most significant byte first on the line (R196). -/
abbrev Word16 := BitVec 16

/-- A four-byte field of a frame: a tally value (R165, R197). -/
abbrev Word32 := BitVec 32

end Sys2Proof
end

