-- ==== Sys2Proof/Syntax.lean ====
section
/-! DEFINITION. The commands of the CA2410: one constructor per row of spec/opcode_table.json.
The table gives its rows no operands and no bits; the operands here are the model's reading of what
each event or request carries (log entry 4). -/

namespace Sys2Proof

/-- The two ports of the Port Unit (chapter 6). -/
inductive Port | up | dn
  deriving DecidableEq, Repr

/-- The two door lines (R72). -/
inductive Door | door1 | door2
  deriving DecidableEq, Repr

/-- The four actuators, in index order (R95). -/
inductive Actuator | flap | blower | carbon | demist
  deriving DecidableEq, Repr

/-- The fourteen notice kinds, in the order of the table of R154. -/
inductive NoticeKind
  | start | modeChange | inputSuspect | inputLost | actuatorSilent | actuatorFault | co2Unresolved
  | filterClogged | overrideCancelled | commandsHalted | queueDrop | tallyOverflow | tableCorrected
  | tableFault
  deriving DecidableEq, Repr

/-- The 112 protected entries, each named by its table and its index (R176). -/
inductive EntryId
  | channelMap (i : Fin 64)
  | slotSetup (i : Fin 32)
  | modeRecord (i : Fin 7)
  | recovery (i : Fin 4)
  | actuator (a : Actuator)
  | params
  deriving DecidableEq, Repr

/-- What a port's receiver took off the line between two idle gaps (R121, R122): the bytes, and whether
some byte of it had no stop bit. -/
structure Reception where
  bytes : List Byte
  missingStop : Bool
  deriving DecidableEq, Repr

/-- Whether a frame is already on each line at the moment of the event; read only if the event wakes the
device (R134, RECEIVER_IDLE; log entry 19). -/
structure LinesBusy where
  up : Bool
  dn : Bool
  deriving DecidableEq, Repr

/-- How a DN transmission ends (R130). -/
inductive TxEnd | sent | lost
  deriving DecidableEq, Repr

/-- The units whose reports the Controller takes, each in the order made (R2, R14). -/
inductive ReportSource | quantityTable | integrityUnit | timerUnit
  deriving DecidableEq, Repr

/-- Where a request came from: the port its MANAGE frame arrived on, whether its DEST was 63, its SRC and
its TAG (R138, R139, R141). -/
structure Origin where
  port : Port
  broadcast : Bool
  src : Byte
  tag : Byte
  deriving DecidableEq, Repr

/-- The commands: the rows of the opcode table, in its order. Arguments of a request are the argument
bytes of R197, two- and four-byte fields joined; `part` is the top two bits of its request code. -/
inductive Instr
  | powerOnReset
  | resetLineAssert
  | resetLineReset
  | dnArrival (r : Reception)
  | upArrival (r : Reception) (busy : LinesBusy)
  | readState (o : Origin) (part : Fin 4)
  | readSlot (o : Origin) (part : Fin 4) (slot : Byte)
  | readHistory (o : Origin) (slot : Byte)
  | readMap (o : Origin) (entry : Byte)
  | writeMap (o : Origin) (entry source channel slot : Byte) (gain offset : Word16) (rule k : Byte)
  | clearMap (o : Origin) (entry : Byte)
  | writeSlot (o : Origin) (slot kind : Byte) (min max step : Word16) (stale smoothing : Byte)
  | writeComparator (o : Origin) (slot comparator direction : Byte) (set clear : Word16) (confirm : Byte)
  | readMode (o : Origin) (mode : Byte)
  | writeMode (o : Origin) (mode flap blower carbon demist : Byte)
  | readRecovery (o : Origin) (bin : Byte)
  | writeRecovery (o : Origin) (bin : Byte) (threshold length : Word16)
  | readActuator (o : Origin) (actuator : Byte)
  | writeActuator (o : Origin) (actuator present node : Byte)
  | readParam (o : Origin) (parameter : Byte)
  | writeParam (o : Origin) (parameter : Byte) (value : Word16)
  | enterConfig (o : Origin)
  | enterRun (o : Origin)
  | purgeStart (o : Origin)
  | purgeStop (o : Origin)
  | override (o : Origin) (flap blower : Byte) (duration : Word16)
  | cancelOverride (o : Origin)
  | readNotices (o : Origin) (part : Fin 4)
  | ackNotices (o : Origin) (kinds : Word16)
  | maskNotices (o : Origin) (kinds : Word16)
  | tallyRead (o : Origin) (tally : Byte)
  | tallySetup (o : Origin) (tally group mask : Byte) (filter : Word16) (flags : Byte)
  | tallyWrite (o : Origin) (tally : Byte) (value : Word32)
  | readFaults (o : Origin)
  | resume (o : Origin)
  | park (o : Origin) (minutes : Word16)
  | reset (o : Origin)
  | dnGrant
  | dnTransmissionEnd (e : TxEnd)
  | upGrant
  | upTransmissionEnd
  | ackTimerExpiry (a : Actuator)
  | doorLevelChange (d : Door) (low : Bool)
  | debounceEnd (d : Door) (busy : LinesBusy)
  | staleTimerExpiry (slot : Fin 32)
  | recoveryTimerExpiry
  | purgeTimerExpiry
  | gapTimerExpiry
  | overrideTimerExpiry
  | controllerReport (src : ReportSource)
  | controllerHandover
  | parkedEntry
  | parkWakeTimerExpiry (busy : LinesBusy)
  | precleanExpiry
  | escalationTimerExpiry (k : NoticeKind)
  | intervalTimerExpiry
  | scrubIntervalExpiry
  | lossOfSupply
  | flippedCell (e : EntryId) (cell : Nat)
  | receiverIdle (p : Port)
  deriving DecidableEq, Repr

end Sys2Proof
end

