-- ==== Sys2Proof/Decode.lean ====
section
/-! DEFINITION. Words of the opcode table. No row of spec/opcode_table.json gives bits: the commands are requests
and events, so no word spells one (log entry 4). The request codes of R197, which frames carry, stand in
Machine/RequestCodes.lean. -/

namespace Sys2Proof

/-- The command a table word spells: none, for every word. -/
def decodeTableWord (_nbits _w : Nat) : Option Instr := none

end Sys2Proof
end

