-- ==== Sys2Proof/Config.lean ====
section
/-! DEFINITION. What one implementation fixes: the model's own way of letting time pass (log entries 1 and 2), and the
one value the manual leaves open (log entries 21 and 30). -/

namespace Sys2Proof.Config

/-- Milliseconds in a second: every timer of State is held in milliseconds. -/
def msPerSecond : Nat := 1000

/-- DESIGN CHOICE (log entry 2): the time that passes in one step on an empty queue, in milliseconds. -/
def tickMs : Nat := 1

/-- FREE VALUE (log entry 30): one second less than the stale limit, 1 to 255 s, by which the stale timer of a slot with
a faulted setup starts at a link reset or a wake. The manual has the timer start (R53) and the faulted limit not used
(R179). Nothing constrains it but the range a stale limit has (R26). -/
opaque freeStaleLimit : Nat → Fin 255

end Sys2Proof.Config
end

