-- ==== Sys2Proof/Machine/Types.lean ====
section
/-! DEFINITION. The names, records and tables of the CA2410: what State is made of. A timer is
`Option Nat`: stopped, or running with that many milliseconds left (log entry 2). -/

namespace Sys2Proof.Machine

open Sys2Proof

/-- The operating states (R137). -/
inductive OpState | config | run | parking | parked
  deriving DecidableEq, Repr

/-- The nine air-path modes, in code order (R12, R196). -/
inductive Mode | fresh | shield | purge | door | recover | demist | manual | safe | park
  deriving DecidableEq, Repr

/-- The six roles, in binding-list order (R1). -/
inductive Role | outPm | outGas | cabPm | cabCo2 | cabRh | filterDp
  deriving DecidableEq, Repr

/-- Start causes (R194). -/
inductive StartCause | powerOn | linkReset | tableWipe | wakeDoor | wakeLink | wakeTimer
  deriving DecidableEq, Repr

/-- Origin classes of a request; a request with none is `none` of an Option (R139). -/
inductive OriginClass | gateway | panel
  deriving DecidableEq, Repr

/-- A protected entry's content as last written, with the storage cells of the entry (content or check
code) that have flipped since: no cell means the check code holds, one cell means damage in one place,
two or more mean damage in two places (R176, R177; log entry 8). Cells stand in rising order. -/
structure Stored (α : Type) where
  content : α
  flipped : List Nat
  deriving DecidableEq, Repr

/-- One thing per actuator (R95). -/
structure PerActuator (α : Type) where
  flap : α
  blower : α
  carbon : α
  demist : α
  deriving DecidableEq, Repr

/-- One thing per door line (R72). -/
structure PerDoor (α : Type) where
  door1 : α
  door2 : α
  deriving DecidableEq, Repr

/-- One thing per role (R1). -/
structure PerRole (α : Type) where
  outPm : α
  outGas : α
  cabPm : α
  cabCo2 : α
  cabRh : α
  filterDp : α
  deriving DecidableEq, Repr

/-! ### Frames and ports (chapter 6) -/

/-- Frame kinds (R119). -/
inductive FrameKind | sample | cmd | ack | manage | reply | notice
  deriving DecidableEq, Repr

/-- A whole frame (R119). LEN is the payload's length. -/
structure Frame where
  dest : Byte
  src : Byte
  kind : FrameKind
  tag : Byte
  payload : List Byte
  check : Word16
  deriving DecidableEq, Repr

/-- What a port makes of a frame it received (R122). -/
inductive Classified
  | checkError
  | malformed
  | good (f : Frame)
  deriving DecidableEq, Repr

/-- The queues whose drops are noticed: QUEUE_DROP's detail (R128, R196). -/
inductive DropQueue | ptq | fwq
  deriving DecidableEq, Repr

/-- Whose frame a DN transmission carries (R131). -/
inductive DnParty
  | ptqHead
  | command (a : Actuator)
  deriving DecidableEq, Repr

/-- The DN transmission on the line; DN_EN is high while there is one (R130). -/
structure DnTx where
  party : DnParty
  frame : Frame
  deriving DecidableEq, Repr

/-- The queue a UP transmission comes from (R132). -/
inductive UpQueue | rpq | fwq
  deriving DecidableEq, Repr

/-- The UP transmission on the line, and whether FWQ held a frame when it was granted (R132). -/
structure UpTx where
  queue : UpQueue
  fwqHeld : Bool
  frame : Frame
  deriving DecidableEq, Repr

/-- A receiver waits for two byte times of idle, or takes frames (R135). -/
inductive RxState | waitingIdle | taking
  deriving DecidableEq, Repr

/-- The Port Unit (R127, R131, R132, R135). -/
structure PortUnit where
  ptq : List Frame
  fwq : List Frame
  rpq : List Frame
  dnShareCount : Nat
  upRunCount : Nat
  dnTx : Option DnTx
  upTx : Option UpTx
  upRx : RxState
  dnRx : RxState
  deriving DecidableEq, Repr

/-! ### Sample Intake (chapter 3) -/

/-- Sensor states of a reading (R119). -/
inductive SensorState | ok | warming | fault
  deriving DecidableEq, Repr

/-- One reading of a SAMPLE frame. -/
structure Reading where
  channel : Nat
  sensor : SensorState
  raw : Int
  deriving DecidableEq, Repr

/-- A Channel Map entry's forward rule (R56). -/
inductive ForwardRule
  | drop
  | pass
  | thin (k : Nat)
  deriving DecidableEq, Repr

/-- The protected part of a Channel Map entry (R56). -/
structure MapContent where
  valid : Bool
  source : Nat
  channel : Nat
  slot : Fin 32
  gain : Int
  offset : Int
  rule : ForwardRule
  deriving DecidableEq, Repr

/-- The two dynamic fields of a Channel Map entry (R56). -/
structure MapDyn where
  thin : Nat
  lastTag : Option Byte
  deriving DecidableEq, Repr

/-- The Sample Intake's map (R56). -/
structure Intake where
  map : Vector (Stored MapContent) 64
  dyn : Vector MapDyn 64
  deriving DecidableEq, Repr

/-! ### Quantity Table (chapter 2) -/

/-- Slot kinds (R25). -/
inductive SlotKind
  | unused
  | monitor
  | role (r : Role)
  deriving DecidableEq, Repr

/-- Comparator directions (R27). -/
inductive Direction | off | above | below
  deriving DecidableEq, Repr

/-- Smoothing (R26). -/
inductive Smoothing | none | median3
  deriving DecidableEq, Repr

/-- A comparator's setup (R27). -/
structure CompSetup where
  direction : Direction
  set : Int
  clear : Int
  confirm : Nat
  deriving DecidableEq, Repr

/-- A slot's setup (R25 to R27). -/
structure SlotSetup where
  kind : SlotKind
  min : Int
  max : Int
  step : Nat
  stale : Nat
  smoothing : Smoothing
  compA : CompSetup
  compB : CompSetup
  deriving DecidableEq, Repr

/-- Slot statuses (section 2.2). -/
inductive SlotStatus | empty | fresh | suspect | stale | fault
  deriving DecidableEq, Repr

/-- A comparator's dynamic state (section 2.2). -/
structure CompState where
  isSet : Bool
  progress : Nat
  deriving DecidableEq, Repr

/-- A slot's dynamic state (section 2.2). `agePart` is the running part of a second of the age (R32). `status` is the slot's
own: while its setup is faulted every reader sees FAULT in its place (R180, State.slotSeen). -/
structure Slot where
  status : SlotStatus
  value : Option Int
  age : Nat
  agePart : Nat
  staleTimer : Option Nat
  history : List Int
  pendingJump : Option Int
  rejects : Nat
  compA : CompState
  compB : CompState
  deriving DecidableEq, Repr

/-- The Quantity Table: 32 setups and 32 dynamic states. -/
structure QuantityTable where
  setups : Vector (Stored SlotSetup) 32
  slots : Vector Slot 32
  deriving DecidableEq, Repr

/-! ### Air-Path Controller (chapter 1) -/

/-- The seven conditions (section 1.2). -/
structure Conditions where
  dirtyOut : Bool
  severe : Bool
  stuffy : Bool
  co2High : Bool
  fog : Bool
  dirtyIn : Bool
  clogged : Bool
  deriving DecidableEq, Repr

/-- The SAFE cause set (section 1.3). -/
structure SafeCauses where
  tableFault : Bool
  inputLost : Bool
  deriving DecidableEq, Repr

/-- A Mode Record's settings; carbon is ENGAGED and demist is ON for true (R17). -/
structure ModeRecord where
  flap : Nat
  blower : Nat
  carbon : Bool
  demist : Bool
  deriving DecidableEq, Repr

/-- What a slot's report carries beside the slot index (R47). -/
structure SlotView where
  status : SlotStatus
  compA : Bool
  compB : Bool
  deriving DecidableEq, Repr

/-- What the Timer Unit's report carries (R14). -/
structure TimerView where
  door1Open : Bool
  door2Open : Bool
  purge : Bool
  recovery : Bool
  override : Bool
  deriving DecidableEq, Repr

/-- A report on its way to the Controller (R2, R10, R14, R47). -/
inductive Report
  /-- The Quantity Table: one slot's status and comparators. -/
  | slot (i : Fin 32) (v : SlotView)
  /-- The Integrity Unit: a slot setup has become faulted. -/
  | setupFaulted (i : Fin 32)
  /-- The Integrity Unit: the Fault List has become non-empty (true) or empty (false). -/
  | faultList (nonEmpty : Bool)
  /-- The Timer Unit: the doors and the three timers. -/
  | timers (v : TimerView)
  deriving DecidableEq, Repr

/-- The Air-Path Controller: section 1's state, what it was last told, and the reports waiting for it. -/
structure Controller where
  bindings : PerRole (Option (Fin 32))
  conditions : Conditions
  causes : SafeCauses
  mode : Mode
  records : Vector (Stored ModeRecord) 7
  slotViews : Vector SlotView 32
  faultsReported : Bool
  timerView : TimerView
  reports : List Report
  deriving DecidableEq, Repr

/-! ### Timer Unit (chapter 4) -/

/-- A door line: raw level, debounced state, debounce in progress (R72). -/
structure DoorLine where
  rawLow : Bool
  isOpen : Bool
  debounce : Option Nat
  deriving DecidableEq, Repr

/-- The door-open measurement (R75). `part` is the running part of a second. -/
structure Measurement where
  value : Nat
  counting : Bool
  part : Nat
  deriving DecidableEq, Repr

/-- A Recovery Table bin (R79). -/
structure RecoveryBin where
  threshold : Nat
  length : Nat
  deriving DecidableEq, Repr

/-- Flap choice of an override (section 4.5). -/
inductive FlapChoice | fresh | recirc
  deriving DecidableEq, Repr

/-- The override record (section 4.5). -/
structure OverrideRecord where
  flap : FlapChoice
  blower : Nat
  duration : Nat
  origin : OriginClass
  deriving DecidableEq, Repr

/-- One hand-over of the Controller to the Timer Unit: the new mode, and the conditions that changed, as
one Controller event made them (R5, R15, R82, R83). -/
structure Handover where
  mode : Option Mode
  stuffy : Option Bool
  severe : Option Bool
  co2High : Option Bool
  deriving DecidableEq, Repr

/-- The Timer Unit (section 4.6, R82). `held…` is what the Controller last handed over. -/
structure TimerUnit where
  doors : PerDoor DoorLine
  measurement : Measurement
  bins : Vector (Stored RecoveryBin) 4
  recovery : Option Nat
  purge : Option Nat
  gap : Option Nat
  purgeCount : Nat
  overrideTimer : Option Nat
  overrideRecord : Option OverrideRecord
  heldMode : Mode
  heldStuffy : Bool
  heldSevere : Bool
  heldCo2High : Bool
  handovers : List Handover
  deriving DecidableEq, Repr

/-! ### Command Engine (chapter 5) -/

/-- An Actuator Table entry (R95). -/
structure ActuatorEntry where
  present : Bool
  node : Nat
  deriving DecidableEq, Repr

/-- Phases of an outstanding command (R98). -/
inductive Phase | due | onLine | waiting
  deriving DecidableEq, Repr

/-- An outstanding command (R98). -/
structure Outstanding where
  tag : Byte
  value : Nat
  attempts : Nat
  phase : Phase
  persisting : Bool
  deriving DecidableEq, Repr

/-- Status of an ACK (R119). -/
inductive AckStatus | done | moving | jammed | overheat
  deriving DecidableEq, Repr

/-- What an actuator last said about itself (R98). -/
structure Reported where
  position : Nat
  status : AckStatus
  deriving DecidableEq, Repr

/-- An actuator's delivery state (R98), with its ack timer (R103). -/
structure Delivery where
  target : Option Nat
  pendingValue : Option Nat
  outstanding : Option Outstanding
  ackTimer : Option Nat
  reported : Option Reported
  failed : Bool
  lastAbandoned : Option Byte
  deriving DecidableEq, Repr

/-- The Command Engine. `due` holds the actuators whose command is DUE, the one that entered DUE first at
the front (R101); `completion` is the completion report waiting for the Park Controller (R117). -/
structure CommandEngine where
  entries : PerActuator (Stored ActuatorEntry)
  delivery : PerActuator Delivery
  cmq : List Actuator
  due : List Actuator
  halted : Bool
  tagCounter : Byte
  completion : Bool
  deriving DecidableEq, Repr

/-! ### Management Responder (chapter 7) -/

/-- UNMAPPED_ACTION (R147). -/
inductive UnmappedAction | pass | drop
  deriving DecidableEq, Repr

/-- TIMEOUT_ACTION (R147). -/
inductive TimeoutAction | abandon | persist
  deriving DecidableEq, Repr

/-- FAILURE_POLICY (R147). -/
inductive FailurePolicy | continue_ | flush
  deriving DecidableEq, Repr

/-- DOOR1_DEBOUNCE and DOOR2_DEBOUNCE (R72, R147). -/
inductive DebounceLength | short | long
  deriving DecidableEq, Repr

/-- The parameters entry (R147). `escalation` 0 is OFF; the sets are the bitmaps of R199. -/
structure Params where
  windowBase : Nat
  windowSize : Nat
  unmappedAction : UnmappedAction
  panelNode : Nat
  dnShare : Nat
  purgeLength : Nat
  purgeGap : Nat
  purgeLimit : Nat
  severeStop : Bool
  dirtyInBoost : Nat
  modeEnable : Byte
  criticalRoles : Byte
  ackTimeout : Nat
  retryLimit : Nat
  timeoutAction : TimeoutAction
  failurePolicy : FailurePolicy
  escalation : Nat
  scrubInterval : Nat
  door1Debounce : DebounceLength
  door2Debounce : DebounceLength
  doorWake : Byte
  precleanLength : Nat
  deriving DecidableEq, Repr

/-- The Management Responder: the operating state and the parameters entry. -/
structure Management where
  opState : OpState
  params : Stored Params
  deriving DecidableEq, Repr

/-- Result codes (R140). -/
inductive ResultCode
  | done | unknown | badIndex | badValue | refusedState | refusedClass | refusedDoor | refusedSevere
  | duplicateKey | duplicateRole | invalid | owned
  deriving DecidableEq, Repr

/-- The part of a REPLY the request decides (R141). -/
structure Reply where
  result : ResultCode
  data : List Byte
  deriving DecidableEq, Repr

/-- The ENTER_RUN checks (R145). -/
inductive RunCheck | noOutPm | noCabCo2 | mapToUnused | noFlap | noBlower | faultsPresent
  deriving DecidableEq, Repr

/-! ### Notice Unit (chapter 8) -/

/-- The detail of a raise (R154). -/
inductive Detail
  | startCause (c : StartCause)
  | mode (m : Mode)
  | slot (i : Fin 32)
  | actuator (a : Actuator)
  | purgeCount (n : Nat)
  | origin (c : OriginClass)
  | queue (q : DropQueue)
  | tally (i : Fin 4)
  | entry (e : EntryId)
  | wiped
  deriving DecidableEq, Repr

/-- A notice record (R154). -/
structure NoticeRecord where
  pending : Bool
  masked : Bool
  detail : Option Detail
  count : Nat
  escalated : Bool
  escalationTimer : Option Nat
  deriving DecidableEq, Repr

/-- Lamp patterns (R161). -/
inductive LampPattern | off | on | slow | fast | double
  deriving DecidableEq, Repr

/-- A lamp line: its pattern and the time since the pattern began, within one repetition (R161). -/
structure Lamp where
  pattern : LampPattern
  part : Nat
  deriving DecidableEq, Repr

/-- The Notice Unit. -/
structure NoticeUnit where
  records : Vector NoticeRecord 14
  tagCounter : Byte
  airLamp : Lamp
  serviceLamp : Lamp
  deriving DecidableEq, Repr

/-! ### Tally Unit (chapter 9) -/

/-- Tally groups (R165). -/
inductive TallyGroup | off | samples | modeTime | commands | dose | doors | frames
  deriving DecidableEq, Repr

/-- The event-driven sub-events of R167. -/
inductive SubEvent
  | accepted | rejectRange | rejectStep | rejectState | unmapped | duplicate
  | sent | resent | acked | abandoned | lateAck | strayAck
  | openings | recoveriesDone | recoveriesCut
  | rxGood | checkError | malformed | ptDrop | fqDrop | rqDrop
  deriving DecidableEq, Repr

/-- A tally: value and control (R165). Mask and filter are the bitmaps of R196. -/
structure Tally where
  value : Word32
  group : TallyGroup
  mask : Byte
  filter : Word16
  notify : Bool
  panelReadable : Bool
  overflow : Bool
  deriving DecidableEq, Repr

/-- The Tally Unit (R165, R168). -/
structure TallyUnit where
  tallies : Vector Tally 4
  interval : Option Nat
  deriving DecidableEq, Repr

/-! ### Integrity Unit and Park Controller (chapters 10 and 11) -/

/-- The Integrity Unit; the check codes stand with the entries, as their flipped cells (R176). -/
structure IntegrityUnit where
  faultList : List EntryId
  corrected : Nat
  scrubPos : Fin 112
  scrubTimer : Option Nat
  deriving DecidableEq, Repr

/-- The Park Controller (chapter 11). -/
structure ParkController where
  wakeMinutes : Nat
  wakeTimer : Option Nat
  armed : PerDoor Bool
  preclean : Option Nat
  startCause : StartCause
  deriving DecidableEq, Repr

end Sys2Proof.Machine
end

