-- ==== Sys2Proof/Machine/Codes.lean ====
section
/-! DEFINITION. The numeric codes and byte encodings of chapter 12 (R196 to R199), and the accessors of the
tables that hold one thing per actuator, door or role. -/

namespace Sys2Proof

/-! ### Bytes (R196: most significant byte first, two's complement) -/

/-- A number as one byte. -/
def byteOf (n : Nat) : Byte := BitVec.ofNat 8 n

/-- A two-byte field as its bytes on the line. -/
def word16Bytes (w : Word16) : List Byte := [w.extractLsb' 8 8, w.extractLsb' 0 8]

/-- A four-byte field as its bytes on the line. -/
def word32Bytes (w : Word32) : List Byte :=
  [w.extractLsb' 24 8, w.extractLsb' 16 8, w.extractLsb' 8 8, w.extractLsb' 0 8]

/-- An unsigned number in two bytes. -/
def natBytes2 (n : Nat) : List Byte := word16Bytes (BitVec.ofNat 16 n)

/-- A signed number in two bytes. -/
def intBytes2 (v : Int) : List Byte := word16Bytes (BitVec.ofInt 16 v)

/-- Two bytes off the line as a two-byte field. -/
def joinWord16 (hi lo : Byte) : Word16 := hi ++ lo

/-- Four bytes off the line as a four-byte field. -/
def joinWord32 (b3 b2 b1 b0 : Byte) : Word32 := b3 ++ b2 ++ b1 ++ b0

/-- A yes/no flag byte (R196). -/
def flagByte (b : Bool) : Byte := if b then 1 else 0

/-- A flag byte read: only 0 and 1 are codes (R197). -/
def readFlag (b : Byte) : Option Bool :=
  if b = 0 then some false else if b = 1 then some true else none

/-- An optional field of result data: a presence byte, then the field or zeros (R197). -/
def optionalBytes (width : Nat) : Option (List Byte) → List Byte
  | some bs => 1 :: bs
  | none => 0 :: List.replicate width 0

/-- An index below `n`, if it is one. -/
def boundedIndex (n : Nat) (i : Nat) : Option (Fin n) := if h : i < n then some ⟨i, h⟩ else none

/-- A table of `n` things with each replaced by its image. -/
def mapTable {α β : Type} {n : Nat} (f : α → β) (v : Vector α n) : Vector β n :=
  ⟨⟨v.toList.map f⟩, by simp⟩

/-- The table of `n` things whose `i`-th is `f i`. -/
def buildTable {α : Type} (n : Nat) (f : Fin n → α) : Vector α n := ⟨⟨List.ofFn f⟩, by simp⟩

/-! ### Actuators, doors, notice kinds, protected entries -/

/-- The actuator index (R95). -/
def Actuator.index : Actuator → Nat
  | .flap => 0
  | .blower => 1
  | .carbon => 2
  | .demist => 3

/-- The actuators in index order. -/
def Actuator.all : List Actuator := [.flap, .blower, .carbon, .demist]

/-- The actuator of an index byte, if it is 0 to 3. -/
def Actuator.ofIndex : Nat → Option Actuator
  | 0 => some .flap
  | 1 => some .blower
  | 2 => some .carbon
  | 3 => some .demist
  | _ => none

/-- The notice kind's code (R196), its place in the table of R154. -/
def NoticeKind.index : NoticeKind → Fin 14
  | .start => 0
  | .modeChange => 1
  | .inputSuspect => 2
  | .inputLost => 3
  | .actuatorSilent => 4
  | .actuatorFault => 5
  | .co2Unresolved => 6
  | .filterClogged => 7
  | .overrideCancelled => 8
  | .commandsHalted => 9
  | .queueDrop => 10
  | .tallyOverflow => 11
  | .tableCorrected => 12
  | .tableFault => 13

/-- The notice kinds in code order. -/
def NoticeKind.all : List NoticeKind :=
  [.start, .modeChange, .inputSuspect, .inputLost, .actuatorSilent, .actuatorFault, .co2Unresolved,
    .filterClogged, .overrideCancelled, .commandsHalted, .queueDrop, .tallyOverflow, .tableCorrected,
    .tableFault]

/-- The six kinds that escalate (R154). -/
def NoticeKind.escalating : NoticeKind → Bool
  | .inputLost | .actuatorSilent | .actuatorFault | .co2Unresolved | .commandsHalted | .tableFault => true
  | .start | .modeChange | .inputSuspect | .filterClogged | .overrideCancelled | .queueDrop
  | .tallyOverflow | .tableCorrected => false

/-- The table code of a protected entry (R196). -/
def EntryId.tableCode : EntryId → Nat
  | .channelMap _ => 0
  | .slotSetup _ => 1
  | .modeRecord _ => 2
  | .recovery _ => 3
  | .actuator _ => 4
  | .params => 5

/-- The index of a protected entry within its table (R176). -/
def EntryId.tableIndex : EntryId → Nat
  | .channelMap i => i.val
  | .slotSetup i => i.val
  | .modeRecord i => i.val
  | .recovery i => i.val
  | .actuator a => a.index
  | .params => 0

/-- The protected entry at a scrub position (R176). -/
def EntryId.atScrubPos (p : Fin 112) : EntryId :=
  if h : p.val < 64 then .channelMap ⟨p.val, h⟩
  else if h : p.val < 96 then .slotSetup ⟨p.val - 64, by omega⟩
  else if h : p.val < 103 then .modeRecord ⟨p.val - 96, by omega⟩
  else if h : p.val < 107 then .recovery ⟨p.val - 103, by omega⟩
  else if p.val = 107 then .actuator .flap
  else if p.val = 108 then .actuator .blower
  else if p.val = 109 then .actuator .carbon
  else if p.val = 110 then .actuator .demist
  else .params

namespace Machine

/-! ### Tables with one thing per actuator, door or role -/

/-- The thing held for an actuator. -/
def PerActuator.get {α : Type} (t : PerActuator α) : Actuator → α
  | .flap => t.flap
  | .blower => t.blower
  | .carbon => t.carbon
  | .demist => t.demist

/-- The table with an actuator's thing replaced. -/
def PerActuator.set {α : Type} (t : PerActuator α) (a : Actuator) (x : α) : PerActuator α :=
  match a with
  | .flap => { t with flap := x }
  | .blower => { t with blower := x }
  | .carbon => { t with carbon := x }
  | .demist => { t with demist := x }

/-- The table with every actuator's thing replaced by its image. -/
def PerActuator.map {α β : Type} (f : α → β) (t : PerActuator α) : PerActuator β :=
  ⟨f t.flap, f t.blower, f t.carbon, f t.demist⟩

/-- The thing held for a door line. -/
def PerDoor.get {α : Type} (t : PerDoor α) : Door → α
  | .door1 => t.door1
  | .door2 => t.door2

/-- The table with a door line's thing replaced. -/
def PerDoor.set {α : Type} (t : PerDoor α) (d : Door) (x : α) : PerDoor α :=
  match d with
  | .door1 => { t with door1 := x }
  | .door2 => { t with door2 := x }

/-- The table with both door lines' things replaced by their images. -/
def PerDoor.map {α β : Type} (f : α → β) (t : PerDoor α) : PerDoor β := ⟨f t.door1, f t.door2⟩

/-- The thing held for a role. -/
def PerRole.get {α : Type} (t : PerRole α) : Role → α
  | .outPm => t.outPm
  | .outGas => t.outGas
  | .cabPm => t.cabPm
  | .cabCo2 => t.cabCo2
  | .cabRh => t.cabRh
  | .filterDp => t.filterDp

/-- The table with a role's thing replaced. -/
def PerRole.set {α : Type} (t : PerRole α) (r : Role) (x : α) : PerRole α :=
  match r with
  | .outPm => { t with outPm := x }
  | .outGas => { t with outGas := x }
  | .cabPm => { t with cabPm := x }
  | .cabCo2 => { t with cabCo2 := x }
  | .cabRh => { t with cabRh := x }
  | .filterDp => { t with filterDp := x }

/-- The table with every role's thing replaced by its image. -/
def PerRole.map {α β : Type} (f : α → β) (t : PerRole α) : PerRole β :=
  ⟨f t.outPm, f t.outGas, f t.cabPm, f t.cabCo2, f t.cabRh, f t.filterDp⟩

/-! ### Enumeration codes (R196) -/

/-- The roles in slot-kind order: bit n of a role set is the n-th (R196). -/
def Role.all : List Role := [.outPm, .outGas, .cabPm, .cabCo2, .cabRh, .filterDp]

/-- The role's bit in a role set (R196). -/
def Role.bit : Role → Nat
  | .outPm => 0
  | .outGas => 1
  | .cabPm => 2
  | .cabCo2 => 3
  | .cabRh => 4
  | .filterDp => 5

/-- Mode codes (R196). -/
def Mode.code : Mode → Nat
  | .fresh => 0
  | .shield => 1
  | .purge => 2
  | .door => 3
  | .recover => 4
  | .demist => 5
  | .manual => 6
  | .safe => 7
  | .park => 8

/-- The mode of a code. -/
def Mode.ofCode : Nat → Option Mode
  | 0 => some .fresh
  | 1 => some .shield
  | 2 => some .purge
  | 3 => some .door
  | 4 => some .recover
  | 5 => some .demist
  | 6 => some .manual
  | 7 => some .safe
  | 8 => some .park
  | _ => none

/-- The index of a mode's loadable record; SAFE and PARK have none (R17, R176). -/
def Mode.recordIndex : Mode → Option (Fin 7)
  | .fresh => some 0
  | .shield => some 1
  | .purge => some 2
  | .door => some 3
  | .recover => some 4
  | .demist => some 5
  | .manual => some 6
  | .safe => none
  | .park => none

/-- Slot kind codes (R196). -/
def SlotKind.code : SlotKind → Nat
  | .unused => 0
  | .monitor => 1
  | .role r => 2 + r.bit

/-- The slot kind of a code. -/
def SlotKind.ofCode : Nat → Option SlotKind
  | 0 => some .unused
  | 1 => some .monitor
  | 2 => some (.role .outPm)
  | 3 => some (.role .outGas)
  | 4 => some (.role .cabPm)
  | 5 => some (.role .cabCo2)
  | 6 => some (.role .cabRh)
  | 7 => some (.role .filterDp)
  | _ => none

/-- Direction codes. -/
def Direction.code : Direction → Nat
  | .off => 0
  | .above => 1
  | .below => 2

/-- The direction of a code. -/
def Direction.ofCode : Nat → Option Direction
  | 0 => some .off
  | 1 => some .above
  | 2 => some .below
  | _ => none

/-- Smoothing codes. -/
def Smoothing.code : Smoothing → Nat
  | .none => 0
  | .median3 => 1

/-- The smoothing of a code. -/
def Smoothing.ofCode : Nat → Option Smoothing
  | 0 => some .none
  | 1 => some .median3
  | _ => Option.none

/-- Slot status codes. -/
def SlotStatus.code : SlotStatus → Nat
  | .empty => 0
  | .fresh => 1
  | .suspect => 2
  | .stale => 3
  | .fault => 4

/-- Forward rule codes. -/
def ForwardRule.code : ForwardRule → Nat
  | .drop => 0
  | .pass => 1
  | .thin _ => 2

/-- The k a forward rule shows: 0 for DROP and PASS (R198). -/
def ForwardRule.k : ForwardRule → Nat
  | .drop => 0
  | .pass => 0
  | .thin k => k

/-- Flap choice codes. -/
def FlapChoice.code : FlapChoice → Nat
  | .fresh => 0
  | .recirc => 1

/-- Operating state codes. -/
def OpState.code : OpState → Nat
  | .config => 0
  | .run => 1
  | .parking => 2
  | .parked => 3

/-- Start cause codes. -/
def StartCause.code : StartCause → Nat
  | .powerOn => 0
  | .linkReset => 1
  | .tableWipe => 2
  | .wakeDoor => 3
  | .wakeLink => 4
  | .wakeTimer => 5

/-- Origin codes of OVERRIDE_CANCELLED's detail and of an override record. -/
def OriginClass.code : OriginClass → Nat
  | .gateway => 0
  | .panel => 1

/-- Command phase codes. -/
def Phase.code : Phase → Nat
  | .due => 0
  | .onLine => 1
  | .waiting => 2

/-- ACK status codes. -/
def AckStatus.code : AckStatus → Nat
  | .done => 0
  | .moving => 1
  | .jammed => 2
  | .overheat => 3

/-- The ACK status of a code. -/
def AckStatus.ofCode : Nat → Option AckStatus
  | 0 => some .done
  | 1 => some .moving
  | 2 => some .jammed
  | 3 => some .overheat
  | _ => none

/-- Sensor state of a code. -/
def SensorState.ofCode : Nat → Option SensorState
  | 0 => some .ok
  | 1 => some .warming
  | 2 => some .fault
  | _ => none

/-- Lamp pattern codes. -/
def LampPattern.code : LampPattern → Nat
  | .off => 0
  | .on => 1
  | .slow => 2
  | .fast => 3
  | .double => 4

/-- Tally group codes. -/
def TallyGroup.code : TallyGroup → Nat
  | .off => 0
  | .samples => 1
  | .modeTime => 2
  | .commands => 3
  | .dose => 4
  | .doors => 5
  | .frames => 6

/-- The tally group of a code. -/
def TallyGroup.ofCode : Nat → Option TallyGroup
  | 0 => some .off
  | 1 => some .samples
  | 2 => some .modeTime
  | 3 => some .commands
  | 4 => some .dose
  | 5 => some .doors
  | 6 => some .frames
  | _ => none

/-- How many sub-events a group has: the mask bits that name one (R167 to R170, R196). -/
def TallyGroup.width : TallyGroup → Nat
  | .off => 0
  | .samples => 6
  | .modeTime => 6
  | .commands => 6
  | .dose => 2
  | .doors => 4
  | .frames => 6

/-- The group a sub-event belongs to (R167). -/
def SubEvent.group : SubEvent → TallyGroup
  | .accepted | .rejectRange | .rejectStep | .rejectState | .unmapped | .duplicate => .samples
  | .sent | .resent | .acked | .abandoned | .lateAck | .strayAck => .commands
  | .openings | .recoveriesDone | .recoveriesCut => .doors
  | .rxGood | .checkError | .malformed | .ptDrop | .fqDrop | .rqDrop => .frames

/-- The sub-event's bit in its group's mask: its place in the order of R167 (R196). -/
def SubEvent.bit : SubEvent → Nat
  | .accepted => 0
  | .rejectRange => 1
  | .rejectStep => 2
  | .rejectState => 3
  | .unmapped => 4
  | .duplicate => 5
  | .sent => 0
  | .resent => 1
  | .acked => 2
  | .abandoned => 3
  | .lateAck => 4
  | .strayAck => 5
  | .openings => 0
  | .recoveriesDone => 1
  | .recoveriesCut => 2
  | .rxGood => 0
  | .checkError => 1
  | .malformed => 2
  | .ptDrop => 3
  | .fqDrop => 4
  | .rqDrop => 5

/-- Result codes (R196). -/
def ResultCode.code : ResultCode → Nat
  | .done => 0
  | .unknown => 1
  | .badIndex => 2
  | .badValue => 3
  | .refusedState => 4
  | .refusedClass => 5
  | .refusedDoor => 6
  | .refusedSevere => 7
  | .duplicateKey => 8
  | .duplicateRole => 9
  | .invalid => 10
  | .owned => 11

/-- ENTER_RUN check codes (R196). -/
def RunCheck.code : RunCheck → Nat
  | .noOutPm => 1
  | .noCabCo2 => 2
  | .mapToUnused => 3
  | .noFlap => 4
  | .noBlower => 5
  | .faultsPresent => 6

/-- The condition set (R196). -/
def Conditions.code (c : Conditions) : Nat :=
  c.dirtyOut.toNat + 2 * c.severe.toNat + 4 * c.stuffy.toNat + 8 * c.co2High.toNat + 16 * c.fog.toNat +
    32 * c.dirtyIn.toNat + 64 * c.clogged.toNat

/-- The SAFE cause set (R196). -/
def SafeCauses.code (c : SafeCauses) : Nat := c.tableFault.toNat + 2 * c.inputLost.toNat

/-- The two bytes of a notice's detail (R196). -/
def Detail.bytes : Detail → List Byte
  | .startCause c => [0, byteOf c.code]
  | .mode m => [0, byteOf m.code]
  | .slot i => [0, byteOf i.val]
  | .actuator a => [0, byteOf a.index]
  | .purgeCount n => [0, byteOf n]
  | .origin c => [0, byteOf c.code]
  | .queue .ptq => [0, 0]
  | .queue .fwq => [0, 1]
  | .tally i => [0, byteOf i.val]
  | .entry e => [byteOf e.tableCode, byteOf e.tableIndex]
  | .wiped => [255, 0]

/-- The door's bit in a door set (R196). -/
def doorBit : Door → Nat
  | .door1 => 0
  | .door2 => 1

/-- Whole seconds left of a timer, a part of a second counting as a whole one; 0 if stopped (R198). -/
def secondsLeft : Option Nat → Nat
  | some ms => (ms + 999) / 1000
  | none => 0

end Machine
end Sys2Proof
end

