-- ==== Sys2Proof/Machine/Frames.lean ====
section
/-! DEFINITION. Chain frames: the CHECK, building and judging a frame (R119 to R123, R129, R196). -/

namespace Sys2Proof.Machine

open Sys2Proof

/-- One bit into the CHECK register: the top bit is combined with the incoming bit, the register shifts up
by one, and the polynomial's lower sixteen terms are applied if the combined bit was 1 (R120). -/
def checkBit (reg : Word16) (bit : Bool) : Word16 :=
  if reg.msb != bit then (reg <<< 1) ^^^ 0x1021 else reg <<< 1

/-- One byte into the CHECK register, most significant bit first (R120): the fold from the right takes bit 7 first. -/
def checkByte (reg : Word16) (b : Byte) : Word16 :=
  (List.range 8).foldr (fun i r => checkBit r (b.getLsbD i)) reg

/-- The CHECK over a frame's bytes from DEST to the last payload byte (R120). -/
def checkOf (bs : List Byte) : Word16 := bs.foldl checkByte 0xFFFF

/-- Frame kind codes (R196). -/
def FrameKind.code : FrameKind → Nat
  | .sample => 1
  | .cmd => 2
  | .ack => 3
  | .manage => 4
  | .reply => 5
  | .notice => 6

/-- The frame kind of a KIND byte (R196). -/
def FrameKind.ofCode : Nat → Option FrameKind
  | 1 => some .sample
  | 2 => some .cmd
  | 3 => some .ack
  | 4 => some .manage
  | 5 => some .reply
  | 6 => some .notice
  | _ => none

/-- The bytes a frame's CHECK covers (R119, R196). -/
def Frame.covered (f : Frame) : List Byte :=
  f.dest :: f.src :: byteOf f.kind.code :: f.tag :: byteOf f.payload.length :: f.payload

/-- A frame's bytes on the line (R196). -/
def Frame.wire (f : Frame) : List Byte := f.covered ++ word16Bytes f.check

/-- A frame of the device's own: SRC 1 and a CHECK computed now (R119, R129). -/
def buildFrame (dest : Byte) (kind : FrameKind) (tag : Byte) (payload : List Byte) : Frame :=
  let f : Frame := ⟨dest, 1, kind, tag, payload, 0⟩
  { f with check := checkOf f.covered }

/-- A CMD frame (R102). -/
def cmdFrame (node : Nat) (tag : Byte) (value : Nat) : Frame :=
  buildFrame (byteOf node) .cmd tag [byteOf value]

/-- A REPLY frame: result code, request code as received, result data (R141, R196). -/
def replyFrame (dest tag code : Byte) (r : Reply) : Frame :=
  buildFrame dest .reply tag (byteOf r.result.code :: code :: r.data)

/-- A NOTICE frame: kind code and detail (R156, R196). -/
def noticeFrame (dest tag : Byte) (k : NoticeKind) (d : Detail) : Frame :=
  buildFrame dest .notice tag (byteOf k.index.val :: d.bytes)

/-- The readings of a SAMPLE payload, if every one has a channel 0 to 15 and a known sensor state (R123). -/
def readingsOf : List Byte → Option (List Reading)
  | [] => some []
  | ch :: st :: hi :: lo :: rest =>
    match SensorState.ofCode st.toNat, readingsOf rest with
    | some s, some rs => if ch.toNat ≤ 15 then some (⟨ch.toNat, s, (joinWord16 hi lo).toInt⟩ :: rs) else none
    | _, _ => none
  | _ => none

/-- The position and status of an ACK payload, if it is one (R123). -/
def ackOf : List Byte → Option Reported
  | [p, st] =>
    match AckStatus.ofCode st.toNat with
    | some s => some ⟨p.toNat, s⟩
    | none => none
  | _ => none

/-- The check of a payload by its kind (R123). -/
def payloadOk (k : FrameKind) (p : List Byte) : Bool :=
  match k with
  | .sample => 1 ≤ p.length && p.length ≤ 16 && (readingsOf p).isSome
  | .cmd => p.length == 1
  | .ack => (ackOf p).isSome
  | .manage => 1 ≤ p.length
  | .reply => 1 ≤ p.length
  | .notice => p.length == 3

/-- Judging the five header fields, the payload and the CHECK of a frame whose CHECK holds: the LEN case,
then the field case, then the payload case of R122. -/
def judgeFields (dest src kind tag len : Byte) (payload : List Byte) (check : Word16) : Classified :=
  if 24 < len.toNat || payload.length != len.toNat then .malformed
  else if 63 < dest.toNat || src.toNat == 1 || 62 < src.toNat then .malformed
  else
    match FrameKind.ofCode kind.toNat with
    | none => .malformed
    | some k =>
      if payloadOk k payload then .good ⟨dest, src, k, tag, payload, check⟩ else .malformed

/-- The judgment of a received frame: the first case of R122 that applies. -/
def classify (r : Reception) : Classified :=
  if r.missingStop then .checkError
  else if r.bytes.length < 7 then .checkError
  else if 31 < r.bytes.length then .malformed
  else
    let covered := r.bytes.take (r.bytes.length - 2)
    match r.bytes.drop (r.bytes.length - 2) with
    | [hi, lo] =>
      if checkOf covered != joinWord16 hi lo then .checkError
      else
        match covered with
        | dest :: src :: kind :: tag :: len :: payload =>
          judgeFields dest src kind tag len payload (joinWord16 hi lo)
        | _ => .checkError
    | _ => .checkError

end Sys2Proof.Machine
end

