-- ==== Sys2Proof/Machine/PowerOn.lean ====
section
/-! DEFINITION. The power-on content of every table and block: what State.reset, a table wipe and a link
reset are made of (R194, and the reset rules R17, R24, R30, R53, R56, R71, R79, R94, R95, R118, R135, R147,
R164, R175, R185). -/

namespace Sys2Proof.Machine.PowerOn

open Sys2Proof

/-- Content under a fresh check code (R176). -/
def fresh {α : Type} (c : α) : Stored α := ⟨c, []⟩

/-- A Channel Map entry's power-on content (R56). -/
def mapContent : MapContent := ⟨false, 0, 0, 0, 256, 0, .drop⟩

/-- A Channel Map entry's dynamic fields after a power-on (R56). -/
def mapDyn : MapDyn := ⟨0, none⟩

/-- A comparator's power-on setup (R30). -/
def compSetup : CompSetup := ⟨.off, 0, 0, 1⟩

/-- A slot's power-on setup (R30). -/
def slotSetup : SlotSetup := ⟨.unused, -32768, 32767, 0, 10, .none, compSetup, compSetup⟩

/-- An EMPTY slot, its stale timer stopped (R53). -/
def slot : Slot := ⟨.empty, none, 0, 0, none, [], none, 0, ⟨false, 0⟩, ⟨false, 0⟩⟩

/-- The fixed SAFE targets (R19). -/
def safeTargets : ModeRecord := ⟨20, 8, true, true⟩

/-- The fixed PARK targets (R19). -/
def parkTargets : ModeRecord := ⟨0, 0, false, false⟩

/-- A loadable record's power-on content (R17). The MANUAL record holds no flap and no blower. -/
def modeRecord (i : Fin 7) : ModeRecord :=
  match i.val with
  | 0 => ⟨100, 4, false, false⟩
  | 1 => ⟨0, 5, true, false⟩
  | 2 => ⟨100, 9, true, false⟩
  | 3 => ⟨100, 12, true, false⟩
  | 4 => ⟨0, 12, true, false⟩
  | 5 => ⟨100, 8, false, true⟩
  | _ => ⟨0, 0, true, false⟩

/-- A Recovery Table bin's power-on content (R79). -/
def recoveryBin : RecoveryBin := ⟨0, 0⟩

/-- An Actuator Table entry's power-on content (R95). -/
def actuatorEntry : ActuatorEntry := ⟨false, 0⟩

/-- The parameters entry's power-on content (R147). MODE_ENABLE holds all three modes, CRITICAL_ROLES holds
OUT_PM and CAB_CO2, DOOR_WAKE holds both lines. -/
def params : Params where
  windowBase := 0
  windowSize := 64
  unmappedAction := .pass
  panelNode := 0
  dnShare := 1
  purgeLength := 90
  purgeGap := 300
  purgeLimit := 3
  severeStop := true
  dirtyInBoost := 3
  modeEnable := 0b111
  criticalRoles := 0b001001
  ackTimeout := 50
  retryLimit := 3
  timeoutAction := .abandon
  failurePolicy := .continue_
  escalation := 60
  scrubInterval := 10
  door1Debounce := .short
  door2Debounce := .short
  doorWake := 0b11
  precleanLength := 300

/-- The debounce time of a length, in milliseconds (R72). -/
def debounceMs : DebounceLength → Nat
  | .short => 20
  | .long => 200

/-- The scrub interval timer's time for a SCRUB_INTERVAL, in milliseconds (R183). -/
def scrubMs (interval : Nat) : Nat := interval * 10

/-- The Port Unit with its queues empty, its counters 0, nothing on either line and both receivers waiting
for idle (R135). -/
def port : PortUnit := ⟨[], [], [], 0, 0, none, none, .waitingIdle, .waitingIdle⟩

/-- The Sample Intake (R71). -/
def intake : Intake := ⟨Vector.replicate 64 (fresh mapContent), Vector.replicate 64 mapDyn⟩

/-- The Quantity Table (R30, R53). -/
def quantity : QuantityTable := ⟨Vector.replicate 32 (fresh slotSetup), Vector.replicate 32 slot⟩

/-- The conditions when all role slots are EMPTY or unbound (R9). -/
def conditions : Conditions := ⟨true, false, false, false, false, false, false⟩

/-- No role bound (R1). -/
def bindings : PerRole (Option (Fin 32)) := ⟨none, none, none, none, none, none⟩

/-- The report of an EMPTY slot (R46). -/
def slotView : SlotView := ⟨.empty, false, false⟩

/-- Doors CLOSED and no timer running. -/
def timerView : TimerView := ⟨false, false, false, false, false⟩

/-- The seven Mode Records with their power-on content (R17). -/
def records : Vector (Stored ModeRecord) 7 := buildTable 7 fun i => fresh (modeRecord i)

/-- The Controller (R24). -/
def controller : Controller :=
  ⟨bindings, conditions, ⟨false, false⟩, .safe, records, Vector.replicate 32 slotView, false, timerView, []⟩

/-- A door line as the reset ends: CLOSED, and a debounce started with the power-on time if the line is
held low (R74). -/
def doorLine (rawLow : Bool) : DoorLine :=
  ⟨rawLow, false, if rawLow then some (debounceMs .short) else none⟩

/-- The Timer Unit over the given door lines (R82, R94). -/
def timerUnit (doors : PerDoor DoorLine) : TimerUnit where
  doors := doors
  measurement := ⟨0, false, 0⟩
  bins := Vector.replicate 4 (fresh recoveryBin)
  recovery := none
  purge := none
  gap := none
  purgeCount := 0
  overrideTimer := none
  overrideRecord := none
  heldMode := .safe
  heldStuffy := false
  heldSevere := false
  heldCo2High := false
  handovers := []

/-- An actuator's delivery state with no target and nothing reported (R118). -/
def delivery : Delivery := ⟨none, none, none, none, none, false, none⟩

/-- An actuator's target in a record, in the actuator's encoding (R98). -/
def targetOf (r : ModeRecord) : Actuator → Nat
  | .flap => r.flap
  | .blower => r.blower
  | .carbon => r.carbon.toNat
  | .demist => r.demist.toNat

/-- An actuator's delivery state with its SAFE target recorded (R19, R118). -/
def deliverySafe (a : Actuator) : Delivery := { delivery with target := some (targetOf safeTargets a) }

/-- The four delivery states with the SAFE targets recorded. -/
def deliveriesSafe : PerActuator Delivery :=
  ⟨deliverySafe .flap, deliverySafe .blower, deliverySafe .carbon, deliverySafe .demist⟩

/-- The Actuator Table with no actuator present (R95). -/
def entries : PerActuator (Stored ActuatorEntry) :=
  ⟨fresh actuatorEntry, fresh actuatorEntry, fresh actuatorEntry, fresh actuatorEntry⟩

/-- The Command Engine: no actuator present, the SAFE targets recorded only (R19, R118, R194). -/
def commandEngine : CommandEngine := ⟨entries, deliveriesSafe, [], [], false, 0, false⟩

/-- The Management Responder: CONFIG and the power-on parameters (R137, R147). -/
def management : Management := ⟨.config, fresh params⟩

/-- A notice record with nothing raised (R164). -/
def noticeRecord (masked : Bool) : NoticeRecord := ⟨false, masked, none, 0, false, none⟩

/-- The records after a power-on: MODE_CHANGE masked, the rest unmasked (R164). -/
def noticeRecords : Vector NoticeRecord 14 :=
  buildTable 14 fun i => noticeRecord (i == NoticeKind.modeChange.index)

/-- The Notice Unit before START is raised; the AIR lamp shows DOUBLE for SAFE (R164, R194). -/
def noticeUnit : NoticeUnit := ⟨noticeRecords, 0, ⟨.double, 0⟩, ⟨.off, 0⟩⟩

/-- START raised with detail POWER_ON: its record, and the advanced tag counter (R155, R156, R194). -/
def noticeUnitStarted : NoticeUnit :=
  { noticeUnit with
    records := noticeRecords.set 0 ⟨true, false, some (.startCause .powerOn), 1, false, none⟩
    tagCounter := 1 }

/-- The START notice of a power-on (R156, R164). -/
def startFrame : Frame := noticeFrame 0 0 .start (.startCause .powerOn)

/-- A tally after a power-on (R175). -/
def tally : Tally := ⟨0, .off, 0, 0, false, false, false⟩

/-- The Tally Unit, its interval timer starting (R175, R194). -/
def tallyUnit : TallyUnit := ⟨Vector.replicate 4 tally, some Config.msPerSecond⟩

/-- The Integrity Unit, its scrub timer starting with the power-on interval (R185, R194). -/
def integrity : IntegrityUnit := ⟨[], 0, 0, some (scrubMs params.scrubInterval)⟩

/-- The Park Controller (R194). DESIGN CHOICE: both lines unarmed (log entry 13). -/
def parkController : ParkController := ⟨0, none, ⟨false, false⟩, none, .powerOn⟩

end Sys2Proof.Machine.PowerOn
end

