-- ==== Sys2Proof/Machine/State.lean ====
section
/-! DEFINITION. The state of the CA2410: its pins, the queue of commands waiting for it, and its eleven
blocks, each holding what the block overview of spec/00_scope.md gives it. -/

namespace Sys2Proof.Machine

open Sys2Proof

/-- The reasons a step could stop with a fault. The part has none: every event of the table has an effect
in every state (damage of a table is a notice, R179), so this type has no constructor. -/
inductive Fault
  deriving DecidableEq, Repr

/-- The reasons a step could be refused. -/
inductive Refusal
  /-- Raised by an arm of Dispatch.lean that has no meaning yet; safe. No arm of this model raises it. -/
  | notModelled (mnemonic : String)
  deriving DecidableEq, Repr

/-- The machine. `draws` is the model's own: how many free values it has drawn (log entry 30). -/
structure State where
  supplyUp : Bool
  resetLow : Bool
  pending : List Instr
  port : PortUnit
  intake : Intake
  quantity : QuantityTable
  ctrl : Controller
  timer : TimerUnit
  cmd : CommandEngine
  mgmt : Management
  notice : NoticeUnit
  tally : TallyUnit
  integ : IntegrityUnit
  park : ParkController
  draws : Nat
  deriving DecidableEq, Repr

/-- The machine right after the power-on sequence (R194): every block at its power-on state, CONFIG and
SAFE, START pending with its frame the first in RPQ, no command waiting. DESIGN CHOICE: both door lines
high (log entry 13). -/
def State.reset : State where
  supplyUp := true
  resetLow := false
  pending := []
  port := { PowerOn.port with rpq := [PowerOn.startFrame] }
  intake := PowerOn.intake
  quantity := PowerOn.quantity
  ctrl := PowerOn.controller
  timer := PowerOn.timerUnit ⟨PowerOn.doorLine false, PowerOn.doorLine false⟩
  cmd := PowerOn.commandEngine
  mgmt := PowerOn.management
  notice := PowerOn.noticeUnitStarted
  tally := PowerOn.tallyUnit
  integ := PowerOn.integrity
  park := PowerOn.parkController
  draws := 0

end Sys2Proof.Machine
end

