-- ==== Sys2Proof/Machine/Flags.lean ====
section
/-! DEFINITION. What the part derives from what it holds: conditions, SAFE causes, the mode by precedence,
comparators, the slot's judgment of a value, lamp patterns. All pure functions. -/

namespace Sys2Proof.Machine

open Sys2Proof

/-- A timer has run out. -/
def expired (t : Option Nat) : Bool := t == some 0

/-! ### Slots and comparators (chapter 2) -/

/-- A slot's status makes its role usable when it is FRESH or SUSPECT (R2). -/
def SlotStatus.usable : SlotStatus → Bool
  | .fresh => true
  | .suspect => true
  | .empty => false
  | .stale => false
  | .fault => false

/-- One more qualifying value: the state changes when the progress reaches the confirm count (R44). -/
def CompState.advance (confirm : Nat) (st : CompState) : CompState :=
  if confirm ≤ st.progress + 1 then ⟨!st.isSet, 0⟩ else ⟨st.isSet, st.progress + 1⟩

/-- Whether a seen value moves a comparator toward its other state (R44, R45). -/
def CompSetup.qualifies (c : CompSetup) (isSet : Bool) (seen : Int) : Bool :=
  match c.direction, isSet with
  | .off, _ => false
  | .above, false => c.set ≤ seen
  | .above, true => seen < c.clear
  | .below, false => seen ≤ c.set
  | .below, true => c.clear < seen

/-- A comparator's evaluation at an acceptance (R43 to R45). With direction OFF the state is CLEAR and the
progress 0, and an acceptance does not change them. -/
def CompSetup.evaluate (c : CompSetup) (st : CompState) (seen : Int) : CompState :=
  match c.direction with
  | .off => st
  | _ => if c.qualifies st.isSet seen then st.advance c.confirm else ⟨st.isSet, 0⟩

/-- The middle one of three values (R43). -/
def median3 (a b c : Int) : Int := max (min a b) (min (max a b) c)

/-- The value the comparators see, the history already holding the accepted value (R43). -/
def seenValue (sm : Smoothing) (history : List Int) (v : Int) : Int :=
  match sm, history.reverse with
  | .median3, a :: b :: c :: _ => median3 a b c
  | _, _ => v

/-- The history with an accepted value appended; the oldest of eight is dropped (R38). -/
def appendHistory (h : List Int) (v : Int) : List Int := (if h.length < 8 then h else h.drop 1) ++ [v]

/-- The slot after an acceptance (R38). -/
def Slot.accept (setup : SlotSetup) (sl : Slot) (v : Int) : Slot :=
  let h := appendHistory sl.history v
  let seen := seenValue setup.smoothing h v
  { sl with
    status := .fresh
    value := some v
    age := 0
    agePart := 0
    staleTimer := some (setup.stale * Config.msPerSecond)
    history := h
    pendingJump := none
    rejects := 0
    compA := setup.compA.evaluate sl.compA seen
    compB := setup.compB.evaluate sl.compB seen }

/-- What becomes of a reading whose sensor state is OK (R36, R37). -/
inductive Verdict | rejectRange | rejectStep | accepted
  deriving DecidableEq, Repr

/-- `|x - y| ≤ n`, worked out exactly (R26). -/
def within (x y : Int) (n : Nat) : Bool := (x - y).natAbs ≤ n

/-- The range check, then the step check where it is made (R36, R37). -/
def judge (setup : SlotSetup) (sl : Slot) (v : Int) : Verdict :=
  if v < setup.min || setup.max < v then .rejectRange
  else if sl.status.usable && 0 < setup.step then
    match sl.value with
    | none => .accepted
    | some l =>
      if within v l setup.step then .accepted
      else
        match sl.pendingJump with
        | some p => if within v p setup.step then .accepted else .rejectStep
        | none => .rejectStep
  else .accepted

/-- One more rejection, saturating at 255; the third makes a FRESH slot SUSPECT (R36, R37, R39). -/
def Slot.countReject (sl : Slot) : Slot :=
  let n := min 255 (sl.rejects + 1)
  { sl with rejects := n, status := if 3 ≤ n && sl.status == .fresh then .suspect else sl.status }

/-- Both comparators keep their state and lose their progress (R46). -/
def Slot.clearProgress (sl : Slot) : Slot :=
  { sl with compA := ⟨sl.compA.isSet, 0⟩, compB := ⟨sl.compB.isSet, 0⟩ }

/-- The slot as it becomes FAULT (R34, R52). -/
def Slot.toFault (sl : Slot) : Slot :=
  { sl.clearProgress with status := .fault, pendingJump := none }

/-- The second that ends as the stale timer runs out, counted at the expiry (R31, R32). -/
def Slot.countSecond (sl : Slot) : Slot :=
  if Config.msPerSecond ≤ sl.agePart then { sl with age := min 255 (sl.age + 1), agePart := 0 } else sl

/-- The slot as its stale timer ends (R32). -/
def Slot.endStale (sl : Slot) : Slot := { sl.countSecond with staleTimer := none }

/-- A slot that is not FAULT becomes STALE as its stale timer expires (R40). -/
def Slot.toStale (sl : Slot) : Slot := { sl.clearProgress with status := .stale, pendingJump := none }

/-- The stale timer as it starts under a setup: by its stale limit, unless the slot is UNUSED (R25, R32). -/
def SlotSetup.staleStart (setup : SlotSetup) : Option Nat :=
  if setup.kind = .unused then none else some (setup.stale * Config.msPerSecond)

/-- The slot emptied, with its stale timer (R28, R53). -/
def emptiedSlot (staleTimer : Option Nat) : Slot := { PowerOn.slot with staleTimer := staleTimer }

/-- What a slot's report carries (R47). -/
def Slot.view (sl : Slot) : SlotView := ⟨sl.status, sl.compA.isSet, sl.compB.isSet⟩

/-! ### Conditions and SAFE causes (chapter 1) -/

/-- The reported state of a role's slot; an unbound role is as an EMPTY slot (R1, R2). -/
def roleView (b : PerRole (Option (Fin 32))) (views : Vector SlotView 32) (r : Role) : SlotView :=
  match b.get r with
  | some i => views[i]
  | none => PowerOn.slotView

/-- The seven conditions, derived from the role bindings and the reported slot states (R3 to R7). -/
def deriveConditions (b : PerRole (Option (Fin 32))) (views : Vector SlotView 32) : Conditions :=
  let v := roleView b views
  let usable := fun r => (v r).status.usable
  { dirtyOut := !usable .outPm || (v .outPm).compA || (usable .outGas && (v .outGas).compA)
    severe := usable .outPm && (v .outPm).compB
    stuffy := usable .cabCo2 && (v .cabCo2).compA
    co2High := usable .cabCo2 && (v .cabCo2).compB
    fog := usable .cabRh && (v .cabRh).compA
    dirtyIn := usable .cabPm && (v .cabPm).compA
    clogged := usable .filterDp && (v .filterDp).compA }

/-- Whether a role set holds a role (R199). -/
def roleInSet (set : Byte) (r : Role) : Bool := set.getLsbD r.bit

/-- The SAFE cause set: TABLE_FAULT while the Fault List is reported non-empty, INPUT_LOST while a critical
role is bound and its slot is STALE or FAULT (R10, R11). -/
def deriveCauses (critical : Byte) (c : Controller) : SafeCauses :=
  { tableFault := c.faultsReported
    inputLost := Role.all.any fun r =>
      roleInSet critical r && (c.bindings.get r).isSome &&
        ((roleView c.bindings c.slotViews r).status == .stale ||
          (roleView c.bindings c.slotViews r).status == .fault) }

/-- The mode by precedence (R13); `demistOn` is whether FOG is true and DEMIST is in MODE_ENABLE. -/
def precedence (c : Controller) (demistOn : Bool) : Mode :=
  if c.causes.tableFault || c.causes.inputLost then .safe
  else if c.timerView.door1Open || c.timerView.door2Open then .door
  else if c.timerView.override then .manual
  else if c.timerView.recovery then .recover
  else if demistOn then .demist
  else if c.timerView.purge then .purge
  else if c.conditions.dirtyOut then .shield
  else .fresh

/-- The condition changes a hand-over carries (R5). -/
def conditionChanges (old new : Conditions) : Handover where
  mode := none
  stuffy := if old.stuffy == new.stuffy then none else some new.stuffy
  severe := if old.severe == new.severe then none else some new.severe
  co2High := if old.co2High == new.co2High then none else some new.co2High

/-- A hand-over with nothing in it is not made. -/
def Handover.isEmpty (h : Handover) : Bool :=
  h.mode.isNone && h.stuffy.isNone && h.severe.isNone && h.co2High.isNone

/-- MODE_ENABLE's members (R199). -/
def Params.enablesPurge (p : Params) : Bool := p.modeEnable.getLsbD 0
/-- MODE_ENABLE's members (R199). -/
def Params.enablesRecover (p : Params) : Bool := p.modeEnable.getLsbD 1
/-- MODE_ENABLE's members (R199). -/
def Params.enablesDemist (p : Params) : Bool := p.modeEnable.getLsbD 2

/-! ### Doors and timers (chapter 4) -/

/-- DOOR_OPEN holds while the debounced state of a line is OPEN (R73). -/
def TimerUnit.doorOpen (t : TimerUnit) : Bool := t.doors.door1.isOpen || t.doors.door2.isOpen

/-- What the Timer Unit's report carries (R14). -/
def TimerUnit.view (t : TimerUnit) : TimerView :=
  ⟨t.doors.door1.isOpen, t.doors.door2.isOpen, t.purge.isSome, t.recovery.isSome, t.overrideTimer.isSome⟩

/-- The bin a Recovery Table lookup picks: of those with a length above 0 and a threshold at or below the
measured value, the largest threshold, and of these the lowest index (R80). -/
def pickBin (measured : Nat) : List RecoveryBin → Option RecoveryBin
  | [] => none
  | b :: rest =>
    let best := pickBin measured rest
    if 0 < b.length && b.threshold ≤ measured then
      match best with
      | some c => if b.threshold < c.threshold then some c else some b
      | none => some b
    else best

/-! ### Lamps (R161 to R163) -/

/-- The AIR lamp's pattern for a mode (R162). -/
def airPattern : Mode → LampPattern
  | .fresh => .off
  | .demist => .off
  | .park => .off
  | .shield => .on
  | .door => .on
  | .recover => .on
  | .purge => .slow
  | .manual => .fast
  | .safe => .double

/-- The SERVICE lamp's pattern for the notice records (R163). -/
def servicePattern (rs : Vector NoticeRecord 14) : LampPattern :=
  if rs.toList.any (·.escalated) then .double
  else if rs[NoticeKind.filterClogged.index].pending || rs[NoticeKind.actuatorFault.index].pending then .on
  else .off

/-- A lamp takes a pattern: a new one begins at its first lit time, the same one runs on (R161). -/
def Lamp.show (l : Lamp) (p : LampPattern) : Lamp := if l.pattern = p then l else ⟨p, 0⟩

/-- The length of one repetition of a pattern, in milliseconds (R161); 1 for the steady ones. -/
def LampPattern.period : LampPattern → Nat
  | .off => 1
  | .on => 1
  | .slow => 2000
  | .fast => 500
  | .double => 2000

/-- Whether a lamp's line is drawn low, the lamp lit (R161). -/
def Lamp.lit (l : Lamp) : Bool :=
  match l.pattern with
  | .off => false
  | .on => true
  | .slow => l.part < 1000
  | .fast => l.part < 250
  | .double => l.part < 125 || (250 ≤ l.part && l.part < 375)

/-! ### Sample Window and scaling (chapter 3) -/

/-- Whether a source node lies in the Sample Window (R55). -/
def inWindow (p : Params) (src : Nat) : Bool := p.windowBase ≤ src && src < p.windowBase + p.windowSize

/-- A sum clamped to -32768..32767 (R61). -/
def clampValue (x : Int) : Int := max (-32768) (min 32767 x)

/-- The engineering value of a raw value (R61): exact product, divided by 256 truncating toward zero,
offset, clamped. -/
def scale (raw gain offset : Int) : Int := clampValue ((raw * gain).tdiv 256 + offset)

/-! ### Pins (section 11.6) -/

/-- The device runs while the supply is in range and RST_N is high (R194). -/
def State.alive (s : State) : Bool := s.supplyUp && !s.resetLow

/-- DN_EN is high while the device transmits on DN (R130). -/
def State.dnEn (s : State) : Bool := s.port.dnTx.isSome

end Sys2Proof.Machine
end

