-- ==== Sys2Proof/Machine/Operands.lean ====
section
/-! DEFINITION. The operand forms of the requests: argument bytes turned into the content a write stores, with
the range checks of R18, R26 to R29, R65, R79, R96, R147, R172, R197 and R199; and the result data a
read shows (R198). -/

namespace Sys2Proof.Machine

open Sys2Proof

/-! ### Arguments -/

/-- WRITE_MAP's content; k is checked for THIN alone (R65). -/
def mapContentOf (source channel slot : Byte) (gain offset : Word16) (rule k : Byte) : Option MapContent :=
  if 62 < source.toNat || 15 < channel.toNat then none
  else
    match boundedIndex 32 slot.toNat with
    | none => none
    | some i =>
      let content := fun r => some (⟨true, source.toNat, channel.toNat, i, gain.toInt, offset.toInt, r⟩ : MapContent)
      if rule = 0 then content .drop
      else if rule = 1 then content .pass
      else if rule = 2 && 2 ≤ k.toNat && k.toNat ≤ 16 then content (.thin k.toNat)
      else none

/-- WRITE_SLOT's setup over given comparator setups (R28). -/
def slotSetupOf (kind : Byte) (lo hi step : Word16) (stale smoothing : Byte) (a b : CompSetup) :
    Option SlotSetup :=
  match SlotKind.ofCode kind.toNat, Smoothing.ofCode smoothing.toNat with
  | some k, some sm =>
    if lo.toInt ≤ hi.toInt && step.toNat ≤ 32767 && 1 ≤ stale.toNat then
      some ⟨k, lo.toInt, hi.toInt, step.toNat, stale.toNat, sm, a, b⟩
    else none
  | _, _ => none

/-- The order R27 asks of a comparator's levels. -/
def levelsOrdered : Direction → Int → Int → Bool
  | .off, _, _ => true
  | .above, set, clear => clear ≤ set
  | .below, set, clear => set ≤ clear

/-- WRITE_COMPARATOR's setup (R29). -/
def compSetupOf (direction : Byte) (set clear : Word16) (confirm : Byte) : Option CompSetup :=
  match Direction.ofCode direction.toNat with
  | some d =>
    if 1 ≤ confirm.toNat && confirm.toNat ≤ 15 && levelsOrdered d set.toInt clear.toInt then
      some ⟨d, set.toInt, clear.toInt, confirm.toNat⟩
    else none
  | none => none

/-- WRITE_MODE's record; MANUAL's flap and blower are neither checked nor stored (R18). -/
def modeRecordOf (m : Mode) (flap blower carbon demist : Byte) : Option ModeRecord :=
  match readFlag carbon, readFlag demist with
  | some c, some d =>
    if m = .manual then some ⟨0, 0, c, d⟩
    else if flap.toNat ≤ 100 && blower.toNat ≤ 15 then some ⟨flap.toNat, blower.toNat, c, d⟩
    else none
  | _, _ => none

/-- WRITE_RECOVERY's bin (R79). -/
def recoveryBinOf (threshold length : Word16) : Option RecoveryBin :=
  if threshold.toNat ≤ 1023 && length.toNat ≤ 600 then some ⟨threshold.toNat, length.toNat⟩ else none

/-- WRITE_ACTUATOR's entry; with present no the node is not checked and 0 is stored (R96). -/
def actuatorEntryOf (present node : Byte) : Option ActuatorEntry :=
  match readFlag present with
  | some true => if 2 ≤ node.toNat && node.toNat ≤ 62 then some ⟨true, node.toNat⟩ else none
  | some false => some ⟨false, 0⟩
  | none => none

/-- OVERRIDE's record (R91). -/
def overrideOf (flap blower : Byte) (duration : Word16) (origin : OriginClass) : Option OverrideRecord :=
  let choice : Option FlapChoice :=
    if flap = 0 then some .fresh else if flap = 1 then some .recirc else none
  match choice with
  | some f =>
    if blower.toNat ≤ 15 && 30 ≤ duration.toNat && duration.toNat ≤ 3600 then
      some ⟨f, blower.toNat, duration.toNat, origin⟩
    else none
  | none => none

/-- TALLY_SETUP's control over a tally, with the overflow flag cleared if asked (R172). -/
def tallySetupOf (t : Tally) (group mask : Byte) (filter : Word16) (flags : Byte) : Option Tally :=
  match TallyGroup.ofCode group.toNat with
  | none => none
  | some g =>
    if (g == .off || mask.toNat < 2 ^ g.width) && filter.toNat < 2 ^ 9 && flags.toNat < 8 then
      some { t with
        group := g
        mask := if g = .off then 0 else mask
        filter := filter
        notify := flags.getLsbD 0
        panelReadable := flags.getLsbD 1
        overflow := t.overflow && !flags.getLsbD 2 }
    else none

/-! ### Parameters (R147, R199) -/

/-- The number of parameters (R199). -/
def paramCount : Nat := 22

/-- A parameter's value as the two bytes of READ_PARAM carry it (R199). -/
def Params.value (p : Params) : Nat → Nat
  | 0 => p.windowBase
  | 1 => p.windowSize
  | 2 => if p.unmappedAction = .pass then 0 else 1
  | 3 => p.panelNode
  | 4 => p.dnShare
  | 5 => p.purgeLength
  | 6 => p.purgeGap
  | 7 => p.purgeLimit
  | 8 => p.severeStop.toNat
  | 9 => p.dirtyInBoost
  | 10 => p.modeEnable.toNat
  | 11 => p.criticalRoles.toNat
  | 12 => p.ackTimeout
  | 13 => p.retryLimit
  | 14 => if p.timeoutAction = .abandon then 0 else 1
  | 15 => if p.failurePolicy = .continue_ then 0 else 1
  | 16 => p.escalation
  | 17 => p.scrubInterval
  | 18 => if p.door1Debounce = .short then 0 else 1
  | 19 => if p.door2Debounce = .short then 0 else 1
  | 20 => p.doorWake.toNat
  | 21 => p.precleanLength
  | _ => 0

/-- Whether a value lies in a parameter's range (R147, R199); the alignment of the window is checked apart. -/
def paramInRange (n v : Nat) : Bool :=
  match n with
  | 0 => v ≤ 63
  | 1 => [1, 2, 4, 8, 16, 32, 64].contains v
  | 2 => v ≤ 1
  | 3 => v == 0 || (2 ≤ v && v ≤ 62)
  | 4 => v ≤ 3
  | 5 => 10 ≤ v && v ≤ 600
  | 6 => 30 ≤ v && v ≤ 1800
  | 7 => 1 ≤ v && v ≤ 7
  | 8 => v ≤ 1
  | 9 => v ≤ 15
  | 10 => v < 8
  | 11 => v < 64
  | 12 => 10 ≤ v && v ≤ 250
  | 13 => 1 ≤ v && v ≤ 15
  | 14 => v ≤ 1
  | 15 => v ≤ 1
  | 16 => [0, 15, 30, 60, 120].contains v
  | 17 => v ≤ 255
  | 18 => v ≤ 1
  | 19 => v ≤ 1
  | 20 => v < 4
  | 21 => 60 ≤ v && v ≤ 1800
  | _ => false

/-- A debounce length of a code. -/
def debounceOfCode (v : Nat) : DebounceLength := if v = 0 then .short else .long

/-- The entry with one parameter's value, in range, written (R148). -/
def Params.write (p : Params) (n v : Nat) : Params :=
  match n with
  | 0 => { p with windowBase := v }
  | 1 => { p with windowSize := v }
  | 2 => { p with unmappedAction := if v = 0 then .pass else .drop }
  | 3 => { p with panelNode := v }
  | 4 => { p with dnShare := v }
  | 5 => { p with purgeLength := v }
  | 6 => { p with purgeGap := v }
  | 7 => { p with purgeLimit := v }
  | 8 => { p with severeStop := v = 1 }
  | 9 => { p with dirtyInBoost := v }
  | 10 => { p with modeEnable := byteOf v }
  | 11 => { p with criticalRoles := byteOf v }
  | 12 => { p with ackTimeout := v }
  | 13 => { p with retryLimit := v }
  | 14 => { p with timeoutAction := if v = 0 then .abandon else .persist }
  | 15 => { p with failurePolicy := if v = 0 then .continue_ else .flush }
  | 16 => { p with escalation := v }
  | 17 => { p with scrubInterval := v }
  | 18 => { p with door1Debounce := debounceOfCode v }
  | 19 => { p with door2Debounce := debounceOfCode v }
  | 20 => { p with doorWake := byteOf v }
  | 21 => { p with precleanLength := v }
  | _ => p

/-- The window's base is a whole multiple of its size (R55, R68). -/
def Params.windowAligned (p : Params) : Bool := p.windowBase % p.windowSize == 0

/-- The states WRITE_PARAM is taken in: CONFIG, and RUN for PURGE_LENGTH and PURGE_GAP (R147, R148). -/
def paramStates (n : Nat) : List OpState := if n = 5 || n = 6 then [.config, .run] else [.config]

/-! ### Result data (R198) -/

/-- A comparator's state and progress in one byte: bit 4 and bits 0 to 3. -/
def CompState.byte (c : CompState) : Byte := byteOf (16 * c.isSet.toNat + c.progress)

/-- A comparator setup: direction, set level, clear level, confirm count. -/
def CompSetup.bytes (c : CompSetup) : List Byte :=
  byteOf c.direction.code :: (intBytes2 c.set ++ intBytes2 c.clear ++ [byteOf c.confirm])

/-- READ_SLOT part 0. -/
def slotBytes0 (setup : SlotSetup) (faulted : Bool) (sl : Slot) : List Byte :=
  byteOf setup.kind.code :: (intBytes2 setup.min ++ intBytes2 setup.max ++ natBytes2 setup.step ++
    [byteOf setup.stale, byteOf setup.smoothing.code, flagByte faulted, byteOf sl.status.code] ++
    optionalBytes 2 (sl.value.map intBytes2) ++ [byteOf sl.age] ++
    optionalBytes 2 (sl.pendingJump.map intBytes2) ++
    [byteOf sl.rejects, sl.compA.byte, sl.compB.byte, byteOf sl.history.length])

/-- READ_SLOT part 1. -/
def slotBytes1 (setup : SlotSetup) (faulted : Bool) : List Byte :=
  setup.compA.bytes ++ setup.compB.bytes ++ [flagByte faulted]

/-- READ_HISTORY. -/
def historyBytes (h : List Int) : List Byte := byteOf h.length :: h.flatMap intBytes2

/-- READ_MAP. -/
def mapBytes (c : MapContent) (d : MapDyn) (faulted : Bool) : List Byte :=
  [flagByte c.valid, byteOf c.source, byteOf c.channel, byteOf c.slot.val] ++ intBytes2 c.gain ++
    intBytes2 c.offset ++ [byteOf c.rule.code, byteOf c.rule.k, byteOf d.thin] ++
    optionalBytes 1 (d.lastTag.map fun t => [t]) ++ [flagByte faulted]

/-- READ_MODE. -/
def modeBytes (r : ModeRecord) : List Byte :=
  [byteOf r.flap, byteOf r.blower, flagByte r.carbon, flagByte r.demist]

/-- READ_RECOVERY. -/
def recoveryBytes (b : RecoveryBin) (faulted : Bool) : List Byte :=
  natBytes2 b.threshold ++ natBytes2 b.length ++ [flagByte faulted]

/-- An outstanding command in READ_ACTUATOR. -/
def Outstanding.bytes (o : Outstanding) : List Byte :=
  [o.tag, byteOf o.value, byteOf o.attempts, byteOf o.phase.code, flagByte o.persisting]

/-- The position of a member counted from the oldest, 1 up; 0 for none. -/
def cmqPosition (cmq : List Actuator) (a : Actuator) : Nat :=
  match cmq.idxOf? a with
  | some i => i + 1
  | none => 0

/-- READ_ACTUATOR. -/
def actuatorBytes (e : ActuatorEntry) (faulted : Bool) (d : Delivery) (c : CommandEngine) (a : Actuator) :
    List Byte :=
  [flagByte e.present, byteOf e.node, flagByte faulted] ++
    optionalBytes 1 (d.target.map fun v => [byteOf v]) ++
    optionalBytes 1 (d.pendingValue.map fun v => [byteOf v]) ++ [byteOf (cmqPosition c.cmq a)] ++
    optionalBytes 5 (d.outstanding.map Outstanding.bytes) ++
    optionalBytes 2 (d.reported.map fun r => [byteOf r.position, byteOf r.status.code]) ++
    [flagByte d.failed] ++ optionalBytes 1 (d.lastAbandoned.map fun t => [t]) ++
    [flagByte c.halted, c.tagCounter]

/-- READ_PARAM (R199). -/
def paramBytes (v : Nat) (faulted : Bool) : List Byte := natBytes2 v ++ [flagByte faulted]

/-- READ_STATE part 0. -/
def stateBytes0 (s : State) : List Byte :=
  [byteOf s.mgmt.opState.code, byteOf s.ctrl.mode.code, byteOf s.ctrl.conditions.code,
    byteOf s.ctrl.causes.code, byteOf s.park.startCause.code,
    byteOf (s.timer.doors.door1.isOpen.toNat + 2 * s.timer.doors.door2.isOpen.toNat)] ++
    natBytes2 s.timer.measurement.value ++ [flagByte s.timer.measurement.counting, flagByte s.cmd.halted]

/-- A timer's running flag and seconds remaining. -/
def timerBytes (t : Option Nat) : List Byte := flagByte t.isSome :: natBytes2 (secondsLeft t)

/-- An override record. -/
def OverrideRecord.bytes (r : OverrideRecord) : List Byte :=
  [byteOf r.flap.code, byteOf r.blower] ++ natBytes2 r.duration ++ [byteOf r.origin.code]

/-- READ_STATE part 1. -/
def stateBytes1 (s : State) : List Byte :=
  timerBytes s.timer.purge ++ timerBytes s.timer.gap ++ timerBytes s.timer.recovery ++
    timerBytes s.timer.overrideTimer ++ [byteOf s.timer.purgeCount] ++
    optionalBytes 5 (s.timer.overrideRecord.map OverrideRecord.bytes)

/-- A set of notice kinds as a bitmap (R196). -/
def kindSet (rs : Vector NoticeRecord 14) (p : NoticeRecord → Bool) : Nat :=
  (NoticeKind.all.map fun k => if p rs[k.index] then 2 ^ k.index.val else 0).sum

/-- READ_STATE part 2. -/
def stateBytes2 (s : State) : List Byte :=
  [byteOf s.port.ptq.length, byteOf s.port.fwq.length, byteOf s.port.rpq.length,
    byteOf s.port.dnShareCount, byteOf s.port.upRunCount, byteOf s.integ.faultList.length] ++
    natBytes2 s.integ.corrected ++ natBytes2 (kindSet s.notice.records (·.pending)) ++
    natBytes2 (kindSet s.notice.records (·.escalated))

/-- A notice record in READ_NOTICES. -/
def NoticeRecord.bytes (r : NoticeRecord) : List Byte :=
  [byteOf (r.pending.toNat + 2 * r.masked.toNat + 4 * r.escalated.toNat + 8 * r.escalationTimer.isSome.toNat +
      16 * r.detail.isSome.toNat), byteOf r.count] ++
    (match r.detail with
      | some d => d.bytes
      | none => [0, 0]) ++ [byteOf (secondsLeft r.escalationTimer)]

/-- READ_NOTICES parts 0 to 3. -/
def noticeBytes (n : NoticeUnit) (part : Fin 4) : List Byte :=
  match part with
  | 3 => ((n.records.toList.drop 12).flatMap NoticeRecord.bytes) ++
      [n.tagCounter, byteOf n.airLamp.pattern.code, byteOf n.serviceLamp.pattern.code]
  | p => ((n.records.toList.drop (4 * p.val)).take 4).flatMap NoticeRecord.bytes

/-- TALLY_READ. -/
def tallyBytes (t : Tally) : List Byte :=
  word32Bytes t.value ++ [flagByte t.overflow, byteOf t.group.code, t.mask] ++ word16Bytes t.filter ++
    [byteOf (t.notify.toNat + 2 * t.panelReadable.toNat)]

/-- READ_FAULTS. -/
def faultsBytes (u : IntegrityUnit) : List Byte :=
  byteOf u.faultList.length ::
    (u.faultList.flatMap fun e => [byteOf e.tableCode, byteOf e.tableIndex]) ++
    natBytes2 u.corrected ++ [byteOf u.scrubPos.val, flagByte u.scrubTimer.isSome]

/-- Whether a notice kind's bit stands in a kind set (R196). -/
def kindInSet (set : Word16) (k : NoticeKind) : Bool := set.getLsbD k.index.val

/-- A kind set names the fourteen kinds only (R157, R158, R197). -/
def kindSetOk (set : Word16) : Bool := set.toNat < 2 ^ 14

end Sys2Proof.Machine
end

