-- ==== Sys2Proof/Machine/Ops.lean ====
section
/-! DEFINITION. The shared operations: running an event, updating one block, raising a notice, counting a
sub-event, offering a frame to a queue, reporting to the Controller, and the checked read of a protected
entry with correction, fault and table wipe (chapters 6, 8, 9 and 10). -/

namespace Sys2Proof.Machine

open Sys2Proof

/-! ### One block updated -/

/-- The Port Unit updated. -/
def State.onPort (f : PortUnit → PortUnit) (s : State) : State := { s with port := f s.port }
/-- The Sample Intake updated. -/
def State.onIntake (f : Intake → Intake) (s : State) : State := { s with intake := f s.intake }
/-- The Quantity Table updated. -/
def State.onQuantity (f : QuantityTable → QuantityTable) (s : State) : State := { s with quantity := f s.quantity }
/-- The Controller updated. -/
def State.onCtrl (f : Controller → Controller) (s : State) : State := { s with ctrl := f s.ctrl }
/-- The Timer Unit updated. -/
def State.onTimer (f : TimerUnit → TimerUnit) (s : State) : State := { s with timer := f s.timer }
/-- The Command Engine updated. -/
def State.onCmd (f : CommandEngine → CommandEngine) (s : State) : State := { s with cmd := f s.cmd }
/-- The Management Responder updated. -/
def State.onMgmt (f : Management → Management) (s : State) : State := { s with mgmt := f s.mgmt }
/-- The Notice Unit updated. -/
def State.onNotice (f : NoticeUnit → NoticeUnit) (s : State) : State := { s with notice := f s.notice }
/-- The Tally Unit updated. -/
def State.onTally (f : TallyUnit → TallyUnit) (s : State) : State := { s with tally := f s.tally }
/-- The Integrity Unit updated. -/
def State.onInteg (f : IntegrityUnit → IntegrityUnit) (s : State) : State := { s with integ := f s.integ }
/-- The Park Controller updated. -/
def State.onPark (f : ParkController → ParkController) (s : State) : State := { s with park := f s.park }

/-- The operating state changed (R137). -/
def State.setOpState (o : OpState) (s : State) : State := s.onMgmt fun m => { m with opState := o }

/-! ### Frame queues (R127, R128) -/

/-- PTQ's capacity (R127). -/
def ptqCapacity : Nat := 8
/-- FWQ's capacity (R127). -/
def fwqCapacity : Nat := 16
/-- RPQ's capacity (R127). -/
def rpqCapacity : Nat := 8

/-- A frame joins a queue as its newest member, unless the queue is full (R127, R128). -/
def offer (capacity : Nat) (q : List Frame) (f : Frame) : List Frame :=
  if q.length < capacity then q ++ [f] else q

/-! ### Notices (R155, R156, R163) -/

/-- A kind's record. -/
def State.noticeRecord (s : State) (k : NoticeKind) : NoticeRecord := s.notice.records[k.index]

/-- A kind's record replaced, and the SERVICE lamp evaluated again (R163). -/
def NoticeUnit.setRecord (n : NoticeUnit) (k : NoticeKind) (r : NoticeRecord) : NoticeUnit :=
  let rs := n.records.set k.index r
  { n with records := rs, serviceLamp := n.serviceLamp.show (servicePattern rs) }

/-- A kind's record replaced. -/
def State.setNotice (k : NoticeKind) (r : NoticeRecord) (s : State) : State :=
  s.onNotice fun n => n.setRecord k r

/-- A NOTICE frame for the gateway: built with the tag counter's value, which advances whether or not RPQ
takes the frame (R156). -/
def State.sendNotice (k : NoticeKind) (d : Detail) (s : State) : State :=
  (s.onPort fun p => { p with rpq := offer rpqCapacity p.rpq (noticeFrame 0 s.notice.tagCounter k d) }).onNotice
    fun n => { n with tagCounter := n.tagCounter + 1 }

/-- A raise of a kind, but for the start of its escalation timer (R155): count and detail; pending; a frame
if this opened a pending period and the kind is unmasked. -/
def State.raiseRecord (k : NoticeKind) (d : Detail) (s : State) : State :=
  let r := s.noticeRecord k
  let s := s.setNotice k { r with pending := true, detail := some d, count := min 255 (r.count + 1) }
  if !r.pending && !r.masked then s.sendNotice k d else s

/-- A kind's escalation timer starts with an ESCALATION time in seconds; 0 is OFF (R155, R159). -/
def State.startEscalation (k : NoticeKind) (seconds : Nat) (s : State) : State :=
  if seconds = 0 then s
  else s.setNotice k { s.noticeRecord k with escalationTimer := some (seconds * Config.msPerSecond) }

/-- A raise of a kind whose ESCALATION time is known (R155). -/
def State.raiseWith (seconds : Nat) (k : NoticeKind) (d : Detail) (s : State) : State :=
  let opened := !(s.noticeRecord k).pending
  let s := s.raiseRecord k d
  if opened && k.escalating then s.startEscalation k seconds else s

/-! ### Tallies (R166, R171) -/

/-- Whether a tally counts under a mode (R166). -/
def Tally.countsIn (t : Tally) (m : Mode) : Bool := t.filter.getLsbD m.code

/-- Whether a tally selects a sub-event (R165). -/
def Tally.selects (t : Tally) (e : SubEvent) : Bool := t.group == e.group && t.mask.getLsbD e.bit

/-- Whether an amount takes a tally's value past its top (R171). -/
def Tally.wraps (t : Tally) (amount : Nat) : Bool := decide (2 ^ 32 ≤ t.value.toNat + amount)

/-- An amount added to a tally's value modulo 2^32; a wrap sets the overflow flag (R166, R171). -/
def Tally.add (amount : Nat) (t : Tally) : Tally :=
  { t with value := BitVec.ofNat 32 (t.value.toNat + amount), overflow := t.overflow || t.wraps amount }

/-- What a sub-event adds to a tally under a mode (R166). -/
def SubEvent.amount (e : SubEvent) (m : Mode) (t : Tally) : Nat := (t.selects e && t.countsIn m).toNat

/-- The four tallies in index order. -/
def tallyIndexes : List (Fin 4) := [0, 1, 2, 3]

/-! ### Events -/

/-- An event in hand: the state as the event has left it so far, and the tallies whose TALLY_OVERFLOW it still
owes. The raises of one event are made in index order (R171), so they wait for the event's sub-events (log
entry 25). -/
structure Event where
  state : State
  owed : List (Fin 4)
  deriving DecidableEq, Repr

/-- The raises of TALLY_OVERFLOW for tallies that have wrapped, in index order, one for each wrap (R171). -/
def State.raiseOverflows (owed : List (Fin 4)) (s : State) : State :=
  (tallyIndexes.flatMap fun i => owed.filter (· == i)).foldl (fun s i => s.raiseRecord .tallyOverflow (.tally i)) s

/-- The state once the raises an event owes are made. -/
def Event.settled (v : Event) : State := v.state.raiseOverflows v.owed

/-- Amounts added to the four tallies, with the raises this owes (R166, R171). -/
def State.addAmounts (amount : Tally → Nat) (s : State) : Event where
  state := s.onTally fun u => { u with tallies := mapTable (fun t => t.add (amount t)) u.tallies }
  owed := tallyIndexes.filter fun i => s.tally.tallies[i].notify && s.tally.tallies[i].wraps (amount s.tally.tallies[i])

/-- A sub-event given to the Tally Unit within an event, under the current mode (R166). -/
def Event.give (e : SubEvent) (v : Event) : Event :=
  let w := v.state.addAmounts (e.amount v.state.ctrl.mode)
  ⟨w.state, v.owed ++ w.owed⟩

/-- Sub-events given in order, the raises after the last of them (R166, R171). -/
def State.countAll (es : List SubEvent) (s : State) : State := (es.foldl (fun v e => Event.give e v) ⟨s, []⟩).settled

/-- The only sub-event of an event. -/
def State.count (e : SubEvent) (s : State) : State := s.countAll [e]

/-- The one way an event ends before its work is done: the read of a ninth distinct fault has wiped the
tables in place of the rest of the event's work (R182). -/
inductive Wiped | wiped
  deriving DecidableEq, Repr

/-- Work done within one event. It either goes on with a value, or has ended in a table wipe; either way
it leaves the event in hand. -/
abbrev Act (α : Type) := EStateM Wiped Event α

/-- Change the state. -/
def upd (f : State → State) : Act Unit := fun v => .ok () { v with state := f v.state }

/-- Look at the state. -/
def look {α : Type} (f : State → α) : Act α := fun v => .ok (f v.state) v

/-- Give a sub-event to the Tally Unit (R166). -/
def give (e : SubEvent) : Act Unit := fun v => .ok () (v.give e)

/-- Make the raises of TALLY_OVERFLOW that the event owes so far (R171; log entry 25). -/
def raiseOwed : Act Unit := fun v => .ok () ⟨v.settled, []⟩

/-- Do something only if a test holds. -/
def onlyIf (c : Bool) (a : Act Unit) : Act Unit := if c then a else pure ()

/-- Do something for each member of a list, in order. -/
def forAll {α : Type} : List α → (α → Act Unit) → Act Unit
  | [], _ => pure ()
  | x :: xs, f => do
    f x
    forAll xs f

/-- The state an event leaves, the raises it owes made at its end (R171). -/
def Act.after {α : Type} (a : Act α) (s : State) : State :=
  match a ⟨s, []⟩ with
  | .ok _ v => v.settled
  | .error _ v => v.settled

/-- A command's meaning as an event of a running device: a device without supply or held in reset takes no
event (R194). -/
def live (a : Act Unit) (s : State) : Host.Outcome State Fault Refusal :=
  .next (if s.alive then a.after s else s)

/-! ### Offers of passing frames (R128) -/

/-- A frame that is lost at a full queue: its drop sub-event, the last of the event, then QUEUE_DROP (R128; log
entry 25). -/
def dropFrame (e : SubEvent) (q : DropQueue) : Act Unit := do
  give e
  raiseOwed
  upd (State.raiseRecord .queueDrop (.queue q))

/-- A pass-through frame offered to PTQ; a full PTQ drops it (R128). -/
def offerPtq (f : Frame) : Act Unit := do
  let room ← look fun s => decide (s.port.ptq.length < ptqCapacity)
  if room then upd (State.onPort fun p => { p with ptq := offer ptqCapacity p.ptq f }) else dropFrame .ptDrop .ptq

/-- A frame offered to FWQ; a full FWQ drops it (R128). -/
def offerFwq (f : Frame) : Act Unit := do
  let room ← look fun s => decide (s.port.fwq.length < fwqCapacity)
  if room then upd (State.onPort fun p => { p with fwq := offer fwqCapacity p.fwq f }) else dropFrame .fqDrop .fwq

/-- The offer to PTQ as an event of its own. -/
def State.offerPtq (f : Frame) (s : State) : State := (Machine.offerPtq f).after s

/-- The offer to FWQ as an event of its own. -/
def State.offerFwq (f : Frame) (s : State) : State := (Machine.offerFwq f).after s

/-! ### Faulted entries and the slots (R177, R180, R181) -/

/-- Whether an entry is a member of the Fault List (R177, R181). -/
def State.isFaulted (s : State) (e : EntryId) : Bool := s.integ.faultList.contains e

/-- A slot as every reader has it: FAULT while its setup is faulted, from the read that finds the fault until WRITE_SLOT
rewrites the setup, also where an emptying has left the slot's own state EMPTY (R11, R52, R180; log entry 26). -/
def State.slotSeen (s : State) (i : Fin 32) : Slot :=
  if s.isFaulted (.slotSetup i) then { s.quantity.slots[i] with status := .fault } else s.quantity.slots[i]

/-! ### Reports and hand-overs (R2, R14, R82) -/

/-- A report is made; the Controller takes it later (R2, R14, R166). -/
def State.report (r : Report) (s : State) : State := s.onCtrl fun c => { c with reports := c.reports ++ [r] }

/-- The Timer Unit's report (R14). -/
def State.reportTimers (s : State) : State := s.report (.timers s.timer.view)

/-- A slot's report (R47). -/
def State.reportSlot (i : Fin 32) (s : State) : State := s.report (.slot i (s.slotSeen i).view)

/-- A hand-over to the Timer Unit is made; one with nothing in it is not (R82). -/
def State.handOver (h : Handover) (s : State) : State :=
  if h.isEmpty then s else s.onTimer fun t => { t with handovers := t.handovers ++ [h] }

/-! ### Protected entries (R176 to R181) -/

/-- The flipped cells of an entry. -/
def State.flips (s : State) : EntryId → List Nat
  | .channelMap i => s.intake.map[i].flipped
  | .slotSetup i => s.quantity.setups[i].flipped
  | .modeRecord i => s.ctrl.records[i].flipped
  | .recovery i => s.timer.bins[i].flipped
  | .actuator a => (s.cmd.entries.get a).flipped
  | .params => s.mgmt.params.flipped

/-- An entry's flipped cells replaced. -/
def State.setFlips (e : EntryId) (cells : List Nat) (s : State) : State :=
  match e with
  | .channelMap i => s.onIntake fun u => { u with map := u.map.set i { u.map[i] with flipped := cells } }
  | .slotSetup i => s.onQuantity fun u => { u with setups := u.setups.set i { u.setups[i] with flipped := cells } }
  | .modeRecord i => s.onCtrl fun u => { u with records := u.records.set i { u.records[i] with flipped := cells } }
  | .recovery i => s.onTimer fun u => { u with bins := u.bins.set i { u.bins[i] with flipped := cells } }
  | .actuator a => s.onCmd fun u => { u with entries := u.entries.set a { u.entries.get a with flipped := cells } }
  | .params => s.onMgmt fun u => { u with params := { u.params with flipped := cells } }

/-- Correction of damage in one place: written back under a fresh check code, counted, noticed (R178). -/
def State.correct (e : EntryId) (s : State) : State :=
  ((s.setFlips e []).onInteg fun u => { u with corrected := min 65535 (u.corrected + 1) }).raiseRecord
    .tableCorrected (.entry e)

/-- The Integrity Unit's report that a slot setup has become faulted (R2); none for another table. -/
def State.reportSetup (e : EntryId) (s : State) : State :=
  match e with
  | .slotSetup i => s.report (.setupFaulted i)
  | _ => s

/-- The entry joins the Fault List, with the reports this brings (R2, R10, R179). -/
def State.joinFaultList (e : EntryId) (s : State) : State :=
  let wasEmpty := s.integ.faultList.isEmpty
  let s := (s.onInteg fun u => { u with faultList := u.faultList ++ [e] }).reportSetup e
  if wasEmpty then s.report (.faultList true) else s

/-- The entry has been rewritten: it leaves the Fault List, the members behind it close up, and the
Controller is told when the last one leaves (R10, R181). -/
def State.rewritten (e : EntryId) (s : State) : State :=
  if s.isFaulted e then
    let s := s.onInteg fun u => { u with faultList := u.faultList.erase e }
    if s.integ.faultList.isEmpty then s.report (.faultList false) else s
  else s

/-- The Fault List's capacity (R181). -/
def faultListCapacity : Nat := 8

/-! ### The table wipe (R182) -/

/-- A notice record cleared with its mask kept (R164). -/
def NoticeRecord.cleared (r : NoticeRecord) : NoticeRecord := PowerOn.noticeRecord r.masked

/-- The notice records cleared with their masks kept, the SERVICE lamp following (R163, R164). -/
def NoticeUnit.clearRecords (n : NoticeUnit) : NoticeUnit :=
  let rs := mapTable NoticeRecord.cleared n.records
  { n with records := rs, serviceLamp := n.serviceLamp.show (servicePattern rs) }

/-- START raised, and the start cause set (R164, R194). -/
def State.startWith (c : StartCause) (s : State) : State :=
  (s.onPark fun p => { p with startCause := c }).raiseRecord .start (.startCause c)

/-- The table wipe (R182): every table at its power-on content, the Fault List empty, every block's dynamic
state at its link-reset value, CONFIG and SAFE without MODE_CHANGE, the SAFE targets recorded, START and
TABLE_FAULT raised. Kept: the tallies, the door lines, both tag counters, the corrected count, the masks,
the lines' arming. Taken in PARKED it starts the interval timer afresh. -/
def State.tableWipe (s : State) : State :=
  let wasParked := s.mgmt.opState == .parked
  let s : State :=
    { s with
      port := PowerOn.port
      intake := PowerOn.intake
      quantity := PowerOn.quantity
      ctrl := PowerOn.controller
      timer := PowerOn.timerUnit s.timer.doors
      cmd := { PowerOn.commandEngine with tagCounter := s.cmd.tagCounter }
      mgmt := PowerOn.management
      notice := { s.notice with airLamp := s.notice.airLamp.show (airPattern .safe) }.clearRecords
      tally := if wasParked then { s.tally with interval := some Config.msPerSecond } else s.tally
      integ := { PowerOn.integrity with corrected := s.integ.corrected }
      park := { s.park with wakeMinutes := 0, wakeTimer := none, preclean := none } }
  (s.startWith .tableWipe).raiseWith PowerOn.params.escalation .tableFault .wiped

/-- The event ends in a table wipe; the raises it owes come before (R182; log entry 25). -/
def wipeNow {α : Type} : Act α := fun v => .error .wiped ⟨v.settled.tableWipe, []⟩

/-! ### Checked reads (R177 to R179) -/

/-- What a checked read finds, once any correction is made. -/
inductive ReadResult | good | faulted | newlyFaulted
  deriving DecidableEq, Repr

/-- A checked read of the parameters entry. If it faults the entry, the ESCALATION time of TABLE_FAULT is
read from an entry just faulted, so it is the power-on one (R155, R177, R180). -/
def checkParams : Act ReadResult := do
  let faulted ← look fun s => s.isFaulted .params
  if faulted then pure .faulted
  else do
    let places ← look fun s => (s.flips .params).length
    match places with
    | 0 => pure .good
    | 1 => do
      upd (State.correct .params)
      pure .good
    | _ => do
      let full ← look fun s => decide (faultListCapacity ≤ s.integ.faultList.length)
      if full then wipeNow
      else do
        upd (State.joinFaultList .params)
        upd (State.raiseWith PowerOn.params.escalation .tableFault (.entry .params))
        pure .newlyFaulted

/-- The parameters entry as a block reads it: checked, and every field at its power-on value while the entry
is faulted (R147, R180). -/
def readParams : Act Params := do
  let r ← checkParams
  match r with
  | .good => look fun s => s.mgmt.params.content
  | .faulted => pure PowerOn.params
  | .newlyFaulted => pure PowerOn.params

/-- A raise of a kind (R155); an escalating kind that becomes pending reads ESCALATION (R155, R159). -/
def raise (k : NoticeKind) (d : Detail) : Act Unit := do
  let opened ← look fun s => !(s.noticeRecord k).pending
  upd (State.raiseRecord k d)
  onlyIf (opened && k.escalating) do
    let p ← readParams
    upd (State.startEscalation k p.escalation)

/-- A checked read of an entry: already faulted, good, corrected, faulted, or the ninth fault (R177 to
R179, R182). The effect on the entry's block is the reader's (R180). -/
def checkEntry (e : EntryId) : Act ReadResult := do
  let faulted ← look fun s => s.isFaulted e
  if faulted then pure .faulted
  else if e = .params then checkParams
  else do
    let places ← look fun s => (s.flips e).length
    match places with
    | 0 => pure .good
    | 1 => do
      upd (State.correct e)
      pure .good
    | _ => do
      let full ← look fun s => decide (faultListCapacity ≤ s.integ.faultList.length)
      if full then wipeNow
      else do
        upd (State.joinFaultList e)
        raise .tableFault (.entry e)
        pure .newlyFaulted

end Sys2Proof.Machine
end

