-- ==== Sys2Proof/Machine/Slots.lean ====
section
/-! DEFINITION. The Quantity Table's work (chapter 2): the faulted setup, the delivery of a reading, the
stale-timer expiry, and the emptying of the slots. -/

namespace Sys2Proof.Machine

open Sys2Proof

/-- One slot's dynamic state updated. -/
def State.onSlot (i : Fin 32) (f : Slot → Slot) (s : State) : State :=
  s.onQuantity fun q => { q with slots := q.slots.set i (f q.slots[i]) }

/-- A role slot is one the role binding list names (R1, R48; log entry 15). -/
def State.isRoleSlot (s : State) (i : Fin 32) : Bool :=
  Role.all.any fun r => s.ctrl.bindings.get r == some i

/-- INPUT_LOST, for a role slot (R48). -/
def raiseInputLost (i : Fin 32) : Act Unit := do
  let role ← look fun s => s.isRoleSlot i
  onlyIf role (raise .inputLost (.slot i))

/-- The slot becomes FAULT, by a FAULT reading or a setup just found faulted; if it was not FAULT before, its report
reaches the Controller and a role slot raises INPUT_LOST (R34, R52). -/
def slotToFault (i : Fin 32) : Act Unit := do
  let was ← look fun s => s.quantity.slots[i].status == .fault
  upd (State.onSlot i Slot.toFault)
  onlyIf (!was) do
    upd (State.reportSlot i)
    raiseInputLost i

/-- A checked read of a slot's setup. One found faulted by this read has the effect of R52 on the slot; one faulted already
has a slot that is FAULT, and no second effect (R180, State.slotSeen). -/
def readSetup (i : Fin 32) : Act (Option SlotSetup) := do
  let r ← checkEntry (.slotSetup i)
  match r with
  | .good => look fun s => some s.quantity.setups[i].content
  | .faulted => pure none
  | .newlyFaulted => do
    slotToFault i
    pure none

/-- A rejection counted; INPUT_SUSPECT if it made the slot SUSPECT (R36, R37, R39). -/
def rejectReading (i : Fin 32) (f : Slot → Slot) : Act Unit := do
  let before ← look fun s => s.quantity.slots[i].status
  upd (State.onSlot i fun sl => (f sl).countReject)
  let now ← look fun s => s.quantity.slots[i].status
  onlyIf (before != now) do
    upd (State.reportSlot i)
    raise .inputSuspect (.slot i)

/-- A reading of an OK sensor put to the range and step checks (R36 to R38). -/
def judgeReading (i : Fin 32) (setup : SlotSetup) (v : Int) : Act Unit := do
  let verdict ← look fun s => judge setup s.quantity.slots[i] v
  match verdict with
  | .rejectRange => do
    rejectReading i id
    give .rejectRange
  | .rejectStep => do
    rejectReading i fun sl => { sl with pendingJump := some v }
    give .rejectStep
  | .accepted => do
    upd (State.onSlot i fun sl => sl.accept setup v)
    upd (State.reportSlot i)
    give .accepted

/-- A reading delivered to a slot: the first case of R33 that applies. -/
def deliverReading (i : Fin 32) (v : Int) (sensor : SensorState) : Act Unit := do
  let setup ← readSetup i
  match setup with
  | none => give .rejectState
  | some su =>
    if su.kind = .unused then give .rejectRange
    else
      match sensor with
      | .fault => do
        slotToFault i
        give .rejectState
      | .warming => give .rejectState
      | .ok => judgeReading i su v

/-- The stale timer of a slot expires, once it has run out: an acceptance taken before its expiry leaves none (R40,
R42; log entry 3). A FAULT slot, and so one with a faulted setup, stays FAULT: nothing but its timer changes (R40, R52). -/
def staleExpiry (i : Fin 32) : Act Unit := do
  let ranOut ← look fun s => expired s.quantity.slots[i].staleTimer
  onlyIf ranOut do
    let fault ← look fun s => (s.slotSeen i).status == .fault
    upd (State.onSlot i Slot.endStale)
    onlyIf (!fault) do
      upd (State.onSlot i Slot.toStale)
      upd (State.reportSlot i)
      raiseInputLost i

/-- The stale timer of a slot as it starts with those of all slots, at a link reset and at a wake (R32, R53; log entry 9).
A faulted setup's content is not used (R179): its slot is not taken for an UNUSED one (R145), and the limit is a free
value (log entry 30). -/
def State.staleStart (s : State) (i : Fin 32) : Option Nat :=
  if s.isFaulted (.slotSetup i) then
    some (((Config.freeStaleLimit (s.draws + i.val)).val + 1) * Config.msPerSecond)
  else s.quantity.setups[i].content.staleStart

/-- A free value for each slot has been drawn (log entry 30). -/
def State.drawn (s : State) : State := { s with draws := s.draws + 32 }

/-- Every slot's own state emptied, each with its stale timer (R53). One whose setup is faulted is seen FAULT all the same
(R180, State.slotSeen; log entry 26). -/
def QuantityTable.emptyAll (timers : Fin 32 → Option Nat) (q : QuantityTable) : QuantityTable :=
  { q with slots := buildTable 32 fun i => emptiedSlot (timers i) }

/-- What a report of all slots carries (R2, R47). -/
def State.slotViews (s : State) : Vector SlotView 32 := buildTable 32 fun i => (s.slotSeen i).view

/-- At a wake the ages count from 0 and each slot has its stale timer (R32, R53). -/
def QuantityTable.wake (timers : Fin 32 → Option Nat) (q : QuantityTable) : QuantityTable :=
  { q with slots := buildTable 32 fun i => { q.slots[i] with age := 0, agePart := 0, staleTimer := timers i } }

/-- The slots emptied, each with its stale timer: they start at a link reset, not at PARKED entry (R53, R189, R195). -/
def State.emptySlots (timers : Fin 32 → Option Nat) (s : State) : State := s.onQuantity (·.emptyAll timers)

/-- A wake's start of the ages and the stale timers (R53, R191). -/
def State.wakeSlots (s : State) : State := (s.onQuantity (·.wake s.staleStart)).drawn

/-- STALE_TIMER_EXPIRY (R40). -/
def execStaleTimerExpiry (i : Fin 32) (s : State) : Host.Outcome State Fault Refusal := live (staleExpiry i) s

end Sys2Proof.Machine
end

