-- ==== Sys2Proof/Machine/Intake.lean ====
section
/-! DEFINITION. The Sample Intake's work (chapter 3): the lookup, duplicates, scaling, delivery, forwarding. -/

namespace Sys2Proof.Machine

open Sys2Proof

/-- The 64 entry indexes, in order. The manual names no order of reading; this is the model's (log entry 12). -/
def mapIndexes : List (Fin 64) := List.finRange 64

/-- A checked read of a Channel Map entry (R59, R177). -/
def readMapEntry (i : Fin 64) : Act (Option MapContent) := do
  let r ← checkEntry (.channelMap i)
  match r with
  | .good => look fun s => some s.intake.map[i].content
  | .faulted => pure none
  | .newlyFaulted => pure none

/-- Whether an entry as read is valid and has a key (R59). -/
def hasKey (src ch : Nat) : Option MapContent → Bool
  | some c => c.valid && c.source == src && c.channel == ch
  | none => false

/-- The lookup of a key over given entries: every one is read, in the order given (the model's: log entry 12), and
the first with the key is answered (R59, R65). -/
def lookup (src ch : Nat) : List (Fin 64) → Act (Option (Fin 64))
  | [] => pure none
  | i :: is => do
    let c ← readMapEntry i
    let rest ← lookup src ch is
    pure (if hasKey src ch c then some i else rest)

/-- One entry's dynamic fields updated. -/
def State.onMapDyn (i : Fin 64) (f : MapDyn → MapDyn) (s : State) : State :=
  s.onIntake fun u => { u with dyn := u.dyn.set i (f u.dyn[i]) }

/-- The thin counter after one more reading of a passing frame, and whether the reading calls for forwarding
(R64). -/
def thinStep (rule : ForwardRule) (n : Nat) : Nat × Bool :=
  match rule with
  | .drop => (n, false)
  | .pass => (n, true)
  | .thin k => if k ≤ n + 1 then (0, true) else (n + 1, false)

/-- The forwarding call of a passing reading that an entry took (R64). -/
def forwardCall (i : Fin 64) (rule : ForwardRule) : Act Bool := do
  let n ← look fun s => s.intake.dyn[i].thin
  upd (State.onMapDyn i fun d => { d with thin := (thinStep rule n).1 })
  pure (thinStep rule n).2

/-- A matched reading that is not a duplicate: the last tag, scaling, delivery, and the forwarding call of a
passing frame (R60 to R62, R64). -/
def takeMatched (i : Fin 64) (tag : Byte) (passing : Bool) (r : Reading) : Act Bool := do
  upd (State.onMapDyn i fun d => { d with lastTag := some tag })
  let c ← look fun s => s.intake.map[i].content
  deliverReading c.slot (scale r.raw c.gain c.offset) r.sensor
  if passing then forwardCall i c.rule else pure false

/-- One reading taken (R58); it answers whether it calls for forwarding. -/
def takeReading (src tag : Byte) (passing : Bool) (act : UnmappedAction) (r : Reading) : Act Bool := do
  let e ← lookup src.toNat r.channel mapIndexes
  match e with
  | none => do
    give .unmapped
    pure (passing && act == .pass)
  | some i => do
    let d ← look fun s => s.intake.dyn[i]
    if d.lastTag = some tag then do
      give .duplicate
      pure false
    else takeMatched i tag passing r

/-- The readings of a frame in list order; it answers whether any calls for forwarding (R58, R64). -/
def takeReadings (src tag : Byte) (passing : Bool) (act : UnmappedAction) : List Reading → Act Bool
  | [] => pure false
  | r :: rs => do
    let call ← takeReading src tag passing act r
    let rest ← takeReadings src tag passing act rs
    pure (call || rest)

/-- A SAMPLE frame at the Intake, the parameters read once for it: a passing frame outside the Sample Window
goes to FWQ untouched; any other is classified, and forwarded if a reading called for it (R54, R55, R58,
R64). -/
def takeSample (f : Frame) (passing : Bool) : Act Unit := do
  let p ← readParams
  if passing && !inWindow p f.src.toNat then offerFwq f
  else do
    let call ← takeReadings f.src f.tag passing p.unmappedAction ((readingsOf f.payload).getD [])
    onlyIf call (offerFwq f)

end Sys2Proof.Machine
end

