-- ==== Sys2Proof/Machine/Delivery.lean ====
section
/-! DEFINITION. The Command Engine's work (chapter 5): targets handed over, ACKs, retries, abandonment, the
completion report. -/

namespace Sys2Proof.Machine

open Sys2Proof

/-- One actuator's delivery state updated. -/
def CommandEngine.onDelivery (a : Actuator) (f : Delivery → Delivery) (c : CommandEngine) : CommandEngine :=
  { c with delivery := c.delivery.set a (f (c.delivery.get a)) }

/-- One actuator's delivery state updated. -/
def State.onDelivery (a : Actuator) (f : Delivery → Delivery) (s : State) : State := s.onCmd (·.onDelivery a f)

/-- CMQ is empty and no actuator has an outstanding command (R117, R187). -/
def CommandEngine.quiet (c : CommandEngine) : Bool :=
  c.cmq.isEmpty && Actuator.all.all fun a => (c.delivery.get a).outstanding.isNone

/-- In PARKING the completion condition, once it holds, is reported to the Park Controller (R117). -/
def State.reportCompletion (s : State) : State :=
  if s.mgmt.opState == .parking && s.cmd.quiet then s.onCmd fun c => { c with completion := true } else s

/-- The actuator's outstanding command ends, its ack timer with it (R105, R107, R111, R115). -/
def CommandEngine.dropOutstanding (a : Actuator) (c : CommandEngine) : CommandEngine :=
  { c.onDelivery a fun d => { d with outstanding := none, ackTimer := none } with due := c.due.erase a }

/-- The actuator's pending value is dropped and it leaves CMQ (R96, R99, R115). -/
def CommandEngine.dropPending (a : Actuator) (c : CommandEngine) : CommandEngine :=
  { c.onDelivery a fun d => { d with pendingValue := none } with cmq := c.cmq.erase a }

/-- A value becomes the actuator's pending value: in place if it has one, else it joins CMQ as its newest
member (R99, R100). -/
def CommandEngine.queueValue (a : Actuator) (v : Nat) (c : CommandEngine) : CommandEngine :=
  { c.onDelivery a fun d => { d with pendingValue := some v } with
    cmq := if (c.delivery.get a).pendingValue.isSome then c.cmq else c.cmq ++ [a] }

/-- The actuator whose entry is found faulted: pending value, outstanding command and last abandoned tag go
(R115). -/
def State.actuatorFaulted (a : Actuator) (s : State) : State :=
  (s.onCmd fun c =>
    ((c.dropPending a).dropOutstanding a).onDelivery a fun d => { d with lastAbandoned := none }).reportCompletion

/-- A checked read of an Actuator Table entry; it answers the entry if the actuator is present (R95, R115). -/
def readActuator (a : Actuator) : Act (Option ActuatorEntry) := do
  let r ← checkEntry (.actuator a)
  match r with
  | .good => look fun s =>
      let e := (s.cmd.entries.get a).content
      if e.present then some e else none
  | .faulted => pure none
  | .newlyFaulted => do
    upd (State.actuatorFaulted a)
    pure none

/-- The Controller hands a target for an actuator (R100). -/
def handTarget (a : Actuator) (v : Nat) : Act Unit := do
  let same ← look fun s => (s.cmd.delivery.get a).target == some v
  onlyIf (!same) do
    upd (State.onDelivery a fun d => { d with target := some v })
    let e ← readActuator a
    let halted ← look fun s => s.cmd.halted
    onlyIf (e.isSome && !halted) (upd (State.onCmd (·.queueValue a v)))

/-! ### ACKs (R104, R105, R113, R114) -/

/-- Whether an ACK status reports trouble: JAMMED or OVERHEAT (R105). -/
def AckStatus.trouble : AckStatus → Bool
  | .done => false
  | .moving => false
  | .jammed => true
  | .overheat => true

/-- Reported and failed as an ACK sets them, with ACTUATOR_FAULT (R105, R113). -/
def takeReported (a : Actuator) (r : Reported) : Act Unit := do
  upd (State.onDelivery a fun d => { d with reported := some r, failed := r.status.trouble })
  onlyIf r.status.trouble (raise .actuatorFault (.actuator a))

/-- Reads the four entries for their nodes, in index order (R104; log entry 10). -/
def readNodes : List Actuator → Act (List (Actuator × Nat))
  | [] => pure []
  | a :: as => do
    let e ← readActuator a
    let rest ← readNodes as
    match e with
    | some x => pure ((a, x.node) :: rest)
    | none => pure rest

/-- The present actuators of a node, in index order. -/
def atNode (nodes : List (Actuator × Nat)) (node : Nat) : List Actuator :=
  (nodes.filter fun p => p.2 == node).map (·.1)

/-- An ACK frame to node 1 on DN: matching, late or stray (R104). -/
def takeAck (src tag : Byte) (r : Reported) : Act Unit := do
  let nodes ← readNodes Actuator.all
  let here := atNode nodes src.toNat
  let matching ← look fun s => here.find? fun a =>
    match (s.cmd.delivery.get a).outstanding with
    | some o => o.tag == tag
    | none => false
  let late ← look fun s => here.find? fun a => (s.cmd.delivery.get a).lastAbandoned == some tag
  match matching, late with
  | some a, _ => do
    upd (State.onCmd (·.dropOutstanding a))
    takeReported a r
    give .acked
    upd State.reportCompletion
  | none, some a => do
    takeReported a r
    upd (State.onDelivery a fun d => { d with lastAbandoned := none })
    give .lateAck
  | none, none => give .strayAck

/-! ### Retries and abandonment (R106 to R111) -/

/-- The actuator's outstanding command enters DUE, behind those that entered it before (R98, R101). -/
def CommandEngine.becomeDue (a : Actuator) (o : Outstanding) (c : CommandEngine) : CommandEngine :=
  { c.onDelivery a fun d => { d with outstanding := some { o with phase := .due }, ackTimer := none } with
    due := c.due ++ [a] }

/-- The flush drops another actuator's outstanding command: its tag becomes the last abandoned tag, and
ABANDONED is given for it (R111). -/
def flushOther (a : Actuator) : Act Unit := do
  let out ← look fun s => (s.cmd.delivery.get a).outstanding
  match out with
  | some o => do
    upd (State.onCmd (·.dropOutstanding a))
    upd (State.onDelivery a fun d => { d with lastAbandoned := some o.tag })
    give .abandoned
  | none => pure ()

/-- The flush: CMQ emptied with its pending values, every other outstanding command dropped, the queue
halted (R111). -/
def flushQueue : Act Unit := do
  upd (State.onCmd fun c =>
    { c with cmq := [], delivery := c.delivery.map fun d => { d with pendingValue := none } })
  forAll Actuator.all flushOther
  upd (State.onCmd fun c => { c with halted := true })

/-- The command is abandoned, and the failure policy applied (R107, R110, R111). -/
def abandon (a : Actuator) (o : Outstanding) (policy : FailurePolicy) : Act Unit := do
  upd (State.onCmd fun c =>
    (c.dropOutstanding a).onDelivery a fun d => { d with lastAbandoned := some o.tag, failed := true })
  raise .actuatorSilent (.actuator a)
  give .abandoned
  onlyIf (policy == .flush) do
    flushQueue
    raiseOwed
    raise .commandsHalted (.actuator a)
  upd State.reportCompletion

/-- At the limit under PERSIST: DUE again, with the attempts as they stand; the first time failed is set and
ACTUATOR_SILENT raised (R108). -/
def persist (a : Actuator) (o : Outstanding) : Act Unit := do
  upd (State.onCmd (·.becomeDue a { o with persisting := true }))
  onlyIf (!o.persisting) do
    upd (State.onDelivery a fun d => { d with failed := true })
    raise .actuatorSilent (.actuator a)

/-- The ack timer of an actuator's WAITING command expires (R106). The attempts are compared before PARKING is asked
for, so a command whose RETRY_LIMIT has been raised is resent in PARKING too (R108; log entry 28). -/
def ackExpiry (a : Actuator) : Act Unit := do
  let out ← look fun s => (s.cmd.delivery.get a).outstanding
  match out with
  | none => pure ()
  | some o =>
    onlyIf (o.phase == .waiting) do
      let p ← readParams
      let parking ← look fun s => s.mgmt.opState == .parking
      if o.attempts < p.retryLimit + 1 then
        upd (State.onCmd (·.becomeDue a { o with attempts := o.attempts + 1 }))
      else if p.timeoutAction == .abandon || parking then abandon a o p.failurePolicy
      else persist a o

/-- ACK_TIMER_EXPIRY (R106 to R108). -/
def execAckTimerExpiry (a : Actuator) (s : State) : Host.Outcome State Fault Refusal := live (ackExpiry a) s

/-! ### RESUME and WRITE_ACTUATOR (R96, R112) -/

/-- RESUME's look at one actuator: queued if present, with a target its reported position is not (R112). -/
def resumeActuator (a : Actuator) : Act Unit := do
  let e ← readActuator a
  let d ← look fun s => s.cmd.delivery.get a
  match d.target with
  | some t =>
    let differs := match d.reported with
      | some r => r.position != t
      | none => true
    onlyIf (e.isSome && differs) (upd (State.onCmd (·.queueValue a t)))
  | none => pure ()

/-- RESUME's effect on a halted queue (R112). -/
def resumeDelivery : Act Unit := do
  let halted ← look fun s => s.cmd.halted
  onlyIf halted do
    upd (State.onCmd fun c => { c with halted := false })
    forAll Actuator.all resumeActuator

/-- WRITE_ACTUATOR's effect (R96). -/
def State.writeActuator (a : Actuator) (e : ActuatorEntry) (s : State) : State :=
  let s := (s.onCmd fun c => { c with entries := c.entries.set a (PowerOn.fresh e) }).rewritten (.actuator a)
  let s := s.onCmd fun c =>
    ((c.dropPending a).dropOutstanding a).onDelivery a fun d =>
      { d with reported := none, failed := false, lastAbandoned := none }
  match (s.cmd.delivery.get a).target with
  | some t => if e.present && !s.cmd.halted then s.onCmd (·.queueValue a t) else s
  | none => s

/-- The delivery state cleared at a link reset: the entries and the tag counter kept (R118). -/
def CommandEngine.cleared (c : CommandEngine) : CommandEngine :=
  { c with
    delivery := ⟨PowerOn.delivery, PowerOn.delivery, PowerOn.delivery, PowerOn.delivery⟩
    cmq := []
    due := []
    halted := false
    completion := false }

end Sys2Proof.Machine
end

