-- ==== Sys2Proof/Machine/AirPath.lean ====
section
/-! DEFINITION. The Air-Path Controller's work (chapter 1): targets, the change of mode, reports taken, changes
of the operating state. -/

namespace Sys2Proof.Machine

open Sys2Proof

/-! ### Targets (R19 to R23) -/

/-- A checked read of a Mode Record (R22, R177). -/
def readRecord (i : Fin 7) : Act (Option ModeRecord) := do
  let r ← checkEntry (.modeRecord i)
  match r with
  | .good => look fun s => some s.ctrl.records[i].content
  | .faulted => pure none
  | .newlyFaulted => pure none

/-- The blower target with the DIRTY_IN boost, capped at 15 (R20). -/
def boosted (blower boost : Nat) (dirtyIn : Bool) : Nat := if dirtyIn then min 15 (blower + boost) else blower

/-- The flap target of an override's choice (R21). -/
def FlapChoice.target : FlapChoice → Nat
  | .fresh => 100
  | .recirc => 0

/-- A record of MANUAL with the running override's flap and blower. With no override running, the flap and
blower targets stay as the Command Engine holds them: DESIGN CHOICE (log entry 11). -/
def manualTargets (r : ModeRecord) (o : Option OverrideRecord) (c : CommandEngine) : ModeRecord :=
  match o with
  | some ov => { r with flap := ov.flap.target, blower := ov.blower }
  | none =>
    { r with flap := c.delivery.flap.target.getD r.flap, blower := c.delivery.blower.target.getD r.blower }

/-- The four targets of a mode (R19 to R21, R23). -/
def modeTargets (m : Mode) : Act ModeRecord :=
  match m, m.recordIndex with
  | .park, _ => pure PowerOn.parkTargets
  | _, none => pure PowerOn.safeTargets
  | m, some i => do
    let r ← readRecord i
    match r with
    | none => pure PowerOn.safeTargets
    | some rec =>
      match m with
      | .door => pure rec
      | .manual => look fun s => manualTargets rec s.timer.overrideRecord s.cmd
      | _ => do
        let p ← readParams
        look fun s => { rec with blower := boosted rec.blower p.dirtyInBoost s.ctrl.conditions.dirtyIn }

/-- The four targets handed over in index order (R22). -/
def handTargets (t : ModeRecord) : Act Unit :=
  forAll Actuator.all fun a => handTarget a (PowerOn.targetOf t a)

/-- The targets of the current mode computed and handed over (R22). -/
def computeTargets : Act Unit := do
  let m ← look fun s => s.ctrl.mode
  let t ← modeTargets m
  handTargets t

/-! ### The mode (R12, R13, R15) -/

/-- The current mode set, and the AIR lamp with it (R12, R162). -/
def State.setMode (m : Mode) (s : State) : State :=
  (s.onCtrl fun c => { c with mode := m }).onNotice fun n => { n with airLamp := n.airLamp.show (airPattern m) }

/-- The mode the operating state and the precedence ask for (R12, R13). MODE_ENABLE is read where the test
of DEMIST comes up: with FOG true. -/
def chooseMode : Act Mode := do
  let o ← look fun s => s.mgmt.opState
  match o with
  | .config => pure .safe
  | .parking => pure .park
  | .parked => pure .park
  | .run => do
    let c ← look fun s => s.ctrl
    if c.conditions.fog && precedence c true == .demist then do
      let p ← readParams
      pure (precedence c p.enablesDemist)
    else pure (precedence c false)

/-- A change of mode: made current, handed to the Timer Unit with the conditions that changed in the same
event, MODE_CHANGE raised, the targets handed over (R15, R83). -/
def changeMode (m : Mode) (h : Handover) : Act Unit := do
  upd (State.setMode m)
  upd (State.handOver { h with mode := some m })
  upd (State.raiseRecord .modeChange (.mode m))
  computeTargets

/-- The Controller's last part of an event: it chooses the mode again if `choose` says so, and otherwise, or
if the mode stays, hands over changed conditions and computes the targets again if DIRTY_IN changed (R14,
R15, R22). -/
def settle (choose : Bool) (h : Handover) (dirtyIn : Bool) : Act Unit := do
  let cur ← look fun s => s.ctrl.mode
  let m ← if choose then chooseMode else pure cur
  if m = cur then do
    upd (State.handOver h)
    onlyIf dirtyIn computeTargets
  else changeMode m h

/-! ### Reports (R2) -/

/-- The unit a report comes from. -/
def Report.source : Report → ReportSource
  | .slot _ _ => .quantityTable
  | .setupFaulted _ => .integrityUnit
  | .faultList _ => .integrityUnit
  | .timers _ => .timerUnit

/-- What the Controller was last told, brought up to date by a report. -/
def Controller.told (c : Controller) : Report → Controller
  | .slot i v => { c with slotViews := c.slotViews.set i v }
  | .setupFaulted _ => c
  | .faultList b => { c with faultsReported := b }
  | .timers v => { c with timerView := v }

/-- What a report changed: the hand-over it makes, whether a condition or the SAFE cause set changed, and
whether DIRTY_IN did. -/
structure Changes where
  handover : Handover
  changed : Bool
  dirtyIn : Bool
  deriving DecidableEq, Repr

/-- The conditions derived again (R2 to R7), with FILTER_CLOGGED when CLOGGED becomes true (R7). -/
def State.deriveAgain (s : State) : State :=
  let old := s.ctrl.conditions
  let new := deriveConditions s.ctrl.bindings s.ctrl.slotViews
  let s := s.onCtrl fun c => { c with conditions := new }
  match s.ctrl.bindings.filterDp with
  | some i => if new.clogged && !old.clogged then s.raiseRecord .filterClogged (.slot i) else s
  | none => s

/-- The SAFE cause set derived again; CRITICAL_ROLES is read (R11, R147). -/
def causesAgain : Act Unit := do
  let p ← readParams
  upd (State.onCtrl fun c => { c with causes := deriveCauses p.criticalRoles c })

/-- A report's content made known: conditions and SAFE causes derived again (R2). -/
def absorb (r : Report) : Act Changes := do
  let before ← look fun s => s.ctrl
  upd (State.onCtrl fun c => c.told r)
  upd State.deriveAgain
  causesAgain
  let now ← look fun s => s.ctrl
  pure ⟨conditionChanges before.conditions now.conditions,
    before.conditions != now.conditions || before.causes != now.causes,
    before.conditions.dirtyIn != now.conditions.dirtyIn⟩

/-- A report of the Timer Unit is always a reason to choose the mode again; another report is one when it
changes a condition or the SAFE cause set (R14). -/
def takeReport (r : Report) : Act Unit := do
  let ch ← absorb r
  settle (ch.changed || r.source == .timerUnit) ch.handover ch.dirtyIn

/-- The oldest waiting report of a source is taken (R2, R14). -/
def controllerReport (src : ReportSource) : Act Unit := do
  let r ← look fun s => s.ctrl.reports.find? fun r => r.source == src
  match r with
  | some r => do
    upd (State.onCtrl fun c => { c with reports := c.reports.erase r })
    takeReport r
  | none => pure ()

/-- A number of waiting reports taken, oldest first, each with its own choice of the mode (R2, R14). -/
def takeOldest : Nat → Act Unit
  | 0 => pure ()
  | n + 1 => do
    let r ← look fun s => s.ctrl.reports.head?
    match r with
    | some r => do
      upd (State.onCtrl fun c => { c with reports := c.reports.tail })
      takeReport r
      takeOldest n
    | none => pure ()

/-- The reports that wait now, all taken (log entry 7). -/
def takeWaiting : Act Unit := do
  let n ← look fun s => s.ctrl.reports.length
  takeOldest n

/-- The Controller sets the mode on the change of the operating state, and sees the doors and timers as the event has
left them (R12, R14). -/
def opStateChanged : Act Unit := do
  upd fun s => s.onCtrl fun c => { c with timerView := s.timer.view }
  settle true ⟨none, none, none, none⟩ false

/-- A change of the operating state, with what else its event does, reaches the Controller as one event (R12, R137).
The reports that wait were made before it: each is taken first, with its own choice of the mode, so that an OVERRIDE
taken before ENTER_CONFIG has MANUAL chosen (R152; log entry 7). -/
def changeOpState (o : OpState) (work : Act Unit) : Act Unit := do
  takeWaiting
  upd (State.setOpState o)
  work
  opStateChanged

/-- CONTROLLER_REPORT (R2). -/
def execControllerReport (src : ReportSource) (s : State) : Host.Outcome State Fault Refusal :=
  live (controllerReport src) s

/-! ### Faults found outside a computation (R23, R180) -/

/-- A checked read of any entry by the scrubber, with the effect of a newly found fault on the entry's block
(R180, R183): slot FAULT, delivery state dropped, new targets for the current mode's record. An entry that is faulted
already has no further effect. -/
def checkWithEffect (e : EntryId) : Act Unit :=
  match e with
  | .slotSetup i => do
    let _ ← readSetup i
    pure ()
  | .actuator a => do
    let _ ← readActuator a
    pure ()
  | .modeRecord i => do
    let r ← checkEntry (.modeRecord i)
    let m ← look fun s => s.ctrl.mode
    onlyIf (r == .newlyFaulted && m.recordIndex == some i) computeTargets
  | .channelMap i => do
    let _ ← checkEntry (.channelMap i)
    pure ()
  | .recovery i => do
    let _ ← checkEntry (.recovery i)
    pure ()
  | .params => do
    let _ ← checkParams
    pure ()

end Sys2Proof.Machine
end

