-- ==== Sys2Proof/Machine/Timers.lean ====
section
/-! DEFINITION. The Timer Unit's work on its timers (chapter 4): purge, gap, recovery and override, and the
hand-overs of the Controller. -/

namespace Sys2Proof.Machine

open Sys2Proof

/-- A length in seconds as a timer just started. -/
def startedTimer (seconds : Nat) : Option Nat := some (seconds * Config.msPerSecond)

/-- The measurement re-armed: 0 and held (R75). -/
def Measurement.rearmed : Measurement := ⟨0, false, 0⟩

/-- The measurement begins to count from a value (R75, R76). -/
def Measurement.countFrom (v : Nat) : Measurement := ⟨v, true, 0⟩

/-- The measurement stops: the part of a second is discarded and the value held (R75). -/
def Measurement.held (m : Measurement) : Measurement := ⟨m.value, false, 0⟩

/-- The stops of ENTER_CONFIG and PARKING entry: all four timers stopped, the count 0, the record absent, the
measurement re-armed, no sub-event and no notice (R94, R144, R186). -/
def TimerUnit.stopAll (t : TimerUnit) : TimerUnit :=
  { t with
    recovery := none
    purge := none
    gap := none
    purgeCount := 0
    overrideTimer := none
    overrideRecord := none
    measurement := Measurement.rearmed }

/-- At an entry to RUN with a door OPEN the measurement counts from 0 (R78). -/
def TimerUnit.enterRun (t : TimerUnit) : TimerUnit :=
  if t.doorOpen then { t with measurement := Measurement.countFrom 0 } else t

/-- The Timer Unit at a link reset: timers stopped, measurement 0 and held, what it was handed SAFE and
false; the Recovery Table and the door lines kept (R82, R94). -/
def TimerUnit.linkReset (t : TimerUnit) : TimerUnit := { PowerOn.timerUnit t.doors with bins := t.bins }

/-- A read of PURGE_LIMIT below the count first sets the count to it (R82). -/
def TimerUnit.clampCount (limit : Nat) (t : TimerUnit) : TimerUnit := { t with purgeCount := min t.purgeCount limit }

/-- The count rises by 1, to at most PURGE_LIMIT (R82). -/
def TimerUnit.raiseCount (limit : Nat) (t : TimerUnit) : TimerUnit :=
  { t with purgeCount := min (min t.purgeCount limit + 1) limit }

/-- A start (a), (b) or (c): the purge timer starts when everything R83 asks holds. It answers nothing; the
event's report is its caller's. PURGE_LIMIT is read, and clamps the count, wherever state, door, timer and PURGE
enabled allow the start, also while CO2_HIGH frees it of the limit, and nowhere else (R82; log entry 10). -/
def tryPurgeStart (further : Bool) : Act Unit := do
  let ready ← look fun s =>
    s.mgmt.opState == .run && !s.timer.doorOpen && s.timer.purge.isNone && further
  onlyIf ready do
    let p ← readParams
    onlyIf p.enablesPurge do
      upd (State.onTimer (·.clampCount p.purgeLimit))
      upd (State.onTimer fun t =>
        if t.purgeCount < p.purgeLimit || t.heldCo2High then { t with purge := startedTimer p.purgeLength } else t)

/-- The gap timer has expired: start (c) when the mode is SHIELD and STUFFY is true (R83, R88). -/
def gapExpired : Act Unit := do
  upd (State.onTimer fun t => { t with gap := none })
  let start ← look fun s => s.timer.heldMode == .shield && s.timer.heldStuffy
  onlyIf start (tryPurgeStart true)

/-- GAP_TIMER_EXPIRY's work; it reaches the Controller only through a purge start (R88). -/
def gapExpiry : Act Unit := do
  let running ← look fun s => s.timer.gap.isSome
  onlyIf running do
    let before ← look fun s => s.timer.purge.isSome
    gapExpired
    let now ← look fun s => s.timer.purge.isSome
    onlyIf (now && !before) (upd State.reportTimers)

/-- The purge timer's expiry with STUFFY true (R84, step 1). -/
def purgeUnresolved : Act Unit := do
  let p ← readParams
  upd (State.onTimer (·.raiseCount p.purgeLimit))
  let n ← look fun s => s.timer.purgeCount
  let co2High ← look fun s => s.timer.heldCo2High
  if n = p.purgeLimit ∧ co2High = false then raise .co2Unresolved (.purgeCount n)
  else do
    upd (State.onTimer fun t => { t with gap := startedTimer p.purgeGap })
    onlyIf co2High gapExpired

/-- PURGE_TIMER_EXPIRY's work (R84). With STUFFY false no gap timer is touched: one that runs behind a purge of
PURGE_START goes on (R87; log entry 27). -/
def purgeExpiry : Act Unit := do
  let running ← look fun s => s.timer.purge.isSome
  onlyIf running do
    upd (State.onTimer fun t => { t with purge := none })
    let stuffy ← look fun s => s.timer.heldStuffy
    if stuffy then purgeUnresolved
    else upd (State.onTimer fun t => { t with purgeCount := 0 })
    upd State.reportTimers

/-- RECOVERY_TIMER_EXPIRY's work (R81). -/
def recoveryExpiry : Act Unit := do
  let running ← look fun s => s.timer.recovery.isSome
  onlyIf running do
    upd (State.onTimer fun t => { t with recovery := none, measurement := Measurement.rearmed })
    give .recoveriesDone
    upd State.reportTimers

/-- The override ends: its timer stopped and its record absent (R92). -/
def TimerUnit.endOverride (t : TimerUnit) : TimerUnit := { t with overrideTimer := none, overrideRecord := none }

/-- The override ends, with the report (R92). -/
def endOverride : Act Unit := do
  upd (State.onTimer TimerUnit.endOverride)
  upd State.reportTimers

/-- OVERRIDE_TIMER_EXPIRY's work, once the timer has run out: a new OVERRIDE taken before the expiry starts a timer
that this expiry does not end (R92, R93; log entry 3). -/
def overrideExpiry : Act Unit := do
  let ranOut ← look fun s => expired s.timer.overrideTimer
  onlyIf ranOut endOverride

/-! ### Hand-overs (R83 to R87, R92) -/

/-- The severe stop (R85). CO2_HIGH is tested before SEVERE_STOP is read, so that with CO2_HIGH true the parameters entry
is not read: the order of the two tests is the model's choice (log entry 12, DESIGN CHOICE). -/
def severeStop : Act Unit := do
  let due ← look fun s => s.timer.purge.isSome && !s.timer.heldCo2High
  onlyIf due do
    let p ← readParams
    onlyIf p.severeStop
      (upd (State.onTimer fun t => { t.raiseCount p.purgeLimit with purge := none, gap := startedTimer p.purgeGap }))

/-- SEVERE becoming true ends a running override whose flap choice is FRESH (R92). -/
def State.cancelFresh (s : State) : State :=
  match s.timer.overrideRecord with
  | some r =>
    if r.flap = .fresh then (s.onTimer TimerUnit.endOverride).raiseRecord .overrideCancelled (.origin r.origin)
    else s
  | none => s

/-- STUFFY becoming false outside a purge resets the count and stops the gap timer (R87); within one it leaves both,
also a gap timer that ran before the purge (log entry 27). -/
def TimerUnit.stuffyCleared (t : TimerUnit) : TimerUnit :=
  if t.purge.isNone then { t with purgeCount := 0, gap := none } else t

/-- What the Timer Unit holds of the mode and the conditions, brought up to date by a hand-over (R82). -/
def TimerUnit.handed (t : TimerUnit) (h : Handover) : TimerUnit :=
  { t with
    heldMode := h.mode.getD t.heldMode
    heldStuffy := h.stuffy.getD t.heldStuffy
    heldSevere := h.severe.getD t.heldSevere
    heldCo2High := h.co2High.getD t.heldCo2High }

/-- The starts and stops a hand-over's mode, or else its change of STUFFY, brings (R83, R86). -/
def handoverStarts (h : Handover) : Act Unit :=
  match h.mode with
  | some .safe => upd (State.onTimer fun t => { t with purge := none, gap := none })
  | some .shield => do
    let stuffy ← look fun s => s.timer.heldStuffy
    let further ← look fun s => s.timer.gap.isNone || s.timer.heldCo2High
    onlyIf stuffy (tryPurgeStart further)
  | some _ => pure ()
  | none => do
    let shield ← look fun s => s.timer.heldMode == .shield
    onlyIf (shield && h.stuffy == some true) (tryPurgeStart true)

/-- A hand-over taken, ending with one report (R14, R83). One that carries both STUFFY false and the mode SAFE is taken
with STUFFY first, so that a running purge keeps the count (R87) before SAFE stops it (R86): the order is the model's
choice (log entry 12, DESIGN CHOICE). -/
def takeHandover (h : Handover) : Act Unit := do
  upd (State.onTimer (·.handed h))
  onlyIf (h.severe == some true) do
    severeStop
    upd State.cancelFresh
  onlyIf (h.stuffy == some false) (upd (State.onTimer TimerUnit.stuffyCleared))
  handoverStarts h
  upd State.reportTimers

/-- The oldest waiting hand-over is taken (R82). -/
def controllerHandover : Act Unit := do
  let h ← look fun s => s.timer.handovers.head?
  match h with
  | some h => do
    upd (State.onTimer fun t => { t with handovers := t.handovers.tail })
    takeHandover h
  | none => pure ()

/-! ### Meanings -/

/-- RECOVERY_TIMER_EXPIRY (R81). -/
def execRecoveryTimerExpiry (s : State) : Host.Outcome State Fault Refusal := live recoveryExpiry s

/-- PURGE_TIMER_EXPIRY (R84). -/
def execPurgeTimerExpiry (s : State) : Host.Outcome State Fault Refusal := live purgeExpiry s

/-- GAP_TIMER_EXPIRY (R88). -/
def execGapTimerExpiry (s : State) : Host.Outcome State Fault Refusal := live gapExpiry s

/-- OVERRIDE_TIMER_EXPIRY (R92). -/
def execOverrideTimerExpiry (s : State) : Host.Outcome State Fault Refusal := live overrideExpiry s

/-- CONTROLLER_HANDOVER (R83). -/
def execControllerHandover (s : State) : Host.Outcome State Fault Refusal := live controllerHandover s

end Sys2Proof.Machine
end

