-- ==== Sys2Proof/Machine/Park.lean ====
section
/-! DEFINITION. The Park Controller's work (chapter 11): parking, PARKED entry, wakes, the pre-clean. -/

namespace Sys2Proof.Machine

open Sys2Proof

/-- PARKING entry, from step 2 of R186 on: taken by an accepted PARK and by the pre-clean expiry. -/
def parkingEntry (minutes : Nat) : Act Unit := do
  changeOpState .parking do
    upd (State.onPark fun p => { p with wakeMinutes := minutes })
    upd (State.onTimer TimerUnit.stopAll)
    upd (State.onPark fun p => { p with preclean := none })
  upd State.reportCompletion

/-- The parking is cancelled by a door line that has become OPEN; `opened` is whether DOOR_OPEN became true
with it (R188). -/
def cancelParking (opened : Bool) : Act Unit :=
  changeOpState .run do
    upd (State.onTimer fun t => { t with measurement := Measurement.countFrom 0 })
    onlyIf opened (give .openings)
    raiseOwed

/-- A receiver on whose line a frame is under way at a wake takes none before the next idle gap (R134;
log entry 19). -/
def PortUnit.awaitIdle (busy : LinesBusy) (p : PortUnit) : PortUnit :=
  { p with
    upRx := if busy.up then .waitingIdle else p.upRx
    dnRx := if busy.dn then .waitingIdle else p.dnRx }

/-- The scrub interval timer started with an interval; 0 leaves it stopped (R183). -/
def scrubStart (interval : Nat) : Option Nat := if interval = 0 then none else some (PowerOn.scrubMs interval)

/-- A wake (R191, R192). A fault that the read of SCRUB_INTERVAL finds is known to the Controller as it chooses the mode:
the mode is SAFE when the Fault List is not empty (R191 step 5). -/
def wake (cause : StartCause) (busy : LinesBusy) : Act Unit := do
  changeOpState .run do
    upd (State.onPort (·.awaitIdle busy))
    upd (State.onPark fun p => { p with wakeTimer := none })
    upd (State.startWith cause)
    upd State.wakeSlots
    upd (State.onTally fun t => { t with interval := some Config.msPerSecond })
    let p ← readParams
    upd (State.onInteg fun u => { u with scrubTimer := scrubStart p.scrubInterval })
    upd (State.onTimer TimerUnit.enterRun)
    takeWaiting
  onlyIf (cause == .wakeTimer) do
    let p ← readParams
    upd (State.onPark fun k => { k with preclean := startedTimer p.precleanLength })

/-- At PARKED entry a line whose debounced state is CLOSED becomes armed, an OPEN one unarmed (R189). -/
def armLines (doors : PerDoor DoorLine) : PerDoor Bool := doors.map fun l => !l.isOpen

/-- The park wake timer started with a number of minutes; 0 leaves it stopped (R189). -/
def wakeTimerOf (minutes : Nat) : Option Nat := if minutes = 0 then none else startedTimer (minutes * 60)

/-- The emptying of the slots reaches the Controller: the conditions take the values of R9, and the changes are handed
over (R9, R53, R189). -/
def controllerParked : Act Unit := do
  let before ← look fun s => s.ctrl.conditions
  upd fun s => s.onCtrl fun c => { c with slotViews := s.slotViews }
  upd State.deriveAgain
  causesAgain
  upd fun s => s.handOver (conditionChanges before s.ctrl.conditions)

/-- The last tags become absent; the thin counters are kept (R71, R189). -/
def Intake.forgetTags (u : Intake) : Intake := { u with dyn := mapTable (fun d => { d with lastTag := none }) u.dyn }

/-- PARKED entry (R189). -/
def enterParked : Act Unit := do
  takeWaiting
  upd (State.setOpState .parked)
  upd (State.emptySlots fun _ => none)
  controllerParked
  upd (State.onIntake Intake.forgetTags)
  upd fun s => s.onPark fun p =>
    { p with armed := armLines s.timer.doors, wakeTimer := wakeTimerOf p.wakeMinutes }
  upd (State.onTally fun t => { t with interval := none })
  upd (State.onInteg fun u => { u with scrubTimer := none })

/-- The completion report is taken: PARKED entry if the completion still holds, else it is ignored (R117,
R187). -/
def parkedEntry : Act Unit := do
  let reported ← look fun s => s.cmd.completion
  onlyIf reported do
    upd (State.onCmd fun c => { c with completion := false })
    let holds ← look fun s => s.mgmt.opState == .parking && s.cmd.quiet
    onlyIf holds enterParked

/-- The park wake timer expires (R190). -/
def parkWakeExpiry (busy : LinesBusy) : Act Unit := do
  let running ← look fun s => s.mgmt.opState == .parked && s.park.wakeTimer.isSome
  onlyIf running (wake .wakeTimer busy)

/-- The pre-clean timer expires: PARKING with wake minutes 0 (R192). -/
def precleanExpiry : Act Unit := do
  let running ← look fun s => s.park.preclean.isSome
  onlyIf running (parkingEntry 0)

/-- The pre-clean is stopped (R192). -/
def State.stopPreclean (s : State) : State := s.onPark fun p => { p with preclean := none }

/-! ### Meanings -/

/-- PARKED_ENTRY (R189). -/
def execParkedEntry (s : State) : Host.Outcome State Fault Refusal := live parkedEntry s

/-- PARK_WAKE_TIMER_EXPIRY (R190). -/
def execParkWakeTimerExpiry (busy : LinesBusy) (s : State) : Host.Outcome State Fault Refusal :=
  live (parkWakeExpiry busy) s

/-- PRECLEAN_EXPIRY (R192). -/
def execPrecleanExpiry (s : State) : Host.Outcome State Fault Refusal := live precleanExpiry s

end Sys2Proof.Machine
end

