-- ==== Sys2Proof/Machine/Doors.lean ====
section
/-! DEFINITION. The door lines (R72 to R78, R188 to R190): raw levels, debounces, changes of the debounced state. -/

namespace Sys2Proof.Machine

open Sys2Proof

/-- One door line updated. -/
def State.onDoor (d : Door) (f : DoorLine → DoorLine) (s : State) : State :=
  s.onTimer fun t => { t with doors := t.doors.set d (f (t.doors.get d)) }

/-- The raw level of a line, tracked in every state of the device. -/
def State.setLevel (d : Door) (low : Bool) (s : State) : State := s.onDoor d fun l => { l with rawLow := low }

/-- A line's debounce parameter (R72). -/
def Params.debounceOf (p : Params) : Door → DebounceLength
  | .door1 => p.door1Debounce
  | .door2 => p.door2Debounce

/-- A debounce starts, with the line's debounce time read now. SHORT stands in case the read brings a table
wipe (R72, R182). -/
def startDebounce (d : Door) : Act Unit := do
  upd (State.onDoor d fun l => { l with debounce := some (PowerOn.debounceMs .short) })
  let p ← readParams
  upd (State.onDoor d fun l => { l with debounce := some (PowerOn.debounceMs (p.debounceOf d)) })

/-- The raw level of a line changes (R72). -/
def levelChange (d : Door) (low : Bool) : Act Unit := do
  let line ← look fun s => s.timer.doors.get d
  onlyIf (line.rawLow != low) do
    upd (State.setLevel d low)
    if line.isOpen = low then upd (State.onDoor d fun l => { l with debounce := none })
    else startDebounce d

/-- The good bins of the Recovery Table, each of the four read and checked (R80). They are read in index order: the order
is the model's choice (log entry 12, DESIGN CHOICE). -/
def readBins : List (Fin 4) → Act (List RecoveryBin)
  | [] => pure []
  | i :: is => do
    let r ← checkEntry (.recovery i)
    let b ← look fun s => s.timer.bins[i].content
    let rest ← readBins is
    match r with
    | .good => pure (b :: rest)
    | .faulted => pure rest
    | .newlyFaulted => pure rest

/-- DOOR_OPEN becomes true in RUN, up to the report (R76): the recovery cut and the measurement going on, or the
measurement from 0; the purge stopped. -/
def doorOpened : Act Unit := do
  give .openings
  let cut ← look fun s => s.timer.recovery.isSome
  if cut then do
    upd (State.onTimer fun t => { t with recovery := none })
    give .recoveriesCut
    upd (State.onTimer fun t => { t with measurement := Measurement.countFrom t.measurement.value })
  else upd (State.onTimer fun t => { t with measurement := Measurement.countFrom 0 })
  upd (State.onTimer fun t => { t with purge := none })

/-- DOOR_OPEN becomes false in RUN, up to the report (R77). MODE_ENABLE is read where a bin was found. -/
def doorClosed : Act Unit := do
  upd (State.onTimer fun t => { t with measurement := t.measurement.held })
  let bins ← readBins [0, 1, 2, 3]
  let m ← look fun s => s.timer.measurement.value
  match pickBin m bins with
  | none => upd (State.onTimer fun t => { t with measurement := Measurement.rearmed })
  | some b => do
    let p ← readParams
    if p.enablesRecover then upd (State.onTimer fun t => { t with recovery := startedTimer b.length })
    else upd (State.onTimer fun t => { t with measurement := Measurement.rearmed })

/-- Whether a door set holds a line (R199). -/
def Params.wakesOn (p : Params) : Door → Bool
  | .door1 => p.doorWake.getLsbD 0
  | .door2 => p.doorWake.getLsbD 1

/-- A line's debounced state has changed in PARKED; DOOR_WAKE is read at each change (R189, R190). -/
def parkedDoor (d : Door) (isOpen : Bool) (busy : LinesBusy) : Act Unit := do
  let p ← readParams
  let armed ← look fun s => s.park.armed.get d
  if isOpen then onlyIf (armed && p.wakesOn d) (wake .wakeDoor busy)
  else upd (State.onPark fun k => { k with armed := k.armed.set d true })

/-- The work of a change of a line's debounced state, by operating state (R73). -/
def doorChanged (d : Door) (isOpen opened closed : Bool) (busy : LinesBusy) : Act Unit := do
  let o ← look fun s => s.mgmt.opState
  match o with
  | .config => do
    onlyIf opened (give .openings)
    upd State.reportTimers
  | .run => do
    onlyIf isOpen (upd State.stopPreclean)
    onlyIf opened doorOpened
    onlyIf closed doorClosed
    upd State.reportTimers
  | .parking => if isOpen then cancelParking opened else upd State.reportTimers
  | .parked => parkedDoor d isOpen busy

/-- A debounce ends: the debounced state takes the level (R72, R73). -/
def debounceEnd (d : Door) (busy : LinesBusy) : Act Unit := do
  let line ← look fun s => s.timer.doors.get d
  onlyIf line.debounce.isSome do
    let before ← look fun s => s.timer.doorOpen
    upd (State.onDoor d fun l => { l with isOpen := l.rawLow, debounce := none })
    let now ← look fun s => s.timer.doorOpen
    doorChanged d line.rawLow (now && !before) (before && !now) busy

/-! ### Meanings -/

/-- DOOR_LEVEL_CHANGE (R72). A device without supply or held in reset takes no event, and the level stands at
its pin. -/
def execDoorLevelChange (d : Door) (low : Bool) (s : State) : Host.Outcome State Fault Refusal :=
  if s.alive then live (levelChange d low) s else .next (s.setLevel d low)

/-- DEBOUNCE_END (R72, R73). -/
def execDebounceEnd (d : Door) (busy : LinesBusy) (s : State) : Host.Outcome State Fault Refusal :=
  live (debounceEnd d busy) s

end Sys2Proof.Machine
end

