-- ==== Sys2Proof/Machine/Resets.lean ====
section
/-! DEFINITION. The resets (R194, R195): the power-on sequence, the device held in reset or without supply, the
link reset. -/

namespace Sys2Proof.Machine

open Sys2Proof

/-- The power-on sequence (R194): State.reset over the levels of the door lines as the reset ends, with the
pins and the waiting commands as they are, and no free value drawn a second time (log entry 30). -/
def State.powerOnSequence (s : State) : State :=
  { State.reset with
    supplyUp := s.supplyUp
    resetLow := s.resetLow
    pending := s.pending
    draws := s.draws
    timer := PowerOn.timerUnit (s.timer.doors.map fun l => PowerOn.doorLine l.rawLow) }

/-- A door line of a device that does not run. -/
def DoorLine.idle (l : DoorLine) : DoorLine := ⟨l.rawLow, false, none⟩

/-- A device without supply or held in reset: nothing on the lines, lamps dark, no timer running (R194). What
its tables hold then is seen by nobody; here it is the power-on content (log entry 13). -/
def State.notRunning (s : State) : State :=
  { s.powerOnSequence with
    port := PowerOn.port
    timer := PowerOn.timerUnit (s.timer.doors.map DoorLine.idle)
    notice := { PowerOn.noticeUnit with airLamp := ⟨.off, 0⟩ }
    tally := { PowerOn.tallyUnit with interval := none }
    integ := { PowerOn.integrity with scrubTimer := none } }

/-- The pins changed, and what follows: the power-on sequence if the device now runs, else it does not run. -/
def State.withPins (supplyUp resetLow : Bool) (s : State) : State :=
  let s : State := { s with supplyUp := supplyUp, resetLow := resetLow }
  if s.alive then s.powerOnSequence else s.notRunning

/-! ### The link reset (R195) -/

/-- The Controller at a link reset: bindings and records kept, R9's conditions, the slots as their emptying is
reported, the Fault List as it stands, no report waiting (R24; log entry 7). The SAFE causes are derived from these next. -/
def Controller.linkReset (c : Controller) (faults : Bool) (slots : Vector SlotView 32) (view : TimerView) :
    Controller :=
  { c with
    conditions := PowerOn.conditions
    slotViews := slots
    faultsReported := faults
    timerView := view
    reports := [] }

/-- The Sample Intake at a link reset: thin counters and last tags cleared (R71). -/
def Intake.linkReset (u : Intake) : Intake := { u with dyn := PowerOn.intake.dyn }

/-- A link reset up to the hand-over of the SAFE targets; a RESET's DONE reply is the first frame in RPQ
(R195 steps 1 to 5; log entry 18). -/
def State.linkCleared (reply : Option Frame) (s : State) : State :=
  let s := s.onPort fun _ => { PowerOn.port with rpq := reply.toList }
  let s := s.onTimer TimerUnit.linkReset
  let s := (s.emptySlots s.staleStart).drawn
  let s := s.onIntake Intake.linkReset
  let s := s.onPark fun p => { p with preclean := none, wakeMinutes := 0, wakeTimer := none }
  let s := s.onCmd CommandEngine.cleared
  let s := s.setOpState .config
  let s := s.onCtrl fun c => c.linkReset (!s.integ.faultList.isEmpty) s.slotViews s.timer.view
  s.setMode .safe

/-- The link reset (R195). The SAFE causes are derived from the Fault List and the slots, CRITICAL_ROLES being read (R24;
log entry 10). -/
def linkReset (reply : Option Frame) : Act Unit := do
  upd (State.linkCleared reply)
  causesAgain
  handTargets PowerOn.safeTargets
  upd (State.onNotice NoticeUnit.clearRecords)
  upd (State.startWith .linkReset)

/-! ### Meanings -/

/-- POWER_ON_RESET (R194): the supply has risen. With RST_N held low the device stays in reset (log entry 13). -/
def execPowerOnReset (s : State) : Host.Outcome State Fault Refusal := .next (s.withPins true s.resetLow)

/-- RESET_LINE_ASSERT (R194): RST_N goes low. -/
def execResetLineAssert (s : State) : Host.Outcome State Fault Refusal := .next (s.withPins s.supplyUp true)

/-- RESET_LINE_RESET (R194): RST_N returns high. -/
def execResetLineReset (s : State) : Host.Outcome State Fault Refusal := .next (s.withPins s.supplyUp false)

/-- LOSS_OF_SUPPLY (R194). -/
def execLossOfSupply (s : State) : Host.Outcome State Fault Refusal := .next (s.withPins false s.resetLow)

end Sys2Proof.Machine
end

