-- ==== Sys2Proof/Machine/Requests.lean ====
section
/-! DEFINITION. What every request has in common (R138 to R143): the class, the general checks and the reply;
and the layout of the request codes (R197). -/

namespace Sys2Proof.Machine

open Sys2Proof

/-- A reply DONE with result data. -/
def done (data : List Byte) : Reply := ⟨.done, data⟩

/-- A reply with a result and no data. -/
def plain (r : ResultCode) : Reply := ⟨r, []⟩

/-- Which requests the PANEL class may use (R139). -/
inductive PanelRule
  | no
  | yes
  /-- TALLY_READ: the index, and then the tally's panel-readable (R140). -/
  | tally (i : Byte)
  deriving DecidableEq, Repr

/-- The class of a request (R139). PANEL_NODE is read at each DN request. -/
def classOf (o : Origin) : Act (Option OriginClass) :=
  match o.port with
  | .up => pure (if o.src = 0 then some .gateway else none)
  | .dn => do
    let p ← readParams
    pure (if p.panelNode ≠ 0 ∧ o.src.toNat = p.panelNode then some .panel else none)

/-- Step 3 of R140: the failing result, or none. -/
def classCheck (c : Option OriginClass) (rule : PanelRule) (tallies : Vector Tally 4) : Option ResultCode :=
  match c, rule with
  | none, _ => some .refusedClass
  | some .gateway, _ => none
  | some .panel, .no => some .refusedClass
  | some .panel, .yes => none
  | some .panel, .tally i =>
    match boundedIndex 4 i.toNat with
    | none => some .badIndex
    | some t => if tallies[t].panelReadable then none else some .refusedClass

/-- The queue a reply goes to (R141). -/
def PortUnit.replies (p : PortUnit) : Port → List Frame
  | .up => p.rpq
  | .dn => p.ptq

/-- The capacity of the queue a reply goes to (R127). -/
def replyCapacity : Port → Nat
  | .up => rpqCapacity
  | .dn => ptqCapacity

/-- The queue a reply goes to, changed. -/
def State.onReplies (port : Port) (f : List Frame → List Frame) (s : State) : State :=
  match port with
  | .up => s.onPort fun p => { p with rpq := f p.rpq }
  | .dn => s.onPort fun p => { p with ptq := f p.ptq }

/-- A request's preclean stop: a gateway MANAGE frame (R192). -/
def fromGateway (o : Origin) : Bool := o.port == .up && o.src == 0

/-- A request taken at the Responder (R138, R140, R141, R153): not in PARKED; the pre-clean stopped by the
gateway; the class; the room test; the reply's place taken before the request's work and filled with its
outcome. A broadcast has no reply and no room test. A TALLY_OVERFLOW that the arrival of its frame owes is raised
behind the reply's place, before the request's work (R156; log entry 25). -/
def serve (o : Origin) (code : Byte) (answer : Option OriginClass → Act Reply) : Act Unit := do
  let parked ← look fun s => s.mgmt.opState == .parked
  onlyIf (!parked) do
    onlyIf (fromGateway o) (upd State.stopPreclean)
    let c ← classOf o
    if o.broadcast then do
      raiseOwed
      let _ ← answer c
      pure ()
    else do
      let n ← look fun s => (s.port.replies o.port).length
      if n < replyCapacity o.port then do
        upd (State.onReplies o.port (· ++ [replyFrame o.src o.tag code (done [])]))
        raiseOwed
        let r ← answer c
        upd (State.onReplies o.port (·.set n (replyFrame o.src o.tag code r)))
      else give .rqDrop

/-- Steps 3 and 5 of R140 before the request's own work. -/
def afterChecks (rule : PanelRule) (states : List OpState) (own : OriginClass → Act Reply) (c : Option OriginClass) :
    Act Reply := do
  let failing ← look fun s => classCheck c rule s.tally.tallies
  let o ← look fun s => s.mgmt.opState
  match failing, c with
  | some r, _ => pure (plain r)
  | none, none => pure (plain .refusedClass)
  | none, some k => if states.contains o then own k else pure (plain .refusedState)

/-- The request code byte of a request number and part (R197). -/
def codeByte (number : Nat) (part : Fin 4) : Byte := byteOf (64 * part.val + number)

/-- A request of part 0 (R197). -/
def request (o : Origin) (number : Nat) (rule : PanelRule) (states : List OpState)
    (own : OriginClass → Act Reply) : Act Unit :=
  serve o (codeByte number 0) (afterChecks rule states own)

/-- The states of a read request (R142, R143). -/
def readStates : List OpState := [.config, .run, .parking]

/-- A request whose code the device does not know (R140 step 2). -/
def unknownRequest (o : Origin) (code : Byte) : Act Unit := serve o code fun _ => pure (plain .unknown)

/-- A request of the wrong argument length (R140 step 4). A RESET of the wrong length resets nothing, so its reply
has the room test of any request (R151; log entry 29). -/
def badLengthRequest (o : Origin) (code : Byte) (rule : PanelRule) : Act Unit :=
  serve o code fun c => do
    let failing ← look fun s => classCheck c rule s.tally.tallies
    pure (plain (failing.getD .badValue))

end Sys2Proof.Machine
end

