-- ==== Sys2Proof/Machine/ReadRequests.lean ====
section
/-! DEFINITION. The read requests (R18, R50, R51, R67, R79, R97, R149, R150, R158, R173, R181): what each answers. -/

namespace Sys2Proof.Machine

open Sys2Proof

/-- READ_STATE (R150), by part (R197). -/
def readStateReply (part : Fin 4) : Act Reply :=
  match part with
  | 0 => look fun s => done (stateBytes0 s)
  | 1 => look fun s => done (stateBytes1 s)
  | _ => look fun s => done (stateBytes2 s)

/-- READ_STATE (R150); it has parts 0 to 2. -/
def readState (o : Origin) (part : Fin 4) : Act Unit :=
  if part = 3 then unknownRequest o (codeByte 1 part)
  else serve o (codeByte 1 part) (afterChecks .yes readStates fun _ => readStateReply part)

/-- READ_SLOT's answer (R50, R52). -/
def readSlotReply (part : Fin 4) (slot : Byte) : Act Reply :=
  match boundedIndex 32 slot.toNat with
  | none => pure (plain .badIndex)
  | some i => do
    let setup ← readSetup i
    let sl ← look fun s => s.slotSeen i
    let shown := setup.getD PowerOn.slotSetup
    pure (done (if part = 0 then slotBytes0 shown setup.isNone sl else slotBytes1 shown setup.isNone))

/-- READ_SLOT (R50); it has parts 0 and 1. -/
def readSlot (o : Origin) (part : Fin 4) (slot : Byte) : Act Unit :=
  if 1 < part.val then unknownRequest o (codeByte 2 part)
  else serve o (codeByte 2 part) (afterChecks .yes readStates fun _ => readSlotReply part slot)

/-- READ_HISTORY's answer (R51). -/
def readHistoryReply (slot : Byte) : Act Reply :=
  match boundedIndex 32 slot.toNat with
  | none => pure (plain .badIndex)
  | some i => look fun s => done (historyBytes s.quantity.slots[i].history)

/-- READ_MAP's answer (R67). -/
def readMapReply (entry : Byte) : Act Reply :=
  match boundedIndex 64 entry.toNat with
  | none => pure (plain .badIndex)
  | some i => do
    let c ← readMapEntry i
    let d ← look fun s => s.intake.dyn[i]
    pure (done (mapBytes (c.getD PowerOn.mapContent) d c.isNone))

/-- READ_MODE's answer (R18, R23). A record newly found faulted is reported to the Controller. -/
def readModeReply (mode : Byte) : Act Reply :=
  match Mode.ofCode mode.toNat with
  | none => pure (plain .badIndex)
  | some m =>
    match m, m.recordIndex with
    | .park, _ => pure (done (modeBytes PowerOn.parkTargets))
    | _, none => pure (done (modeBytes PowerOn.safeTargets))
    | _, some i => do
      checkWithEffect (.modeRecord i)
      look fun s =>
        done (modeBytes (if s.isFaulted (.modeRecord i) then PowerOn.safeTargets else s.ctrl.records[i].content))

/-- READ_RECOVERY's answer (R79). -/
def readRecoveryReply (bin : Byte) : Act Reply :=
  match boundedIndex 4 bin.toNat with
  | none => pure (plain .badIndex)
  | some i => do
    let r ← checkEntry (.recovery i)
    match r with
    | .good => look fun s => done (recoveryBytes s.timer.bins[i].content false)
    | .faulted => pure (done (recoveryBytes PowerOn.recoveryBin true))
    | .newlyFaulted => pure (done (recoveryBytes PowerOn.recoveryBin true))

/-- READ_ACTUATOR's answer (R97, R115). -/
def readActuatorReply (actuator : Byte) : Act Reply :=
  match Actuator.ofIndex actuator.toNat with
  | none => pure (plain .badIndex)
  | some a => do
    let _ ← readActuator a
    look fun s =>
      let faulted := s.isFaulted (.actuator a)
      let shown := if faulted then PowerOn.actuatorEntry else (s.cmd.entries.get a).content
      done (actuatorBytes shown faulted (s.cmd.delivery.get a) s.cmd a)

/-- READ_PARAM's answer (R149, R199). -/
def readParamReply (parameter : Byte) : Act Reply :=
  if paramCount ≤ parameter.toNat then pure (plain .badIndex)
  else do
    let p ← readParams
    look fun s => done (paramBytes (p.value parameter.toNat) (s.isFaulted .params))

/-- TALLY_READ's answer (R173). -/
def tallyReadReply (tally : Byte) : Act Reply :=
  match boundedIndex 4 tally.toNat with
  | none => pure (plain .badIndex)
  | some i => look fun s => done (tallyBytes s.tally.tallies[i])

/-- READ_HISTORY (R51). -/
def readHistory (o : Origin) (slot : Byte) : Act Unit := request o 3 .no readStates fun _ => readHistoryReply slot
/-- READ_MAP (R67). -/
def readMap (o : Origin) (entry : Byte) : Act Unit := request o 4 .no readStates fun _ => readMapReply entry
/-- READ_MODE (R18). -/
def readMode (o : Origin) (mode : Byte) : Act Unit := request o 9 .no readStates fun _ => readModeReply mode
/-- READ_RECOVERY (R79). -/
def readRecovery (o : Origin) (bin : Byte) : Act Unit := request o 11 .no readStates fun _ => readRecoveryReply bin
/-- READ_ACTUATOR (R97). -/
def readActuatorRequest (o : Origin) (a : Byte) : Act Unit := request o 13 .no readStates fun _ => readActuatorReply a
/-- READ_PARAM (R149). -/
def readParam (o : Origin) (p : Byte) : Act Unit := request o 15 .no readStates fun _ => readParamReply p
/-- READ_NOTICES (R158), by part (R197). -/
def readNotices (o : Origin) (part : Fin 4) : Act Unit :=
  serve o (codeByte 23 part) (afterChecks .yes readStates fun _ => look fun s => done (noticeBytes s.notice part))
/-- TALLY_READ (R173). -/
def tallyRead (o : Origin) (t : Byte) : Act Unit := request o 26 (.tally t) readStates fun _ => tallyReadReply t
/-- READ_FAULTS (R181). -/
def readFaults (o : Origin) : Act Unit := request o 29 .no readStates fun _ => look fun s => done (faultsBytes s.integ)

/-! ### Meanings -/

/-- READ_STATE (R150). -/
def execReadState (o : Origin) (part : Fin 4) (s : State) : Host.Outcome State Fault Refusal :=
  live (readState o part) s
/-- READ_SLOT (R50). -/
def execReadSlot (o : Origin) (part : Fin 4) (slot : Byte) (s : State) : Host.Outcome State Fault Refusal :=
  live (readSlot o part slot) s
/-- READ_HISTORY (R51). -/
def execReadHistory (o : Origin) (slot : Byte) (s : State) : Host.Outcome State Fault Refusal :=
  live (readHistory o slot) s
/-- READ_MAP (R67). -/
def execReadMap (o : Origin) (entry : Byte) (s : State) : Host.Outcome State Fault Refusal := live (readMap o entry) s
/-- READ_MODE (R18). -/
def execReadMode (o : Origin) (mode : Byte) (s : State) : Host.Outcome State Fault Refusal := live (readMode o mode) s
/-- READ_RECOVERY (R79). -/
def execReadRecovery (o : Origin) (bin : Byte) (s : State) : Host.Outcome State Fault Refusal :=
  live (readRecovery o bin) s
/-- READ_ACTUATOR (R97). -/
def execReadActuator (o : Origin) (a : Byte) (s : State) : Host.Outcome State Fault Refusal :=
  live (readActuatorRequest o a) s
/-- READ_PARAM (R149). -/
def execReadParam (o : Origin) (p : Byte) (s : State) : Host.Outcome State Fault Refusal := live (readParam o p) s
/-- READ_NOTICES (R158). -/
def execReadNotices (o : Origin) (part : Fin 4) (s : State) : Host.Outcome State Fault Refusal :=
  live (readNotices o part) s
/-- TALLY_READ (R173). -/
def execTallyRead (o : Origin) (t : Byte) (s : State) : Host.Outcome State Fault Refusal := live (tallyRead o t) s
/-- READ_FAULTS (R181). -/
def execReadFaults (o : Origin) (s : State) : Host.Outcome State Fault Refusal := live (readFaults o) s

end Sys2Proof.Machine
end

