-- ==== Sys2Proof/Machine/WriteRequests.lean ====
section
/-! DEFINITION. The requests that write the protected tables (R18, R28, R29, R65, R66, R79, R96, R148). -/

namespace Sys2Proof.Machine

open Sys2Proof

/-! ### The Channel Map (R65, R66) -/

/-- A Channel Map entry written: content under a fresh check code, dynamic fields cleared, off the Fault List. -/
def State.writeMapEntry (i : Fin 64) (c : MapContent) (s : State) : State :=
  (s.onIntake fun u => { u with map := u.map.set i (PowerOn.fresh c), dyn := u.dyn.set i PowerOn.mapDyn }).rewritten
    (.channelMap i)

/-- WRITE_MAP's own checks and effect (R65). The key check reads every other entry. -/
def writeMapReply (entry : Byte) (content : Option MapContent) : Act Reply :=
  match boundedIndex 64 entry.toNat, content with
  | none, _ => pure (plain .badIndex)
  | some _, none => pure (plain .badValue)
  | some i, some c => do
    let other ← lookup c.source c.channel (mapIndexes.filter (· != i))
    match other with
    | some _ => pure (plain .duplicateKey)
    | none => do
      upd (State.writeMapEntry i c)
      pure (plain .done)

/-- CLEAR_MAP's own checks and effect (R66). -/
def clearMapReply (entry : Byte) : Act Reply :=
  match boundedIndex 64 entry.toNat with
  | none => pure (plain .badIndex)
  | some i => do
    upd (State.writeMapEntry i PowerOn.mapContent)
    pure (plain .done)

/-! ### Slots (R28, R29) -/

/-- The role binding list after a slot is given a kind (R1, R28). -/
def PerRole.bind (b : PerRole (Option (Fin 32))) (i : Fin 32) (k : SlotKind) : PerRole (Option (Fin 32)) :=
  let freed := b.map fun h => if h = some i then none else h
  match k with
  | .role r => freed.set r (some i)
  | .unused => freed
  | .monitor => freed

/-- The kind is a role that another slot holds (R28). -/
def roleHeldElsewhere (b : PerRole (Option (Fin 32))) (i : Fin 32) : SlotKind → Bool
  | .role r =>
    match b.get r with
    | some j => j != i
    | none => false
  | .unused => false
  | .monitor => false

/-- The effect of an accepted WRITE_SLOT, steps 2 to 4 of R28. -/
def State.writeSlotSetup (i : Fin 32) (setup : SlotSetup) (s : State) : State :=
  let s := (s.onQuantity fun q => { q with setups := q.setups.set i (PowerOn.fresh setup) }).rewritten (.slotSetup i)
  let s := s.onSlot i fun _ => emptiedSlot setup.staleStart
  let s := s.onCtrl fun c => { c with bindings := c.bindings.bind i setup.kind }
  s.reportSlot i

/-- WRITE_SLOT's own checks and effect (R28). -/
def writeSlotReply (slot : Byte) (form : CompSetup → CompSetup → Option SlotSetup) : Act Reply :=
  match boundedIndex 32 slot.toNat, form PowerOn.compSetup PowerOn.compSetup with
  | none, _ => pure (plain .badIndex)
  | some _, none => pure (plain .badValue)
  | some i, some asked => do
    let held ← look fun s => roleHeldElsewhere s.ctrl.bindings i asked.kind
    if held then pure (plain .duplicateRole)
    else do
      let old ← readSetup i
      let kept := old.getD PowerOn.slotSetup
      upd (State.writeSlotSetup i { asked with compA := kept.compA, compB := kept.compB })
      pure (plain .done)

/-- A comparator named in a request: 0 A, 1 B (R197). -/
inductive CompName | a | b
  deriving DecidableEq, Repr

/-- The comparator of its byte. -/
def CompName.ofByte (b : Byte) : Option CompName := if b = 0 then some .a else if b = 1 then some .b else none

/-- The setup with one comparator's setup replaced. -/
def SlotSetup.setComp (su : SlotSetup) (n : CompName) (c : CompSetup) : SlotSetup :=
  match n with
  | .a => { su with compA := c }
  | .b => { su with compB := c }

/-- One comparator's state. -/
def Slot.comp (sl : Slot) : CompName → CompState
  | .a => sl.compA
  | .b => sl.compB

/-- The slot with one comparator's state replaced. -/
def Slot.setComp (sl : Slot) (n : CompName) (c : CompState) : Slot :=
  match n with
  | .a => { sl with compA := c }
  | .b => { sl with compB := c }

/-- A comparator's state after its setup is written: progress 0, and CLEAR for direction OFF (R29). -/
def CompState.rewritten (st : CompState) (d : Direction) : CompState :=
  match d with
  | .off => ⟨false, 0⟩
  | .above => ⟨st.isSet, 0⟩
  | .below => ⟨st.isSet, 0⟩

/-- The effect of an accepted WRITE_COMPARATOR; a RELEASE is reported (R29). -/
def State.writeComp (i : Fin 32) (n : CompName) (setup : SlotSetup) (c : CompSetup) (s : State) : State :=
  let before := s.quantity.slots[i].comp n
  let s := s.onQuantity fun q => { q with setups := q.setups.set i (PowerOn.fresh (setup.setComp n c)) }
  let s := s.onSlot i fun sl => sl.setComp n ((sl.comp n).rewritten c.direction)
  if before.isSet && c.direction == .off then s.reportSlot i else s

/-- WRITE_COMPARATOR's own checks and effect (R29). -/
def writeComparatorReply (slot comparator : Byte) (content : Option CompSetup) : Act Reply :=
  match boundedIndex 32 slot.toNat, CompName.ofByte comparator, content with
  | none, _, _ => pure (plain .badIndex)
  | some _, none, _ => pure (plain .badIndex)
  | some _, some _, none => pure (plain .badValue)
  | some i, some n, some c => do
    let setup ← readSetup i
    match setup with
    | none => pure (plain .refusedState)
    | some su => do
      upd (State.writeComp i n su c)
      pure (plain .done)

/-! ### Mode Records, recovery bins, actuators (R18, R79, R96) -/

/-- A Mode Record written. -/
def State.writeRecord (i : Fin 7) (r : ModeRecord) (s : State) : State :=
  (s.onCtrl fun c => { c with records := c.records.set i (PowerOn.fresh r) }).rewritten (.modeRecord i)

/-- WRITE_MODE's own checks and effect (R18, R22). -/
def writeModeReply (mode flap blower carbon demist : Byte) : Act Reply :=
  match (Mode.ofCode mode.toNat).bind fun m => m.recordIndex.map fun i => (m, i) with
  | none => pure (plain .badIndex)
  | some (m, i) =>
    match modeRecordOf m flap blower carbon demist with
    | none => pure (plain .badValue)
    | some r => do
      upd (State.writeRecord i r)
      let cur ← look fun s => s.ctrl.mode
      onlyIf (cur == m) computeTargets
      pure (plain .done)

/-- WRITE_RECOVERY's own checks and effect (R79). -/
def writeRecoveryReply (bin : Byte) (content : Option RecoveryBin) : Act Reply :=
  match boundedIndex 4 bin.toNat, content with
  | none, _ => pure (plain .badIndex)
  | some _, none => pure (plain .badValue)
  | some i, some b => do
    upd fun s => (s.onTimer fun t => { t with bins := t.bins.set i (PowerOn.fresh b) }).rewritten (.recovery i)
    pure (plain .done)

/-- WRITE_ACTUATOR's own checks and effect (R96). -/
def writeActuatorReply (actuator : Byte) (content : Option ActuatorEntry) : Act Reply :=
  match Actuator.ofIndex actuator.toNat, content with
  | none, _ => pure (plain .badIndex)
  | some _, none => pure (plain .badValue)
  | some a, some e => do
    upd (State.writeActuator a e)
    pure (plain .done)

/-! ### The parameters entry (R148) -/

/-- The entry stored, and off the Fault List. -/
def State.storeParams (p : Params) (s : State) : State :=
  (s.onMgmt fun m => { m with params := PowerOn.fresh p }).rewritten .params

/-- What follows a written parameter at once: CRITICAL_ROLES (11) has the SAFE causes derived again (R11), and
SCRUB_INTERVAL (17) above 0 starts a stopped scrub timer (R183). -/
def afterParam (n v : Nat) : Act Unit := do
  onlyIf (n == 11) causesAgain
  onlyIf (n == 17 && v != 0) (upd (State.onInteg fun u =>
    if u.scrubTimer.isNone then { u with scrubTimer := some (PowerOn.scrubMs v) } else u))

/-- WRITE_PARAM's own checks and effect (R148). -/
def writeParamReply (parameter : Byte) (value : Word16) : Act Reply :=
  let n := parameter.toNat
  let v := value.toNat
  if paramCount ≤ n then pure (plain .badIndex)
  else if !paramInRange n v then pure (plain .badValue)
  else do
    let base ← readParams
    let faulted ← look fun s => s.isFaulted .params
    let run ← look fun s => s.mgmt.opState == .run
    let p := base.write n v
    if (n = 0 ∨ n = 1) ∧ p.windowAligned = false then pure (plain .badValue)
    else if run && faulted then pure (plain .refusedState)
    else do
      upd (State.storeParams p)
      afterParam n v
      pure (plain .done)

/-! ### The requests -/

/-- WRITE_MAP (R65). -/
def writeMap (o : Origin) (entry : Byte) (content : Option MapContent) : Act Unit :=
  request o 5 .no [.config] fun _ => writeMapReply entry content
/-- CLEAR_MAP (R66). -/
def clearMap (o : Origin) (entry : Byte) : Act Unit := request o 6 .no [.config] fun _ => clearMapReply entry
/-- WRITE_SLOT (R28). -/
def writeSlot (o : Origin) (slot : Byte) (form : CompSetup → CompSetup → Option SlotSetup) : Act Unit :=
  request o 7 .no [.config] fun _ => writeSlotReply slot form
/-- WRITE_COMPARATOR (R29). -/
def writeComparator (o : Origin) (slot comparator : Byte) (content : Option CompSetup) : Act Unit :=
  request o 8 .no [.config, .run] fun _ => writeComparatorReply slot comparator content
/-- WRITE_MODE (R18). -/
def writeMode (o : Origin) (mode flap blower carbon demist : Byte) : Act Unit :=
  request o 10 .no [.config, .run] fun _ => writeModeReply mode flap blower carbon demist
/-- WRITE_RECOVERY (R79). -/
def writeRecovery (o : Origin) (bin : Byte) (content : Option RecoveryBin) : Act Unit :=
  request o 12 .no [.config] fun _ => writeRecoveryReply bin content
/-- WRITE_ACTUATOR (R96). -/
def writeActuator (o : Origin) (actuator : Byte) (content : Option ActuatorEntry) : Act Unit :=
  request o 14 .no [.config] fun _ => writeActuatorReply actuator content
/-- WRITE_PARAM (R148). -/
def writeParam (o : Origin) (parameter : Byte) (value : Word16) : Act Unit :=
  request o 16 .no (paramStates parameter.toNat) fun _ => writeParamReply parameter value

/-! ### Meanings -/

/-- WRITE_MAP (R65). -/
def execWriteMap (o : Origin) (entry source channel slot : Byte) (gain offset : Word16) (rule k : Byte) (s : State) :
    Host.Outcome State Fault Refusal :=
  live (writeMap o entry (mapContentOf source channel slot gain offset rule k)) s
/-- CLEAR_MAP (R66). -/
def execClearMap (o : Origin) (entry : Byte) (s : State) : Host.Outcome State Fault Refusal :=
  live (clearMap o entry) s
/-- WRITE_SLOT (R28). -/
def execWriteSlot (o : Origin) (slot kind : Byte) (lo hi step : Word16) (stale smoothing : Byte) (s : State) :
    Host.Outcome State Fault Refusal :=
  live (writeSlot o slot (slotSetupOf kind lo hi step stale smoothing)) s
/-- WRITE_COMPARATOR (R29). -/
def execWriteComparator (o : Origin) (slot comparator direction : Byte) (set clear : Word16) (confirm : Byte)
    (s : State) : Host.Outcome State Fault Refusal :=
  live (writeComparator o slot comparator (compSetupOf direction set clear confirm)) s
/-- WRITE_MODE (R18). -/
def execWriteMode (o : Origin) (mode flap blower carbon demist : Byte) (s : State) :
    Host.Outcome State Fault Refusal :=
  live (writeMode o mode flap blower carbon demist) s
/-- WRITE_RECOVERY (R79). -/
def execWriteRecovery (o : Origin) (bin : Byte) (threshold length : Word16) (s : State) :
    Host.Outcome State Fault Refusal :=
  live (writeRecovery o bin (recoveryBinOf threshold length)) s
/-- WRITE_ACTUATOR (R96). -/
def execWriteActuator (o : Origin) (actuator present node : Byte) (s : State) : Host.Outcome State Fault Refusal :=
  live (writeActuator o actuator (actuatorEntryOf present node)) s
/-- WRITE_PARAM (R148). -/
def execWriteParam (o : Origin) (parameter : Byte) (value : Word16) (s : State) :
    Host.Outcome State Fault Refusal :=
  live (writeParam o parameter value) s

end Sys2Proof.Machine
end

