-- ==== Sys2Proof/Machine/ControlRequests.lean ====
section
/-! DEFINITION. The requests that act on the running device (R89, R91, R92, R112, R144 to R146, R151, R157, R158,
R172, R173, R186). -/

namespace Sys2Proof.Machine

open Sys2Proof

/-! ### ENTER_CONFIG and ENTER_RUN (R144 to R146) -/

/-- ENTER_CONFIG's effect (R144). -/
def enterConfigReply : Act Reply := do
  changeOpState .config do
    upd (State.onTimer TimerUnit.stopAll)
    upd State.stopPreclean
  pure (plain .done)

/-- Check 3 of R145 over given entries: each is read, and after a valid one, before the next, the setup of the slot
it names (the order is the model's: log entry 12); it answers whether one names an UNUSED slot. -/
def mapToUnused : List (Fin 64) → Act Bool
  | [] => pure false
  | i :: is => do
    let c ← readMapEntry i
    let here ← match c with
      | some c =>
        if c.valid then do
          let su ← readSetup c.slot
          pure (match su with
            | some su => su.kind == .unused
            | none => false)
        else pure false
      | none => pure false
    let rest ← mapToUnused is
    pure (here || rest)

/-- Checks 4 to 6 of R145. -/
def validateActuators : Act (Option RunCheck) := do
  let flap ← readActuator .flap
  if flap.isNone then pure (some .noFlap)
  else do
    let blower ← readActuator .blower
    if blower.isNone then pure (some .noBlower)
    else look fun s => if s.integ.faultList.isEmpty then none else some .faultsPresent

/-- ENTER_RUN validation: the first failing check (R145). -/
def validateRun : Act (Option RunCheck) := do
  let b ← look fun s => s.ctrl.bindings
  if b.outPm.isNone then pure (some .noOutPm)
  else if b.cabCo2.isNone then pure (some .noCabCo2)
  else do
    let unused ← mapToUnused mapIndexes
    if unused then pure (some .mapToUnused) else validateActuators

/-- ENTER_RUN's validation and effect (R145, R146). -/
def enterRunReply : Act Reply := do
  let failing ← validateRun
  match failing with
  | some c => pure ⟨.invalid, [byteOf c.code]⟩
  | none => do
    changeOpState .run (upd (State.onTimer TimerUnit.enterRun))
    pure (plain .done)

/-! ### Purge and override requests (R89, R91, R92) -/

/-- PURGE_START's own checks and effect (R83 (d), R89); the mode is the one the Timer Unit was last handed
(R82; log entry 16). -/
def purgeStartReply : Act Reply := do
  let safe ← look fun s => s.timer.heldMode == .safe
  if safe then pure (plain .refusedState)
  else do
    let p ← readParams
    let t ← look fun s => s.timer
    if !p.enablesPurge then pure (plain .refusedState)
    else if t.doorOpen then pure (plain .refusedDoor)
    else do
      onlyIf t.purge.isNone do
        upd (State.onTimer fun t => { t with purge := startedTimer p.purgeLength })
        upd State.reportTimers
      pure (plain .done)

/-- PURGE_STOP's effect (R86, R88, R89). -/
def purgeStopReply : Act Reply := do
  let running ← look fun s => s.timer.purge.isSome
  onlyIf running do
    let p ← readParams
    upd (State.onTimer fun t => { t with purge := none, gap := startedTimer p.purgeGap })
    upd State.reportTimers
  pure (plain .done)

/-- OVERRIDE's own checks and effect (R22, R91). -/
def overrideReply (content : Option OverrideRecord) : Act Reply :=
  match content with
  | none => pure (plain .badValue)
  | some r => do
    let severe ← look fun s => s.timer.heldSevere
    if r.flap = .fresh ∧ severe = true then pure (plain .refusedSevere)
    else do
      upd (State.onTimer fun t => { t with overrideRecord := some r, overrideTimer := startedTimer r.duration })
      let m ← look fun s => s.ctrl.mode
      onlyIf (m == .manual) computeTargets
      upd State.reportTimers
      pure (plain .done)

/-- CANCEL_OVERRIDE's effect (R92). -/
def cancelOverrideReply : Act Reply := do
  let running ← look fun s => s.timer.overrideTimer.isSome
  onlyIf running endOverride
  pure (plain .done)

/-! ### Notices and tallies (R157, R158, R172, R173) -/

/-- One kind acknowledged, if it is pending (R157). -/
def State.acknowledge (s : State) (k : NoticeKind) : State :=
  let r := s.noticeRecord k
  if r.pending then
    s.setNotice k { r with pending := false, count := 0, escalated := false, escalationTimer := none }
  else s

/-- ACK_NOTICES' own check and effect (R157). -/
def ackNoticesReply (kinds : Word16) : Act Reply :=
  if kindSetOk kinds then do
    upd fun s => (NoticeKind.all.filter (kindInSet kinds)).foldl State.acknowledge s
    pure (plain .done)
  else pure (plain .badValue)

/-- The kinds in the set masked, the others unmasked (R158). -/
def NoticeUnit.mask (kinds : Word16) (n : NoticeUnit) : NoticeUnit :=
  { n with records := buildTable 14 fun i => { n.records[i] with masked := kinds.getLsbD i.val } }

/-- MASK_NOTICES' own check and effect (R158). -/
def maskNoticesReply (kinds : Word16) : Act Reply :=
  if kindSetOk kinds then do
    upd (State.onNotice (NoticeUnit.mask kinds))
    pure (plain .done)
  else pure (plain .badValue)

/-- One tally replaced. -/
def State.setTally (i : Fin 4) (t : Tally) (s : State) : State :=
  s.onTally fun u => { u with tallies := u.tallies.set i t }

/-- TALLY_SETUP's own checks and effect (R172). -/
def tallySetupReply (tally group mask : Byte) (filter : Word16) (flags : Byte) : Act Reply :=
  match boundedIndex 4 tally.toNat with
  | none => pure (plain .badIndex)
  | some i => do
    let t ← look fun s => s.tally.tallies[i]
    match tallySetupOf t group mask filter flags with
    | none => pure (plain .badValue)
    | some t => do
      upd (State.setTally i t)
      pure (plain .done)

/-- TALLY_WRITE's own check and effect (R173). -/
def tallyWriteReply (tally : Byte) (value : Word32) : Act Reply :=
  match boundedIndex 4 tally.toNat with
  | none => pure (plain .badIndex)
  | some i => do
    upd fun s => s.setTally i { s.tally.tallies[i] with value := value }
    pure (plain .done)

/-! ### RESUME, PARK, RESET (R112, R151, R186) -/

/-- RESUME's effect (R112). -/
def resumeReply : Act Reply := do
  resumeDelivery
  pure (plain .done)

/-- PARK's own checks and effect (R186). -/
def parkReply (minutes : Word16) : Act Reply :=
  if 1440 < minutes.toNat then pure (plain .badValue)
  else do
    let doorOpen ← look fun s => s.timer.doorOpen
    if doorOpen then pure (plain .refusedDoor)
    else do
      parkingEntry minutes.toNat
      pure (plain .done)

/-- RESET (R151): from the gateway a link reset, whatever RPQ holds; from anyone else refused, with the room test of
any request, against the queue as it stands (log entry 29). -/
def resetRequest (o : Origin) : Act Unit := do
  let parked ← look fun s => s.mgmt.opState == .parked
  if fromGateway o then
    onlyIf (!parked) do
      raiseOwed
      linkReset (if o.broadcast then none else some (replyFrame o.src o.tag (codeByte 32 0) (plain .done)))
  else request o 32 .no readStates fun _ => pure (plain .refusedClass)

/-! ### The requests -/

/-- ENTER_CONFIG (R144). -/
def enterConfig (o : Origin) : Act Unit := request o 17 .no [.run] fun _ => enterConfigReply
/-- ENTER_RUN (R145, R146). -/
def enterRun (o : Origin) : Act Unit := request o 18 .no [.config] fun _ => enterRunReply
/-- PURGE_START (R89). -/
def purgeStart (o : Origin) : Act Unit := request o 19 .no [.run] fun _ => purgeStartReply
/-- PURGE_STOP (R89). -/
def purgeStop (o : Origin) : Act Unit := request o 20 .no [.run] fun _ => purgeStopReply
/-- OVERRIDE (R91). -/
def overrideRequest (o : Origin) (form : OriginClass → Option OverrideRecord) : Act Unit :=
  request o 21 .yes [.run] fun c => overrideReply (form c)
/-- CANCEL_OVERRIDE (R92). -/
def cancelOverride (o : Origin) : Act Unit := request o 22 .yes [.run] fun _ => cancelOverrideReply
/-- ACK_NOTICES (R157). -/
def ackNotices (o : Origin) (kinds : Word16) : Act Unit :=
  request o 24 .no [.config, .run] fun _ => ackNoticesReply kinds
/-- MASK_NOTICES (R158). -/
def maskNotices (o : Origin) (kinds : Word16) : Act Unit :=
  request o 25 .no [.config, .run] fun _ => maskNoticesReply kinds
/-- TALLY_SETUP (R172). -/
def tallySetup (o : Origin) (tally group mask : Byte) (filter : Word16) (flags : Byte) : Act Unit :=
  request o 27 .no [.config, .run] fun _ => tallySetupReply tally group mask filter flags
/-- TALLY_WRITE (R173). -/
def tallyWrite (o : Origin) (tally : Byte) (value : Word32) : Act Unit :=
  request o 28 .no [.config, .run] fun _ => tallyWriteReply tally value
/-- RESUME (R112). -/
def resume (o : Origin) : Act Unit := request o 30 .no [.config, .run] fun _ => resumeReply
/-- PARK (R186). -/
def park (o : Origin) (minutes : Word16) : Act Unit := request o 31 .no [.run] fun _ => parkReply minutes

/-! ### Meanings -/

/-- ENTER_CONFIG (R144). -/
def execEnterConfig (o : Origin) (s : State) : Host.Outcome State Fault Refusal := live (enterConfig o) s
/-- ENTER_RUN (R145, R146). -/
def execEnterRun (o : Origin) (s : State) : Host.Outcome State Fault Refusal := live (enterRun o) s
/-- PURGE_START (R89). -/
def execPurgeStart (o : Origin) (s : State) : Host.Outcome State Fault Refusal := live (purgeStart o) s
/-- PURGE_STOP (R89). -/
def execPurgeStop (o : Origin) (s : State) : Host.Outcome State Fault Refusal := live (purgeStop o) s
/-- OVERRIDE (R91). -/
def execOverride (o : Origin) (flap blower : Byte) (duration : Word16) (s : State) :
    Host.Outcome State Fault Refusal :=
  live (overrideRequest o (overrideOf flap blower duration)) s
/-- CANCEL_OVERRIDE (R92). -/
def execCancelOverride (o : Origin) (s : State) : Host.Outcome State Fault Refusal := live (cancelOverride o) s
/-- ACK_NOTICES (R157). -/
def execAckNotices (o : Origin) (kinds : Word16) (s : State) : Host.Outcome State Fault Refusal :=
  live (ackNotices o kinds) s
/-- MASK_NOTICES (R158). -/
def execMaskNotices (o : Origin) (kinds : Word16) (s : State) : Host.Outcome State Fault Refusal :=
  live (maskNotices o kinds) s
/-- TALLY_SETUP (R172). -/
def execTallySetup (o : Origin) (tally group mask : Byte) (filter : Word16) (flags : Byte) (s : State) :
    Host.Outcome State Fault Refusal :=
  live (tallySetup o tally group mask filter flags) s
/-- TALLY_WRITE (R173). -/
def execTallyWrite (o : Origin) (tally : Byte) (value : Word32) (s : State) : Host.Outcome State Fault Refusal :=
  live (tallyWrite o tally value) s
/-- RESUME (R112). -/
def execResume (o : Origin) (s : State) : Host.Outcome State Fault Refusal := live (resume o) s
/-- PARK (R186). -/
def execPark (o : Origin) (minutes : Word16) (s : State) : Host.Outcome State Fault Refusal := live (park o minutes) s
/-- RESET (R151). -/
def execReset (o : Origin) (s : State) : Host.Outcome State Fault Refusal := live (resetRequest o) s

end Sys2Proof.Machine
end

