-- ==== Sys2Proof/Machine/RequestCodes.lean ====
section
/-! DEFINITION. From the payload of a MANAGE frame to the request it carries (R140, R197), and the work of each
request, for the frames that arrive. -/

namespace Sys2Proof.Machine

open Sys2Proof

/-- What a MANAGE payload carries. -/
inductive Request
  /-- A request code the device does not know (R140 step 2). -/
  | unknown
  /-- A known request whose argument length is wrong (R140 step 4). -/
  | badLength (rule : PanelRule)
  | known (i : Instr)
  deriving DecidableEq, Repr

/-- The part of a request code: its top two bits (R197). -/
def codePart (code : Byte) : Fin 4 := ⟨code.toNat / 64, by have := code.isLt; omega⟩

/-- Whether a request number has a part (R197). -/
def knownCode (number part : Nat) : Bool :=
  match number with
  | 1 => part ≤ 2
  | 2 => part ≤ 1
  | 23 => part ≤ 3
  | n => 1 ≤ n && n ≤ 32 && part == 0

/-- The PANEL class's use of a request number (R139); a TALLY_READ is judged by its first argument byte, and
one with no byte is past that test (log entry 22). -/
def panelRuleOf (number : Nat) (args : List Byte) : PanelRule :=
  match number, args with
  | 26, t :: _ => .tally t
  | 26, [] => .yes
  | n, _ => if [1, 2, 21, 22, 23].contains n then .yes else .no

/-- A request of a number from its argument bytes, if their length is right (R197): numbers 1 to 16. -/
def tableRequestOf (o : Origin) (part : Fin 4) (number : Nat) (args : List Byte) : Option Instr :=
  match number, args with
  | 1, [] => some (.readState o part)
  | 2, [s] => some (.readSlot o part s)
  | 3, [s] => some (.readHistory o s)
  | 4, [e] => some (.readMap o e)
  | 5, [e, src, ch, s, g1, g0, f1, f0, r, k] =>
    some (.writeMap o e src ch s (joinWord16 g1 g0) (joinWord16 f1 f0) r k)
  | 6, [e] => some (.clearMap o e)
  | 7, [s, k, a1, a0, b1, b0, c1, c0, st, sm] =>
    some (.writeSlot o s k (joinWord16 a1 a0) (joinWord16 b1 b0) (joinWord16 c1 c0) st sm)
  | 8, [s, c, d, a1, a0, b1, b0, n] =>
    some (.writeComparator o s c d (joinWord16 a1 a0) (joinWord16 b1 b0) n)
  | 9, [m] => some (.readMode o m)
  | 10, [m, f, b, c, d] => some (.writeMode o m f b c d)
  | 11, [b] => some (.readRecovery o b)
  | 12, [b, t1, t0, l1, l0] => some (.writeRecovery o b (joinWord16 t1 t0) (joinWord16 l1 l0))
  | 13, [a] => some (.readActuator o a)
  | 14, [a, p, n] => some (.writeActuator o a p n)
  | 15, [p] => some (.readParam o p)
  | 16, [p, v1, v0] => some (.writeParam o p (joinWord16 v1 v0))
  | _, _ => none

/-- A request of a number from its argument bytes, if their length is right (R197): numbers 17 to 32. -/
def controlRequestOf (o : Origin) (part : Fin 4) (number : Nat) (args : List Byte) : Option Instr :=
  match number, args with
  | 17, [] => some (.enterConfig o)
  | 18, [] => some (.enterRun o)
  | 19, [] => some (.purgeStart o)
  | 20, [] => some (.purgeStop o)
  | 21, [f, b, d1, d0] => some (.override o f b (joinWord16 d1 d0))
  | 22, [] => some (.cancelOverride o)
  | 23, [] => some (.readNotices o part)
  | 24, [k1, k0] => some (.ackNotices o (joinWord16 k1 k0))
  | 25, [k1, k0] => some (.maskNotices o (joinWord16 k1 k0))
  | 26, [t] => some (.tallyRead o t)
  | 27, [t, g, m, f1, f0, fl] => some (.tallySetup o t g m (joinWord16 f1 f0) fl)
  | 28, [t, v3, v2, v1, v0] => some (.tallyWrite o t (joinWord32 v3 v2 v1 v0))
  | 29, [] => some (.readFaults o)
  | 30, [] => some (.resume o)
  | 31, [m1, m0] => some (.park o (joinWord16 m1 m0))
  | 32, [] => some (.reset o)
  | _, _ => none

/-- The request a code and its argument bytes carry (R140 steps 2 and 4, R197). -/
def decodeRequest (o : Origin) (code : Byte) (args : List Byte) : Request :=
  let n := code.toNat % 64
  let part := codePart code
  if !knownCode n part.val then .unknown
  else
    match (tableRequestOf o part n args).orElse fun _ => controlRequestOf o part n args with
    | some i => .known i
    | none => .badLength (panelRuleOf n args)

/-! ### The code and argument bytes of a request (R197) -/

/-- A request's origin, number, part and argument bytes; an event of another kind has none. -/
def requestForm : Instr → Option (Origin × Nat × Fin 4 × List Byte)
  | .readState o p => some (o, 1, p, [])
  | .readSlot o p s => some (o, 2, p, [s])
  | .readHistory o s => some (o, 3, 0, [s])
  | .readMap o e => some (o, 4, 0, [e])
  | .writeMap o e src ch s g f r k => some (o, 5, 0, [e, src, ch, s] ++ word16Bytes g ++ word16Bytes f ++ [r, k])
  | .clearMap o e => some (o, 6, 0, [e])
  | .writeSlot o s k a b c st sm =>
    some (o, 7, 0, [s, k] ++ word16Bytes a ++ word16Bytes b ++ word16Bytes c ++ [st, sm])
  | .writeComparator o s c d a b n => some (o, 8, 0, [s, c, d] ++ word16Bytes a ++ word16Bytes b ++ [n])
  | .readMode o m => some (o, 9, 0, [m])
  | .writeMode o m f b c d => some (o, 10, 0, [m, f, b, c, d])
  | .readRecovery o b => some (o, 11, 0, [b])
  | .writeRecovery o b t l => some (o, 12, 0, [b] ++ word16Bytes t ++ word16Bytes l)
  | .readActuator o a => some (o, 13, 0, [a])
  | .writeActuator o a p n => some (o, 14, 0, [a, p, n])
  | .readParam o p => some (o, 15, 0, [p])
  | .writeParam o p v => some (o, 16, 0, [p] ++ word16Bytes v)
  | .enterConfig o => some (o, 17, 0, [])
  | .enterRun o => some (o, 18, 0, [])
  | .purgeStart o => some (o, 19, 0, [])
  | .purgeStop o => some (o, 20, 0, [])
  | .override o f b d => some (o, 21, 0, [f, b] ++ word16Bytes d)
  | .cancelOverride o => some (o, 22, 0, [])
  | .readNotices o p => some (o, 23, p, [])
  | .ackNotices o k => some (o, 24, 0, word16Bytes k)
  | .maskNotices o k => some (o, 25, 0, word16Bytes k)
  | .tallyRead o t => some (o, 26, 0, [t])
  | .tallySetup o t g m f fl => some (o, 27, 0, [t, g, m] ++ word16Bytes f ++ [fl])
  | .tallyWrite o t v => some (o, 28, 0, [t] ++ word32Bytes v)
  | .readFaults o => some (o, 29, 0, [])
  | .resume o => some (o, 30, 0, [])
  | .park o m => some (o, 31, 0, word16Bytes m)
  | .reset o => some (o, 32, 0, [])
  | _ => none

/-- The work of a request; an event of another kind is none. -/
def runRequest : Instr → Act Unit
  | .readState o part => readState o part
  | .readSlot o part slot => readSlot o part slot
  | .readHistory o slot => readHistory o slot
  | .readMap o entry => readMap o entry
  | .writeMap o entry source channel slot gain offset rule k =>
    writeMap o entry (mapContentOf source channel slot gain offset rule k)
  | .clearMap o entry => clearMap o entry
  | .writeSlot o slot kind lo hi step stale smoothing =>
    writeSlot o slot (slotSetupOf kind lo hi step stale smoothing)
  | .writeComparator o slot comparator direction set clear confirm =>
    writeComparator o slot comparator (compSetupOf direction set clear confirm)
  | .readMode o mode => readMode o mode
  | .writeMode o mode flap blower carbon demist => writeMode o mode flap blower carbon demist
  | .readRecovery o bin => readRecovery o bin
  | .writeRecovery o bin threshold length => writeRecovery o bin (recoveryBinOf threshold length)
  | .readActuator o a => readActuatorRequest o a
  | .writeActuator o a present node => writeActuator o a (actuatorEntryOf present node)
  | .readParam o p => readParam o p
  | .writeParam o p v => writeParam o p v
  | .enterConfig o => enterConfig o
  | .enterRun o => enterRun o
  | .purgeStart o => purgeStart o
  | .purgeStop o => purgeStop o
  | .override o flap blower duration => overrideRequest o (overrideOf flap blower duration)
  | .cancelOverride o => cancelOverride o
  | .readNotices o part => readNotices o part
  | .ackNotices o kinds => ackNotices o kinds
  | .maskNotices o kinds => maskNotices o kinds
  | .tallyRead o t => tallyRead o t
  | .tallySetup o t group mask filter flags => tallySetup o t group mask filter flags
  | .tallyWrite o t v => tallyWrite o t v
  | .readFaults o => readFaults o
  | .resume o => resume o
  | .park o minutes => park o minutes
  | .reset o => resetRequest o
  | _ => pure ()

/-- A MANAGE frame at the Responder (R138, R140). -/
def takeManage (port : Port) (broadcast : Bool) (f : Frame) : Act Unit :=
  match f.payload with
  | [] => pure ()
  | code :: args =>
    let o : Origin := ⟨port, broadcast, f.src, f.tag⟩
    match decodeRequest o code args with
    | .unknown => unknownRequest o code
    | .badLength rule => badLengthRequest o code rule
    | .known i => runRequest i

end Sys2Proof.Machine
end

