-- ==== Sys2Proof/Machine/Ports.lean ====
section
/-! DEFINITION. The Port Unit's work (chapter 6): arrivals and their disposition, the ownership check, the DN and
UP arbiters, the ends of transmissions, the receivers. -/

namespace Sys2Proof.Machine

open Sys2Proof

/-! ### Arrivals (R122, R124 to R126, R134) -/

/-- The sub-event of a classification (R124). -/
def Classified.subEvent : Classified → SubEvent
  | .checkError => .checkError
  | .malformed => .malformed
  | .good _ => .rxGood

/-- Where a good frame goes (R125, R126). -/
inductive Disposition
  /-- To the Management Responder. -/
  | manage
  /-- To the Command Engine. -/
  | ack
  /-- To the Sample Intake; `passing` frames may be forwarded. -/
  | sample (passing : Bool)
  /-- Offered to FWQ. -/
  | forward
  /-- Offered to PTQ. -/
  | passThrough
  /-- The ownership check, then PTQ or OWNED. -/
  | owned
  /-- Offered to PTQ, and to the Management Responder as a broadcast. -/
  | broadcast
  /-- Dropped, or ignored. -/
  | nowhere
  deriving DecidableEq, Repr

/-- The disposition of a good DN frame (R125). -/
def dnDisposition (dest : Nat) (k : FrameKind) : Disposition :=
  if dest = 1 then
    match k with
    | .manage => .manage
    | .ack => .ack
    | .sample => .sample false
    | .cmd => .nowhere
    | .reply => .nowhere
    | .notice => .nowhere
  else if dest = 0 ∨ dest = 63 then (if k = .sample then .sample true else .forward)
  else .nowhere

/-- The disposition of a good UP frame (R126). -/
def upDisposition (dest : Nat) (k : FrameKind) : Disposition :=
  if dest = 0 then .nowhere
  else if dest = 1 then
    match k with
    | .manage => .manage
    | .sample => .sample false
    | .cmd => .nowhere
    | .ack => .nowhere
    | .reply => .nowhere
    | .notice => .nowhere
  else if k = .cmd then .owned
  else if dest = 63 ∧ k = .manage then .broadcast
  else .passThrough

/-- The OWNED reply to a gateway CMD frame (R116). -/
def replyOwned (tag : Byte) : Act Unit := do
  let room ← look fun s => decide (s.port.rpq.length < rpqCapacity)
  if room then upd (State.onPort fun p => { p with rpq := p.rpq ++ [replyFrame 0 tag 0 (plain .owned)] })
  else give .rqDrop

/-- A CMD frame of UP at the ownership check (R116); the four entries are read in every state (log entry 10). A notice of
damage that these reads find stands in RPQ before the OWNED reply, which their outcome decides: the order is the model's
choice, since a CMD frame is no request (R141, R156; log entry 12, DESIGN CHOICE). -/
def takeCmd (f : Frame) : Act Unit := do
  let nodes ← readNodes Actuator.all
  let config ← look fun s => s.mgmt.opState == .config
  let isOwned := if f.dest.toNat = 63 then !nodes.isEmpty else !(atNode nodes f.dest.toNat).isEmpty
  if isOwned && !config then replyOwned f.tag else offerPtq f

/-- A good frame disposed of. A broadcast MANAGE frame is offered to PTQ first (log entry 12). -/
def dispose (port : Port) (f : Frame) (d : Disposition) : Act Unit :=
  match d with
  | .manage => takeManage port false f
  | .ack =>
    match ackOf f.payload with
    | some r => takeAck f.src f.tag r
    | none => pure ()
  | .sample passing => takeSample f passing
  | .forward => offerFwq f
  | .passThrough => offerPtq f
  | .owned => takeCmd f
  | .broadcast => do
    offerPtq f
    takeManage port true f
  | .nowhere => pure ()

/-- A frame received on DN outside PARKED: counted, and disposed of if good (R122, R124, R125). A TALLY_OVERFLOW of
the count waits as log entry 25 says, behind the place of a reply. -/
def takeDn (r : Reception) : Act Unit := do
  give (classify r).subEvent
  match classify r with
  | .good f => dispose .dn f (dnDisposition f.dest.toNat f.kind)
  | .checkError => pure ()
  | .malformed => pure ()

/-- A frame received on UP outside PARKED (R122, R124, R126). A TALLY_OVERFLOW of its count waits as log entry 25
says, behind the place of a reply. -/
def takeUp (r : Reception) : Act Unit := do
  give (classify r).subEvent
  match classify r with
  | .good f => dispose .up f (upDisposition f.dest.toNat f.kind)
  | .checkError => pure ()
  | .malformed => pure ()

/-- A frame received on UP in PARKED: a good MANAGE frame with DEST 1 wakes the device (R134, R190). -/
def upInParked (r : Reception) (busy : LinesBusy) : Act Unit :=
  match classify r with
  | .good f => onlyIf (f.dest == 1 && f.kind == .manage) (wake .wakeLink busy)
  | .checkError => pure ()
  | .malformed => pure ()

/-- A complete frame on DN (R125); a receiver that waits for idle has taken none (R135). -/
def dnArrival (r : Reception) : Act Unit := do
  let taken ← look fun s => s.port.dnRx == .taking && s.mgmt.opState != .parked
  onlyIf taken (takeDn r)

/-- A complete frame on UP (R126). -/
def upArrival (r : Reception) (busy : LinesBusy) : Act Unit := do
  let taking ← look fun s => s.port.upRx == .taking
  let parked ← look fun s => s.mgmt.opState == .parked
  onlyIf taking (if parked then upInParked r busy else takeUp r)

/-! ### The DN arbiter (R101, R102, R131) -/

/-- The command offered to the DN arbiter: the first DUE, else the oldest eligible member of CMQ; nothing while
halted (R101). -/
def CommandEngine.offered (c : CommandEngine) : Option Actuator :=
  if c.halted then none
  else
    match c.due with
    | a :: _ => some a
    | [] => c.cmq.find? fun a => (c.delivery.get a).outstanding.isNone

/-- Whether the Command Engine is granted the line (R131). -/
def grantsCommand (share count : Nat) (offered : Option Actuator) (ptqEmpty : Bool) : Bool :=
  offered.isSome && (ptqEmpty || share == 0 || share ≤ count)

/-- A transmission begins on DN. -/
def State.startDn (who : DnParty) (f : Frame) (s : State) : State :=
  s.onPort fun p => { p with dnTx := some ⟨who, f⟩ }

/-- The grant of a command whose actuator is present: a DUE command resumed, or the pending value of a CMQ
member formed into a command with the tag counter's value (R102). -/
def State.sendCommand (a : Actuator) (node : Nat) (s : State) : State :=
  let d := s.cmd.delivery.get a
  match d.outstanding, d.pendingValue with
  | some o, _ =>
    (s.onCmd fun c =>
      { c.onDelivery a fun d => { d with outstanding := some { o with phase := .onLine } } with
        due := c.due.erase a }).startDn (.command a) (cmdFrame node o.tag o.value)
  | none, some v =>
    (s.onCmd fun c =>
      { c.onDelivery a fun d =>
          { d with pendingValue := none, outstanding := some ⟨c.tagCounter, v, 1, .onLine, false⟩ } with
        cmq := c.cmq.erase a
        tagCounter := c.tagCounter + 1 }).startDn (.command a) (cmdFrame node s.cmd.tagCounter v)
  | none, none => s

/-- The decisions of one DN grant (R131): DN_SHARE is read at each, and an offer whose actuator is found not
present is dropped and decided past (R102, R115). Four such drops leave nothing to offer. -/
def decideDn : Nat → Act Unit
  | 0 => pure ()
  | n + 1 => do
    let p ← readParams
    let offered ← look fun s => s.cmd.offered
    let head ← look fun s => s.port.ptq.head?
    let count ← look fun s => s.port.dnShareCount
    match offered, head with
    | none, none => pure ()
    | none, some f => upd (State.startDn .ptqHead f)
    | some a, head =>
      match grantsCommand p.dnShare count (some a) head.isNone, head with
      | false, some f => upd (State.startDn .ptqHead f)
      | _, _ => do
        let e ← readActuator a
        match e with
        | some x => upd (State.sendCommand a x.node)
        | none => do
          upd (State.actuatorFaulted a)
          decideDn n

/-- A DN grant: the transmitter is free and a party waits (R131). -/
def dnGrant : Act Unit := do
  let waits ← look fun s => s.port.dnTx.isNone && (s.cmd.offered.isSome || !s.port.ptq.isEmpty)
  onlyIf waits (decideDn 5)

/-- A CMD transmission ends SENT: the share counter 0; the command, if still ON_LINE, WAITING with ACK_TIMEOUT
read now (R103, R131). -/
def cmdSent (a : Actuator) : Act Unit := do
  upd (State.onPort fun p => { p with dnShareCount := 0 })
  let out ← look fun s => (s.cmd.delivery.get a).outstanding
  match out with
  | none => pure ()
  | some o =>
    onlyIf (o.phase == .onLine) do
      let p ← readParams
      upd (State.onDelivery a fun d =>
        { d with outstanding := some { o with phase := .waiting }, ackTimer := some p.ackTimeout })
      give (if o.attempts = 1 then .sent else .resent)

/-- A CMD transmission ends LOST: the command, if still ON_LINE, is DUE (R103). -/
def State.cmdLost (a : Actuator) (s : State) : State :=
  match (s.cmd.delivery.get a).outstanding with
  | some o => if o.phase = .onLine then s.onCmd (·.becomeDue a o) else s
  | none => s

/-- PTQ's head has been sent: it leaves, and the share counter rises (R127, R131). -/
def PortUnit.ptqSent (p : PortUnit) : PortUnit :=
  { p with ptq := p.ptq.tail, dnShareCount := min 3 (p.dnShareCount + 1) }

/-- The end of the DN transmission (R130); DN_EN is released. -/
def dnTransmissionEnd (e : TxEnd) : Act Unit := do
  let tx ← look fun s => s.port.dnTx
  match tx with
  | none => pure ()
  | some t => do
    upd (State.onPort fun p => { p with dnTx := none })
    match t.party, e with
    | .ptqHead, .sent => upd (State.onPort PortUnit.ptqSent)
    | .ptqHead, .lost => pure ()
    | .command a, .sent => cmdSent a
    | .command a, .lost => upd (State.cmdLost a)

/-! ### The UP arbiter (R132) -/

/-- A UP grant: RPQ first, but FWQ after four in a row; nothing while a frame is on the line (R132). -/
def PortUnit.grantUp (p : PortUnit) : PortUnit :=
  match p.upTx, p.rpq, p.fwq with
  | some _, _, _ => p
  | none, [], [] => p
  | none, r :: _, [] => { p with upTx := some ⟨.rpq, false, r⟩ }
  | none, [], f :: _ => { p with upTx := some ⟨.fwq, true, f⟩ }
  | none, r :: _, f :: _ =>
    { p with upTx := some (if p.upRunCount < 4 then ⟨.rpq, true, r⟩ else ⟨.fwq, true, f⟩) }

/-- The end of a UP transmission: the frame leaves its queue, and the run counter changes (R127, R132). -/
def PortUnit.endUp (p : PortUnit) : PortUnit :=
  match p.upTx with
  | none => p
  | some t =>
    match t.queue with
    | .rpq => { p with upTx := none, rpq := p.rpq.tail, upRunCount := if t.fwqHeld then min 4 (p.upRunCount + 1) else 0 }
    | .fwq => { p with upTx := none, fwq := p.fwq.tail, upRunCount := 0 }

/-- The receiver of a port has seen its idle gap (R135). -/
def PortUnit.idleSeen (port : Port) (p : PortUnit) : PortUnit :=
  match port with
  | .up => { p with upRx := .taking }
  | .dn => { p with dnRx := .taking }

/-! ### Meanings -/

/-- DN_ARRIVAL (R125). -/
def execDnArrival (r : Reception) (s : State) : Host.Outcome State Fault Refusal := live (dnArrival r) s

/-- UP_ARRIVAL (R126). -/
def execUpArrival (r : Reception) (busy : LinesBusy) (s : State) : Host.Outcome State Fault Refusal :=
  live (upArrival r busy) s

/-- DN_GRANT (R131). -/
def execDnGrant (s : State) : Host.Outcome State Fault Refusal := live dnGrant s

/-- DN_TRANSMISSION_END (R130). -/
def execDnTransmissionEnd (e : TxEnd) (s : State) : Host.Outcome State Fault Refusal := live (dnTransmissionEnd e) s

/-- UP_GRANT (R132). -/
def execUpGrant (s : State) : Host.Outcome State Fault Refusal := live (upd (State.onPort PortUnit.grantUp)) s

/-- UP_TRANSMISSION_END (R132). -/
def execUpTransmissionEnd (s : State) : Host.Outcome State Fault Refusal := live (upd (State.onPort PortUnit.endUp)) s

/-- RECEIVER_IDLE (R135). -/
def execReceiverIdle (port : Port) (s : State) : Host.Outcome State Fault Refusal :=
  live (upd (State.onPort (PortUnit.idleSeen port))) s

end Sys2Proof.Machine
end

