-- ==== Sys2Proof/Machine/Periodic.lean ====
section
/-! DEFINITION. The one-second interval (R168 to R170), escalation (R159), the scrubber (R183) and a flipped
storage cell (R176). -/

namespace Sys2Proof.Machine

open Sys2Proof

/-! ### The interval timer (R168 to R170) -/

/-- Whether a member of a MODE_TIME tally's mask holds (R169). -/
def modeTimeHolds (mask : Byte) (c : Conditions) : Bool :=
  mask.getLsbD 0 || (mask.getLsbD 1 && c.dirtyOut) || (mask.getLsbD 2 && c.stuffy) ||
    (mask.getLsbD 3 && c.dirtyIn) || (mask.getLsbD 4 && c.fog) || (mask.getLsbD 5 && c.severe)

/-- F of R170: the FLAP's reported position, at most 100, 0 when there is none. -/
def flapFraction (d : Delivery) : Nat := min 100 ((d.reported.map (·.position)).getD 0)

/-- A component's contribution (R170): value times F over 100, truncated, 0 when negative. -/
def contribution (v : Int) (f : Nat) : Nat := ((v * f).tdiv 100).toNat

/-- The value of a role's slot when the role is bound and usable (R170). -/
def State.usableValue (s : State) (r : Role) : Option Int :=
  match s.ctrl.bindings.get r with
  | some i => if (s.slotSeen i).status.usable then s.quantity.slots[i].value else none
  | none => none

/-- The amount a DOSE tally adds (R170). -/
def State.doseAmount (s : State) (mask : Byte) : Nat :=
  let f := flapFraction s.cmd.delivery.flap
  let part := fun (bit : Nat) (r : Role) =>
    if mask.getLsbD bit then
      match s.usableValue r with
      | some v => contribution v f
      | none => 0
    else 0
  part 0 .outPm + part 1 .outGas

/-- What an expiry of the interval timer adds to a tally under the current mode (R168 to R170). -/
def State.perSecond (s : State) (t : Tally) : Nat :=
  if t.countsIn s.ctrl.mode then
    match t.group with
    | .modeTime => (modeTimeHolds t.mask s.ctrl.conditions).toNat
    | .dose => s.doseAmount t.mask
    | .doors => (t.mask.getLsbD 3 && s.timer.doorOpen).toNat
    | .off => 0
    | .samples => 0
    | .commands => 0
    | .frames => 0
  else 0

/-- An expiry of the interval timer, which starts again; the raises of wraps follow in index order (R168, R171). -/
def State.intervalExpiry (s : State) : State :=
  if s.tally.interval.isSome then
    ((s.onTally fun u => { u with interval := some Config.msPerSecond }).addAmounts s.perSecond).settled
  else s

/-! ### Escalation (R159) -/

/-- The panel's NOTICE frame, offered to PTQ; the tag counter advances whether PTQ takes it or not (R156,
R159). -/
def State.sendPanelNotice (node : Nat) (k : NoticeKind) (d : Detail) (s : State) : State :=
  (s.onPort fun p => { p with ptq := offer ptqCapacity p.ptq (noticeFrame (byteOf node) s.notice.tagCounter k d) }).onNotice
    fun n => { n with tagCounter := n.tagCounter + 1 }

/-- An escalation timer expires; it is held in PARKED (R159). -/
def escalationExpiry (k : NoticeKind) : Act Unit := do
  let r ← look fun s => s.noticeRecord k
  let parked ← look fun s => s.mgmt.opState == .parked
  onlyIf (r.escalationTimer.isSome && !parked) do
    upd (State.setNotice k { r with escalated := true, escalationTimer := none })
    let p ← readParams
    match r.detail with
    | some d => onlyIf (p.panelNode != 0) (upd (State.sendPanelNotice p.panelNode k d))
    | none => pure ()

/-! ### The scrubber (R183) and storage cells (R176) -/

/-- The next scrub position: from 111 to 0 (R183). -/
def nextScrub (p : Fin 112) : Fin 112 := if h : p.val + 1 < 112 then ⟨p.val + 1, h⟩ else 0

/-- The scrub interval timer expires (R183). -/
def scrubExpiry : Act Unit := do
  let running ← look fun s => s.integ.scrubTimer.isSome
  onlyIf running do
    let p ← readParams
    if p.scrubInterval = 0 then upd (State.onInteg fun u => { u with scrubTimer := none })
    else do
      let pos ← look fun s => s.integ.scrubPos
      checkWithEffect (EntryId.atScrubPos pos)
      upd (State.onInteg fun u =>
        { u with scrubPos := nextScrub pos, scrubTimer := some (PowerOn.scrubMs p.scrubInterval) })

/-- A cell put into a list of cells in rising order. -/
def insertCell (c : Nat) : List Nat → List Nat
  | [] => [c]
  | x :: xs => if c ≤ x then c :: x :: xs else x :: insertCell c xs

/-- A cell flips: it differs from what was written, or again agrees (log entry 8). -/
def toggleCell (c : Nat) (cells : List Nat) : List Nat := if c ∈ cells then cells.erase c else insertCell c cells

/-! ### Meanings -/

/-- INTERVAL_TIMER_EXPIRY (R168). -/
def execIntervalTimerExpiry (s : State) : Host.Outcome State Fault Refusal := live (upd State.intervalExpiry) s

/-- ESCALATION_TIMER_EXPIRY (R159). -/
def execEscalationTimerExpiry (k : NoticeKind) (s : State) : Host.Outcome State Fault Refusal :=
  live (escalationExpiry k) s

/-- SCRUB_INTERVAL_EXPIRY (R183). -/
def execScrubIntervalExpiry (s : State) : Host.Outcome State Fault Refusal := live scrubExpiry s

/-- FLIPPED_CELL (R176). -/
def execFlippedCell (e : EntryId) (cell : Nat) (s : State) : Host.Outcome State Fault Refusal :=
  live (upd fun s => s.setFlips e (toggleCell cell (s.flips e))) s

end Sys2Proof.Machine
end

