-- ==== Sys2Proof/Machine/Clock.lean ====
section
/-! DEFINITION. What an idle step does (log entries 1, 2 and 6): the waiting internal event or expired timer that is
taken, and the passing of one millisecond. -/

namespace Sys2Proof.Machine

open Sys2Proof

/-! ### One millisecond -/

/-- A timer one tick later; one at 0 waits for its expiry to be taken. -/
def tickTimer (t : Option Nat) : Option Nat := t.map (· - Config.tickMs)

/-- A counter of whole seconds with its running part, one tick later, staying at `top` (R32, R75). -/
def tickSeconds (value part top : Nat) : Nat × Nat :=
  if part + Config.tickMs < Config.msPerSecond then (value, part + Config.tickMs) else (min top (value + 1), 0)

/-- A slot one tick later: its age and its stale timer (R32). The age reaches the stale limit as the timer expires
and not before (R31): of a timer that runs out with this tick, the expiry counts the second that ends. -/
def Slot.tick (sl : Slot) : Slot :=
  let timer := tickTimer sl.staleTimer
  if expired timer then { sl with agePart := min Config.msPerSecond (sl.agePart + Config.tickMs), staleTimer := timer }
  else
    let (age, part) := tickSeconds sl.age sl.agePart 255
    { sl with age := age, agePart := part, staleTimer := timer }

/-- The door measurement one tick later (R75). -/
def Measurement.tick (m : Measurement) : Measurement :=
  if m.counting then
    let (v, part) := tickSeconds m.value m.part 1023
    ⟨v, true, part⟩
  else m

/-- A door line one tick later (R72). -/
def DoorLine.tick (l : DoorLine) : DoorLine := { l with debounce := tickTimer l.debounce }

/-- The Timer Unit one tick later. -/
def TimerUnit.tick (t : TimerUnit) : TimerUnit :=
  { t with
    doors := t.doors.map DoorLine.tick
    measurement := t.measurement.tick
    recovery := tickTimer t.recovery
    purge := tickTimer t.purge
    gap := tickTimer t.gap
    overrideTimer := tickTimer t.overrideTimer }

/-- An actuator's delivery state one tick later (R103). -/
def Delivery.tick (d : Delivery) : Delivery := { d with ackTimer := tickTimer d.ackTimer }

/-- A lamp one tick later (R161). -/
def Lamp.tick (l : Lamp) : Lamp := { l with part := (l.part + Config.tickMs) % l.pattern.period }

/-- A notice record one tick later; in PARKED its escalation timer is held (R159). -/
def NoticeRecord.tick (parked : Bool) (r : NoticeRecord) : NoticeRecord :=
  if parked then r else { r with escalationTimer := tickTimer r.escalationTimer }

/-- The Notice Unit one tick later. -/
def NoticeUnit.tick (parked : Bool) (n : NoticeUnit) : NoticeUnit :=
  { n with
    records := mapTable (NoticeRecord.tick parked) n.records
    airLamp := n.airLamp.tick
    serviceLamp := n.serviceLamp.tick }

/-- The Quantity Table one tick later; in PARKED the ages are held (R32). -/
def QuantityTable.tick (parked : Bool) (q : QuantityTable) : QuantityTable :=
  if parked then q else { q with slots := mapTable Slot.tick q.slots }

/-- A running device one tick later (log entry 2). -/
def State.tick (s : State) : State :=
  let parked := s.mgmt.opState == .parked
  { s with
    quantity := s.quantity.tick parked
    timer := s.timer.tick
    cmd := { s.cmd with delivery := s.cmd.delivery.map Delivery.tick }
    notice := s.notice.tick parked
    tally := { s.tally with interval := tickTimer s.tally.interval }
    integ := { s.integ with scrubTimer := tickTimer s.integ.scrubTimer }
    park := { s.park with wakeTimer := tickTimer s.park.wakeTimer, preclean := tickTimer s.park.preclean } }

/-! ### What is due -/

/-- Nothing is on a line. -/
def linesIdle : LinesBusy := ⟨false, false⟩

/-- The timers beside the slots and the notices, each with its expiry event, in the order they are taken when
several have run out (log entry 6). -/
def unitTimers (s : State) : List (Option Nat × Instr) :=
  [(s.timer.doors.door1.debounce, .debounceEnd .door1 linesIdle),
    (s.timer.doors.door2.debounce, .debounceEnd .door2 linesIdle),
    (s.cmd.delivery.flap.ackTimer, .ackTimerExpiry .flap),
    (s.cmd.delivery.blower.ackTimer, .ackTimerExpiry .blower),
    (s.cmd.delivery.carbon.ackTimer, .ackTimerExpiry .carbon),
    (s.cmd.delivery.demist.ackTimer, .ackTimerExpiry .demist),
    (s.timer.recovery, .recoveryTimerExpiry), (s.timer.purge, .purgeTimerExpiry),
    (s.timer.gap, .gapTimerExpiry), (s.timer.overrideTimer, .overrideTimerExpiry),
    (s.park.wakeTimer, .parkWakeTimerExpiry linesIdle), (s.park.preclean, .precleanExpiry),
    (s.tally.interval, .intervalTimerExpiry), (s.integ.scrubTimer, .scrubIntervalExpiry)]

/-- The stale timers. -/
def staleTimers (s : State) : List (Option Nat × Instr) :=
  (List.finRange 32).map fun i => (s.quantity.slots[i].staleTimer, .staleTimerExpiry i)

/-- The escalation timers that run (R159). -/
def escalationTimers (s : State) : List (Option Nat × Instr) :=
  if s.mgmt.opState == .parked then []
  else NoticeKind.all.map fun k => ((s.noticeRecord k).escalationTimer, .escalationTimerExpiry k)

/-- The internal hand-over that waits longest with its taker: the Timer Unit's, then the Controller's, then the
Park Controller's (log entry 6). -/
def waitingEvent (s : State) : Option Instr :=
  if !s.timer.handovers.isEmpty then some .controllerHandover
  else
    match s.ctrl.reports with
    | r :: _ => some (.controllerReport r.source)
    | [] => if s.cmd.completion then some .parkedEntry else none

/-- The event an idle step takes, if any is due: an internal hand-over, else a timer that has run out. -/
def State.due (s : State) : Option Instr :=
  if s.alive then
    match waitingEvent s with
    | some i => some i
    | none => ((unitTimers s ++ staleTimers s ++ escalationTimers s).find? fun p => expired p.1).map (·.2)
  else none

end Sys2Proof.Machine
end

