-- ==== Sys2Proof/Machine/Dispatch.lean ====
section
/-! DEFINITION. One arm per command: the direct call of its meaning. -/

namespace Sys2Proof.Machine

open Sys2Proof

def exec (i : Instr) (s : State) : Host.Outcome State Fault Refusal :=
  match i with
  | .powerOnReset => Sys2Proof.Machine.execPowerOnReset s
  | .resetLineAssert => Sys2Proof.Machine.execResetLineAssert s
  | .resetLineReset => Sys2Proof.Machine.execResetLineReset s
  | .dnArrival r => Sys2Proof.Machine.execDnArrival r s
  | .upArrival r busy => Sys2Proof.Machine.execUpArrival r busy s
  | .readState o part => Sys2Proof.Machine.execReadState o part s
  | .readSlot o part slot => Sys2Proof.Machine.execReadSlot o part slot s
  | .readHistory o slot => Sys2Proof.Machine.execReadHistory o slot s
  | .readMap o entry => Sys2Proof.Machine.execReadMap o entry s
  | .writeMap o entry source channel slot gain offset rule k => Sys2Proof.Machine.execWriteMap o entry source channel slot gain offset rule k s
  | .clearMap o entry => Sys2Proof.Machine.execClearMap o entry s
  | .writeSlot o slot kind min max step stale smoothing => Sys2Proof.Machine.execWriteSlot o slot kind min max step stale smoothing s
  | .writeComparator o slot comparator direction set clear confirm => Sys2Proof.Machine.execWriteComparator o slot comparator direction set clear confirm s
  | .readMode o mode => Sys2Proof.Machine.execReadMode o mode s
  | .writeMode o mode flap blower carbon demist => Sys2Proof.Machine.execWriteMode o mode flap blower carbon demist s
  | .readRecovery o bin => Sys2Proof.Machine.execReadRecovery o bin s
  | .writeRecovery o bin threshold length => Sys2Proof.Machine.execWriteRecovery o bin threshold length s
  | .readActuator o actuator => Sys2Proof.Machine.execReadActuator o actuator s
  | .writeActuator o actuator present node => Sys2Proof.Machine.execWriteActuator o actuator present node s
  | .readParam o parameter => Sys2Proof.Machine.execReadParam o parameter s
  | .writeParam o parameter value => Sys2Proof.Machine.execWriteParam o parameter value s
  | .enterConfig o => Sys2Proof.Machine.execEnterConfig o s
  | .enterRun o => Sys2Proof.Machine.execEnterRun o s
  | .purgeStart o => Sys2Proof.Machine.execPurgeStart o s
  | .purgeStop o => Sys2Proof.Machine.execPurgeStop o s
  | .override o flap blower duration => Sys2Proof.Machine.execOverride o flap blower duration s
  | .cancelOverride o => Sys2Proof.Machine.execCancelOverride o s
  | .readNotices o part => Sys2Proof.Machine.execReadNotices o part s
  | .ackNotices o kinds => Sys2Proof.Machine.execAckNotices o kinds s
  | .maskNotices o kinds => Sys2Proof.Machine.execMaskNotices o kinds s
  | .tallyRead o tally => Sys2Proof.Machine.execTallyRead o tally s
  | .tallySetup o tally group mask filter flags => Sys2Proof.Machine.execTallySetup o tally group mask filter flags s
  | .tallyWrite o tally value => Sys2Proof.Machine.execTallyWrite o tally value s
  | .readFaults o => Sys2Proof.Machine.execReadFaults o s
  | .resume o => Sys2Proof.Machine.execResume o s
  | .park o minutes => Sys2Proof.Machine.execPark o minutes s
  | .reset o => Sys2Proof.Machine.execReset o s
  | .dnGrant => Sys2Proof.Machine.execDnGrant s
  | .dnTransmissionEnd e => Sys2Proof.Machine.execDnTransmissionEnd e s
  | .upGrant => Sys2Proof.Machine.execUpGrant s
  | .upTransmissionEnd => Sys2Proof.Machine.execUpTransmissionEnd s
  | .ackTimerExpiry a => Sys2Proof.Machine.execAckTimerExpiry a s
  | .doorLevelChange d low => Sys2Proof.Machine.execDoorLevelChange d low s
  | .debounceEnd d busy => Sys2Proof.Machine.execDebounceEnd d busy s
  | .staleTimerExpiry slot => Sys2Proof.Machine.execStaleTimerExpiry slot s
  | .recoveryTimerExpiry => Sys2Proof.Machine.execRecoveryTimerExpiry s
  | .purgeTimerExpiry => Sys2Proof.Machine.execPurgeTimerExpiry s
  | .gapTimerExpiry => Sys2Proof.Machine.execGapTimerExpiry s
  | .overrideTimerExpiry => Sys2Proof.Machine.execOverrideTimerExpiry s
  | .controllerReport src => Sys2Proof.Machine.execControllerReport src s
  | .controllerHandover => Sys2Proof.Machine.execControllerHandover s
  | .parkedEntry => Sys2Proof.Machine.execParkedEntry s
  | .parkWakeTimerExpiry busy => Sys2Proof.Machine.execParkWakeTimerExpiry busy s
  | .precleanExpiry => Sys2Proof.Machine.execPrecleanExpiry s
  | .escalationTimerExpiry k => Sys2Proof.Machine.execEscalationTimerExpiry k s
  | .intervalTimerExpiry => Sys2Proof.Machine.execIntervalTimerExpiry s
  | .scrubIntervalExpiry => Sys2Proof.Machine.execScrubIntervalExpiry s
  | .lossOfSupply => Sys2Proof.Machine.execLossOfSupply s
  | .flippedCell e cell => Sys2Proof.Machine.execFlippedCell e cell s
  | .receiverIdle p => Sys2Proof.Machine.execReceiverIdle p s

end Sys2Proof.Machine
end

