-- ==== Sys2Proof/Machine/Step.lean ====
section
/-! DEFINITION. The step: the command at the front of the queue, or an idle step (log entry 1). -/

namespace Sys2Proof.Machine

open Sys2Proof

/-- An idle step: the event that is due, else a millisecond passes; a device that does not run idles. -/
def idleStep (s : State) : Host.Outcome State Fault Refusal :=
  match s.due with
  | some i => exec i s
  | none => .next (if s.alive then s.tick else s)

/-- One step of the machine. -/
def step (s : State) : Host.Outcome State Fault Refusal :=
  match s.pending with
  | c :: rest => exec c { s with pending := rest }
  | [] => idleStep s

/-- The state with the command a word spells put at the front of its queue; no word spells one. -/
def State.withFetchWord (s : State) (nbits w : Nat) : State :=
  match decodeTableWord nbits w with
  | some c => { s with pending := c :: s.pending }
  | none => s

end Sys2Proof.Machine
end

