-- ==== Sys2Proof/WellFormed.lean ====
section
/-! DEFINITION. Which commands can be sent at all: operands that a frame judged good (R122) or a request
code of R197 can carry. The machine is total and answers ill-formed commands too. -/

namespace Sys2Proof

/-- A MANAGE frame judged good has SRC 0 or 2 to 62 (R122), and reaches the Responder with DEST 63 on UP
alone (R138). -/
def Origin.wf (o : Origin) : Bool :=
  o.src.toNat ≤ 62 && o.src.toNat != 1 && (!o.broadcast || o.port == .up)

/-- A reception of an arrival has at least one byte: without one there is no frame to end (R121). -/
def Reception.wf (r : Reception) : Bool := !r.bytes.isEmpty

/-- The origin of a command that is a request, if it is one. -/
def Instr.origin? : Instr → Option Origin
  | .readState o _ | .readSlot o _ _ | .readHistory o _ | .readMap o _ | .clearMap o _ | .readMode o _
  | .readRecovery o _ | .readActuator o _ | .readParam o _ | .enterConfig o | .enterRun o
  | .purgeStart o | .purgeStop o | .cancelOverride o | .readNotices o _ | .ackNotices o _
  | .maskNotices o _ | .tallyRead o _ | .readFaults o | .resume o | .park o _ | .reset o => some o
  | .writeMap o _ _ _ _ _ _ _ _ => some o
  | .writeSlot o _ _ _ _ _ _ _ => some o
  | .writeComparator o _ _ _ _ _ _ => some o
  | .writeMode o _ _ _ _ _ => some o
  | .writeRecovery o _ _ _ => some o
  | .writeActuator o _ _ _ => some o
  | .writeParam o _ _ => some o
  | .override o _ _ _ => some o
  | .tallySetup o _ _ _ _ _ => some o
  | .tallyWrite o _ _ => some o
  | .powerOnReset | .resetLineAssert | .resetLineReset | .dnArrival _ | .upArrival _ _ | .dnGrant
  | .dnTransmissionEnd _ | .upGrant | .upTransmissionEnd | .ackTimerExpiry _ | .doorLevelChange _ _
  | .debounceEnd _ _ | .staleTimerExpiry _ | .recoveryTimerExpiry | .purgeTimerExpiry
  | .gapTimerExpiry | .overrideTimerExpiry | .controllerReport _ | .controllerHandover
  | .parkedEntry | .parkWakeTimerExpiry _ | .precleanExpiry | .escalationTimerExpiry _
  | .intervalTimerExpiry | .scrubIntervalExpiry | .lossOfSupply | .flippedCell _ _
  | .receiverIdle _ => none

/-- The parts a request code has: READ_STATE 0 to 2, READ_SLOT 0 and 1, READ_NOTICES 0 to 3 (R197). -/
def Instr.partOk : Instr → Bool
  | .readState _ p => p.val ≤ 2
  | .readSlot _ p _ => p.val ≤ 1
  | _ => true

/-- The well-formed commands. -/
def Instr.wf (i : Instr) : Bool :=
  (match i.origin? with
    | some o => o.wf
    | none => true) &&
  i.partOk &&
  (match i with
    | .dnArrival r => r.wf
    | .upArrival r _ => r.wf
    | _ => true)

end Sys2Proof
end

