-- ==== Sys2Proof/Safety.lean ====
section
/-! DEFINITION. What it means for a state to be sound, and the conditions the statements are made under. No command
of this part stops the machine; safety here is that the bounds and couplings the manual states hold in every state
a step leads to. -/

namespace Sys2Proof.Machine

open Sys2Proof

/-! ### Soundness -/

/-- The mode the operating state fixes: SAFE in CONFIG, PARK in PARKING and PARKED, and never PARK in RUN (R12,
R13, R137). -/
def State.ModeFollows (s : State) : Prop :=
  match s.mgmt.opState with
  | .config => s.ctrl.mode = .safe
  | .run => s.ctrl.mode ≠ .park
  | .parking => s.ctrl.mode = .park
  | .parked => s.ctrl.mode = .park

/-- The Fault List holds at most 8 entries, no two alike (R181). -/
def State.FaultListSound (s : State) : Prop := s.integ.faultList.length ≤ 8 ∧ s.integ.faultList.Nodup

/-- A slot whose setup is on the Fault List accepts nothing until WRITE_SLOT rewrites the setup, and it goes STALE no more:
its own status is FAULT, as the fault has made it, or EMPTY, as an emptying has; it is seen FAULT either way (R52, R53,
R180, State.slotSeen; log entry 26). -/
def State.FaultedSlotsAcceptNothing (s : State) : Prop :=
  ∀ i : Fin 32, s.isFaulted (.slotSetup i) = true →
    s.quantity.slots[i].status = .fault ∨ s.quantity.slots[i].status = .empty

/-- The frame queues are within their capacities, and the arbiters' counters within their ranges (R127, R131,
R132). -/
def State.QueuesBounded (s : State) : Prop :=
  s.port.ptq.length ≤ 8 ∧ s.port.fwq.length ≤ 16 ∧ s.port.rpq.length ≤ 8 ∧ s.port.dnShareCount ≤ 3 ∧
    s.port.upRunCount ≤ 4

/-- The Command Engine's queues agree with the delivery states: an actuator is in CMQ, once, exactly while it has a
pending value; it is in the order of DUE commands exactly while its command is DUE; its ack timer runs exactly
while its command is WAITING; a halted queue holds nothing (R98, R99, R103, R111). -/
def CommandEngine.Sound (c : CommandEngine) : Prop :=
  c.cmq.Nodup ∧ c.due.Nodup ∧
    (∀ a, a ∈ c.cmq ↔ (c.delivery.get a).pendingValue.isSome = true) ∧
    (∀ a, a ∈ c.due ↔ ∃ o, (c.delivery.get a).outstanding = some o ∧ o.phase = .due) ∧
    (∀ a, (c.delivery.get a).ackTimer.isSome = true ↔
      ∃ o, (c.delivery.get a).outstanding = some o ∧ o.phase = .waiting) ∧
    (c.halted = true → c.cmq = [] ∧ ∀ a, (c.delivery.get a).outstanding = none)

/-- The Timer Unit's timers run in RUN only; purge and recovery only while no door is OPEN; the override record is
present exactly while its timer runs; the measurement counts exactly in RUN with a door OPEN (R75, R78, R81,
R82, R94). -/
def State.TimersSound (s : State) : Prop :=
  (s.mgmt.opState ≠ .run →
    s.timer.recovery = none ∧ s.timer.purge = none ∧ s.timer.gap = none ∧ s.timer.overrideTimer = none ∧
      s.timer.purgeCount = 0) ∧
    (s.timer.doorOpen = true → s.timer.recovery = none ∧ s.timer.purge = none) ∧
    (s.timer.overrideTimer.isSome = s.timer.overrideRecord.isSome) ∧
    (s.timer.measurement.counting = (s.mgmt.opState == .run && s.timer.doorOpen))

/-- In a device that runs, a door line's debounce runs exactly while its raw level differs from its debounced state
(R72). -/
def State.DebouncesSound (s : State) : Prop :=
  s.alive = true →
    ∀ d, (s.timer.doors.get d).debounce.isSome = ((s.timer.doors.get d).rawLow != (s.timer.doors.get d).isOpen)

/-! ### Conditions -/

/-- No protected entry is faulted, and no storage cell has flipped (R176). -/
def State.Undamaged (s : State) : Prop := s.integ.faultList = [] ∧ ∀ e, s.flips e = []

/-- No entry but the faulted ones is damaged: no read finds anything new (R177). -/
def State.OnlyKnownDamage (s : State) : Prop := ∀ e, s.isFaulted e = false → s.flips e = []

/-- A gateway request addressed to node 1 (R139). -/
def gateway (tag : Byte) : Origin := ⟨.up, false, 0, tag⟩

/-- The device takes a request of the gateway: it runs, is not PARKED, and RPQ has room (R138, R141). -/
def State.TakesRequest (s : State) : Prop :=
  s.alive = true ∧ s.mgmt.opState ≠ .parked ∧ s.port.rpq.length < rpqCapacity

/-- A request of the gateway answered: the pre-clean stopped, the reply the newest frame of RPQ (R141, R192). -/
def State.answered (s : State) (tag code : Byte) (r : Reply) : State :=
  s.stopPreclean.onPort fun p => { p with rpq := p.rpq ++ [replyFrame 0 tag code r] }

/-- The answer with a result and no data. -/
def State.answeredPlain (s : State) (tag code : Byte) (r : ResultCode) : State := s.answered tag code (plain r)

/-- The four timers of the Timer Unit, the purge count and the measurement as ENTER_CONFIG and PARKING entry leave them (R94). -/
def TimerUnit.Stopped (t : TimerUnit) : Prop :=
  t.recovery = none ∧ t.purge = none ∧ t.gap = none ∧ t.overrideTimer = none ∧ t.overrideRecord = none ∧
    t.purgeCount = 0 ∧ t.measurement = ⟨0, false, 0⟩

/-- The mode RUN chooses by precedence (R13) from what the Controller knows. -/
def State.precedenceMode (s : State) (c : Controller) : Mode :=
  precedence c (c.conditions.fog && s.mgmt.params.content.enablesDemist)

/-- The targets the manual gives a mode while the mode's record is good (R19 to R21): the fixed ones, the DOOR record
as loaded, the override's flap and blower under the MANUAL record, and every other record with the DIRTY_IN boost.
Without an override record MANUAL's flap and blower are not stated (log entry 11). -/
def State.targetsFor (s : State) (m : Mode) (dirtyIn : Bool) : ModeRecord :=
  match m.recordIndex with
  | none => if m = .park then ⟨0, 0, false, false⟩ else ⟨20, 8, true, true⟩
  | some i =>
    let r := s.ctrl.records[i].content
    if m = .door then r
    else if m = .manual then
      match s.timer.overrideRecord with
      | some o => { r with flap := if o.flap = .fresh then 100 else 0, blower := o.blower }
      | none => r
    else if dirtyIn then { r with blower := min 15 (r.blower + s.mgmt.params.content.dirtyInBoost) }
    else r

/-! ### Raises, targets handed over, changes of mode -/

/-- The six kinds that escalate (R154). -/
def escalatingKinds : List NoticeKind :=
  [.inputLost, .actuatorSilent, .actuatorFault, .co2Unresolved, .commandsHalted, .tableFault]

/-- The pattern the SERVICE lamp owes to the notice records (R163). -/
def State.servicePatternDue (s : State) : LampPattern :=
  if NoticeKind.all.any fun k => (s.noticeRecord k).escalated then .double
  else if (s.noticeRecord .filterClogged).pending || (s.noticeRecord .actuatorFault).pending then .on
  else .off

/-- A lamp turned to a pattern: the same pattern runs on, another begins at its start (R161). -/
def Lamp.turned (l : Lamp) (p : LampPattern) : Lamp := if l.pattern = p then l else ⟨p, 0⟩

/-- From `s` to `t` the notices and the Port Unit saw one raise of kind `k` with detail `d`, ESCALATION being
`seconds`: the count up by 1 to at most 255; where it opened a pending period, a NOTICE frame for node 0 unless the
kind is masked, which takes a tag and joins RPQ if there is room, and the escalation timer of an escalating kind
(R155, R156, R163). -/
def State.RaisedFrom (s t : State) (k : NoticeKind) (d : Detail) (seconds : Nat) : Prop :=
  let r := s.noticeRecord k
  let n := s.notice.tagCounter
  let frames := if r.pending || r.masked then [] else [noticeFrame 0 n k d]
  let starts := !r.pending && escalatingKinds.contains k && decide (seconds ≠ 0)
  t.noticeRecord k = ⟨true, r.masked, some d, min 255 (r.count + 1), r.escalated,
    if starts then some (seconds * 1000) else r.escalationTimer⟩ ∧
  (∀ j, j ≠ k → t.noticeRecord j = s.noticeRecord j) ∧
  t.notice.tagCounter = n + BitVec.ofNat 8 frames.length ∧ t.notice.airLamp = s.notice.airLamp ∧
  t.notice.serviceLamp = s.notice.serviceLamp.turned t.servicePatternDue ∧
  t.port = { s.port with rpq := s.port.rpq ++ (if s.port.rpq.length < 8 then frames else []) }

/-- From `s` to `t` the Command Engine was handed the four targets `v`, the Actuator Table being good. A target it
holds already changes nothing of its actuator; another is recorded, and for a present actuator of a queue that is not
halted it becomes the pending value: in place if the actuator has one, else the actuator joins CMQ, in index order
(R22, R99, R100). The completion flag is not spoken of. -/
def State.TargetsHanded (s t : State) (v : ModeRecord) : Prop :=
  let d := fun a => s.cmd.delivery.get a
  let news := fun a => !((d a).target == some (PowerOn.targetOf v a))
  let sends := fun a => news a && (s.cmd.entries.get a).content.present && !s.cmd.halted
  (∀ a, t.cmd.delivery.get a =
    if news a then
      { d a with
        target := some (PowerOn.targetOf v a)
        pendingValue := if sends a then some (PowerOn.targetOf v a) else (d a).pendingValue }
    else d a) ∧
  t.cmd = { s.cmd with
    delivery := t.cmd.delivery
    cmq := s.cmd.cmq ++
      [Actuator.flap, .blower, .carbon, .demist].filter fun a => sends a && (d a).pendingValue.isNone
    completion := t.cmd.completion }

/-- The AIR lamp turned to a mode's pattern (R162). -/
def State.airTurned (s : State) (m : Mode) : State :=
  { s with notice := { s.notice with airLamp := s.notice.airLamp.turned (airPattern m) } }

/-- From `s` to `t` the mode changed to `m`, no condition changing with it: it is current and handed to the Timer
Unit, the AIR lamp shows it, MODE_CHANGE is raised with it, and its targets `v` are handed over (R15, R22, R162). -/
def State.ChangedMode (s t : State) (m : Mode) (v : ModeRecord) : Prop :=
  t.ctrl.mode = m ∧ t.timer.handovers = s.timer.handovers ++ [⟨some m, none, none, none⟩] ∧
    (s.airTurned m).RaisedFrom t .modeChange (.mode m) 0 ∧ s.TargetsHanded t v

/-- The device woke from `s` into `t` with a start cause (R191), no entry being damaged; `busy` says on which lines a
frame is under way. START is raised before MODE_CHANGE, and nothing else is put in a queue. Without an override record
MANUAL's flap and blower are not stated (log entry 11). -/
def State.Woke (s t : State) (c : StartCause) (busy : LinesBusy) : Prop :=
  t.mgmt.opState = .run ∧ t.park.startCause = c ∧ t.park.wakeTimer = none ∧
    (t.noticeRecord .start).pending = true ∧ (t.noticeRecord .start).detail = some (.startCause c) ∧
    (∀ i : Fin 32, t.quantity.slots[i] = { s.quantity.slots[i] with
      age := 0
      agePart := 0
      staleTimer := if s.quantity.setups[i].content.kind = .unused then none
        else some (s.quantity.setups[i].content.stale * 1000) }) ∧
    t.quantity.setups = s.quantity.setups ∧ t.tally.interval = some 1000 ∧
    t.tally.tallies = s.tally.tallies ∧
    t.integ.scrubTimer = (if s.mgmt.params.content.scrubInterval = 0 then none
      else some (s.mgmt.params.content.scrubInterval * 10)) ∧
    t.integ.scrubPos = s.integ.scrubPos ∧ t.integ.faultList = [] ∧
    t.timer.measurement = (if t.timer.doorOpen then ⟨0, true, 0⟩ else s.timer.measurement) ∧
    t.ctrl.mode = s.precedenceMode { s.ctrl with timerView := t.timer.view } ∧
    (t.noticeRecord .modeChange).pending = true ∧ (t.noticeRecord .modeChange).detail = some (.mode t.ctrl.mode) ∧
    t.cmd.entries = s.cmd.entries ∧ t.cmd.halted = s.cmd.halted ∧
    (∀ a, (t.cmd.delivery.get a).reported = (s.cmd.delivery.get a).reported ∧
      (t.cmd.delivery.get a).failed = (s.cmd.delivery.get a).failed) ∧
    t.intake = s.intake ∧ t.mgmt.params = s.mgmt.params ∧ t.cmd.completion = s.cmd.completion ∧
    ((t.ctrl.mode = .manual → s.timer.overrideRecord.isSome = true) →
      ∃ n p,
        let waits := { s with port := { s.port with
          upRx := if busy.up then .waitingIdle else s.port.upRx
          dnRx := if busy.dn then .waitingIdle else s.port.dnRx } }
        let started := { s with notice := n, port := p }
        waits.RaisedFrom started .start (.startCause c) 0 ∧
          started.ChangedMode t t.ctrl.mode (s.targetsFor t.ctrl.mode s.ctrl.conditions.dirtyIn))

/-- The table wipe of a ninth fault found in `s` has led to `t` (R182, R164): every block as after power-on but for the
tallies, the doors, both tag counters, the corrected count, the masks and the lines' arming; START and TABLE_FAULT
raised, with no reply and no other frame in a queue. That waiting reports and hand-overs go is the model's reading
(log entry 7). -/
def State.Wiped (s t : State) : Prop :=
  let p := State.reset
  let n := s.notice.tagCounter
  let start := if (s.noticeRecord .start).masked then [] else [noticeFrame 0 n .start (.startCause .tableWipe)]
  let fault := if (s.noticeRecord .tableFault).masked then []
    else [noticeFrame 0 (n + BitVec.ofNat 8 start.length) .tableFault .wiped]
  t.mgmt = ⟨.config, ⟨PowerOn.params, []⟩⟩ ∧ t.ctrl = p.ctrl ∧ t.intake = p.intake ∧ t.quantity = p.quantity ∧
    t.timer = { p.timer with doors := s.timer.doors } ∧ t.cmd = { p.cmd with tagCounter := s.cmd.tagCounter } ∧
    t.integ = { p.integ with corrected := s.integ.corrected } ∧ t.port = { p.port with rpq := start ++ fault } ∧
    t.tally.tallies = s.tally.tallies ∧
    t.tally.interval = (if s.mgmt.opState = .parked then some 1000 else s.tally.interval) ∧
    t.park = { s.park with startCause := .tableWipe, wakeMinutes := 0, wakeTimer := none, preclean := none } ∧
    t.noticeRecord .start = ⟨true, (s.noticeRecord .start).masked, some (.startCause .tableWipe), 1, false, none⟩ ∧
    t.noticeRecord .tableFault = ⟨true, (s.noticeRecord .tableFault).masked, some .wiped, 1, false, some 60000⟩ ∧
    (∀ k, k ≠ .start → k ≠ .tableFault →
      t.noticeRecord k = ⟨false, (s.noticeRecord k).masked, none, 0, false, none⟩) ∧
    t.notice.tagCounter = n + BitVec.ofNat 8 (start.length + fault.length) ∧
    t.notice.airLamp.pattern = .double ∧ t.notice.serviceLamp.pattern = .off ∧ t.supplyUp = s.supplyUp ∧
    t.resetLow = s.resetLow

/-! ### Frames and readings -/

/-- Of the Port Unit's state RPQ alone may have changed. -/
def State.OnlyRpq (s t : State) : Prop := { t.port with rpq := s.port.rpq } = s.port

/-- No tally that asks for a notice stands at its top: one more sub-event wraps none of them (R171). -/
def State.NoWrap (s : State) : Prop :=
  ∀ i : Fin 4, s.tally.tallies[i].notify = true → s.tally.tallies[i].value.toNat + 1 < 2 ^ 32

/-- Entry `i` of the Channel Map is valid and holds the key of a source and a channel, and no other does (R57, R59). -/
def State.KeyAt (s : State) (src ch : Nat) (i : Fin 64) : Prop :=
  ∀ j : Fin 64, (s.intake.map[j].content.valid = true ∧ s.intake.map[j].content.source = src ∧
    s.intake.map[j].content.channel = ch) ↔ j = i

/-- A kind is pending with a detail. -/
def State.Raised (s : State) (k : NoticeKind) (d : Detail) : Prop :=
  (s.noticeRecord k).pending = true ∧ (s.noticeRecord k).detail = some d

/-- Command `c` is the arrival of a good SAMPLE frame `f` that the device classifies: for node 1 on DN or on UP, or, as a
passing frame, for node 0 or 63 on DN from a source in the Sample Window (R54, R125, R126). -/
def State.SampleArrives (s : State) (c : Instr) (f : Frame) (passing : Bool) : Prop :=
  let base := s.mgmt.params.content.windowBase
  f.kind = .sample ∧ ∃ r, classify r = .good f ∧
    ((c = .dnArrival r ∧ s.port.dnRx = .taking ∧ f.dest = 1 ∧ passing = false) ∨
      ((∃ busy, c = .upArrival r busy) ∧ s.port.upRx = .taking ∧ f.dest = 1 ∧ passing = false) ∨
      (c = .dnArrival r ∧ s.port.dnRx = .taking ∧ (f.dest = 0 ∨ f.dest = 63) ∧ base ≤ f.src.toNat ∧
        f.src.toNat < base + s.mgmt.params.content.windowSize ∧ passing = true))

/-- What a reading that entry `i` took leaves of its thin counter, and whether it calls for forwarding: in a passing frame
by the entry's forward rule (R64), in a frame for node 1 nothing and no. -/
def State.forwardDue (s : State) (i : Fin 64) (passing : Bool) : Nat × Bool :=
  let n := s.intake.dyn[i].thin
  match s.intake.map[i].content.rule with
  | .drop => (n, false)
  | .pass => (n, passing)
  | .thin k => if passing then (if k ≤ n + 1 then (0, true) else (n + 1, false)) else (n, false)

/-- From `s` to `t` the sub-events `es` were given and frame `f`, where a reading called for it, offered to FWQ: a full FWQ
loses it with FQ_DROP and QUEUE_DROP. Of the Port Unit's state no more than FWQ and RPQ has changed (R64, R128). -/
def State.Forwarded (s t : State) (f : Frame) (call : Bool) (es : List SubEvent) : Prop :=
  let full := decide (16 ≤ s.port.fwq.length)
  t.port = { s.port with rpq := t.port.rpq, fwq := s.port.fwq ++ if call && !full then [f] else [] } ∧
    t.tally = (s.countAll (es ++ if call && full then [.fqDrop] else [])).tally ∧
    ((call && full) = true → t.Raised .queueDrop (.queue .fwq))

/-- A frame of one reading, its key at entry `i`, was taken from `s` into `t`: RX_GOOD and the reading's sub-event
counted, the entry's last tag the frame's TAG, its thin counter and the forwarding as a passing frame's forward rule has
them, a duplicate's reading touching neither, the entry's slot as given with its reports, and besides the notices and RPQ
nothing else changed (R60, R62, R64, R124). -/
def State.TookReading (s t : State) (f : Frame) (passing : Bool) (i : Fin 64) (e : SubEvent) (sl : Slot)
    (reports : List Report) : Prop :=
  let due := s.forwardDue i (passing && e != .duplicate)
  t.quantity = { s.quantity with slots := s.quantity.slots.set s.intake.map[i].content.slot sl } ∧
    t.intake = { s.intake with dyn := s.intake.dyn.set i ⟨due.1, some f.tag⟩ } ∧
    t.ctrl = { s.ctrl with reports := s.ctrl.reports ++ reports } ∧ s.Forwarded t f due.2 [.rxGood, e] ∧
    t.timer = s.timer ∧ t.cmd = s.cmd ∧ t.mgmt = s.mgmt ∧ t.integ = s.integ ∧ t.park = s.park

/-- Entry `e` is the only damaged one of a device with room in the Fault List, in two places and not yet found, and the
parameters entry is good (R177, R179). -/
def State.NewDamage (s : State) (e : EntryId) : Prop :=
  e ≠ .params ∧ s.isFaulted .params = false ∧ s.isFaulted e = false ∧ 2 ≤ (s.flips e).length ∧
    (∀ x, x ≠ e → s.flips x = []) ∧ s.integ.faultList.length < 8

/-- From `s` to `t` entry `e` joined the Fault List, and `more` was reported behind what this reports (R2, R10, R179). -/
def State.Joined (s t : State) (e : EntryId) (more : List Report) : Prop :=
  t.integ = { s.integ with faultList := s.integ.faultList ++ [e] } ∧
    t.ctrl = { s.ctrl with reports := s.ctrl.reports ++
      (match e with
        | .slotSetup i => [.setupFaulted i]
        | _ => []) ++ (if s.integ.faultList = [] then [.faultList true] else []) ++ more }

/-- The SAFE cause set once the slots are emptied in `s`, whose Fault List is reported non-empty or not: of the slots those
with a faulted setup are FAULT, and one of a critical role brings INPUT_LOST (R10, R11, R180; log entry 26). CRITICAL_ROLES
has its power-on value while the parameters entry is faulted (R147). -/
def State.CausesOnceEmptied (s : State) (nonEmpty : Bool) (c : SafeCauses) : Prop :=
  let critical := if s.isFaulted .params then State.reset.mgmt.params.content.criticalRoles
    else s.mgmt.params.content.criticalRoles
  c.tableFault = nonEmpty ∧
    (c.inputLost = true ↔ ∃ r i, critical.getLsbD r.bit = true ∧ s.ctrl.bindings.get r = some i ∧
      s.isFaulted (.slotSetup i) = true)

/-- What the Controller holds of the slots in `t`, emptied from `s`: those with a faulted setup FAULT, the others EMPTY, all
with both comparators CLEAR (R47, R53, R180; log entry 26). -/
def State.ToldOfTheEmptying (s t : State) : Prop :=
  ∀ i : Fin 32, t.ctrl.slotViews[i] =
    ⟨if s.isFaulted (.slotSetup i) then .fault else .empty, false, false⟩

/-! ### Requests of the panel and to every node -/

/-- A request on DN, from a chain node (R139). -/
def onDn (src tag : Byte) : Origin := ⟨.dn, false, src, tag⟩

/-- A request of the gateway for every node (R153). -/
def toEveryNode (tag : Byte) : Origin := ⟨.up, true, 0, tag⟩

/-- The parameters entry reads good. -/
def State.ParamsGood (s : State) : Prop := s.isFaulted .params = false ∧ s.flips .params = []

/-- The device takes a request of a chain node: it runs, is not PARKED, PTQ has room, and the parameters read good. -/
def State.TakesDnRequest (s : State) : Prop :=
  s.alive = true ∧ s.mgmt.opState ≠ .parked ∧ s.port.ptq.length < ptqCapacity ∧ s.ParamsGood

/-- A request of a chain node answered: the reply the newest frame of PTQ, and nothing else (R141). -/
def State.answeredDn (s : State) (src tag code : Byte) (r : Reply) : State :=
  s.onPort fun p => { p with ptq := p.ptq ++ [replyFrame src tag code r] }

/-- The range of a parameter's value, parameters numbered as R199 numbers them (R147). -/
def paramRange (n v : Nat) : Prop :=
  match n with
  | 0 => v ≤ 63
  | 1 => v = 1 ∨ v = 2 ∨ v = 4 ∨ v = 8 ∨ v = 16 ∨ v = 32 ∨ v = 64
  | 3 => v = 0 ∨ (2 ≤ v ∧ v ≤ 62)
  | 4 => v ≤ 3
  | 5 => 10 ≤ v ∧ v ≤ 600
  | 6 => 30 ≤ v ∧ v ≤ 1800
  | 7 => 1 ≤ v ∧ v ≤ 7
  | 9 => v ≤ 15
  | 10 => v ≤ 7
  | 11 => v ≤ 63
  | 12 => 10 ≤ v ∧ v ≤ 250
  | 13 => 1 ≤ v ∧ v ≤ 15
  | 16 => v = 0 ∨ v = 15 ∨ v = 30 ∨ v = 60 ∨ v = 120
  | 17 => v ≤ 255
  | 20 => v ≤ 3
  | 21 => 60 ≤ v ∧ v ≤ 1800
  | _ => v ≤ 1

/-! ### The idle step -/

/-- The timer whose running out an expiry event is, the lines being idle. In PARKED the escalation timers are held
(R159). -/
def State.timerOf (s : State) : Instr → Option Nat
  | .debounceEnd d busy => if busy = ⟨false, false⟩ then (s.timer.doors.get d).debounce else none
  | .ackTimerExpiry a => (s.cmd.delivery.get a).ackTimer
  | .recoveryTimerExpiry => s.timer.recovery
  | .purgeTimerExpiry => s.timer.purge
  | .gapTimerExpiry => s.timer.gap
  | .overrideTimerExpiry => s.timer.overrideTimer
  | .parkWakeTimerExpiry busy => if busy = ⟨false, false⟩ then s.park.wakeTimer else none
  | .precleanExpiry => s.park.preclean
  | .intervalTimerExpiry => s.tally.interval
  | .scrubIntervalExpiry => s.integ.scrubTimer
  | .staleTimerExpiry i => s.quantity.slots[i].staleTimer
  | .escalationTimerExpiry k => if s.mgmt.opState = .parked then none else (s.noticeRecord k).escalationTimer
  | _ => none

/-- The place of an expiry event among several that are due at once: the model's order (log entry 6). -/
def expiryRank : Instr → Nat
  | .debounceEnd .door1 _ => 0
  | .debounceEnd .door2 _ => 1
  | .ackTimerExpiry a => 2 + a.index
  | .recoveryTimerExpiry => 6
  | .purgeTimerExpiry => 7
  | .gapTimerExpiry => 8
  | .overrideTimerExpiry => 9
  | .parkWakeTimerExpiry _ => 10
  | .precleanExpiry => 11
  | .intervalTimerExpiry => 12
  | .scrubIntervalExpiry => 13
  | .staleTimerExpiry i => 14 + i.val
  | .escalationTimerExpiry k => 46 + k.index.val
  | _ => 60

/-- One millisecond has passed from `s` to `t`: every timer that runs is 1 ms shorter, each whole second adds 1 to an
age and to a measurement that counts, the lamps run on, and nothing else has changed. In PARKED the slots and the
escalation timers are held. The second that ends as a stale timer runs out waits for the expiry (R31). -/
def State.OneMsLater (s t : State) : Prop :=
  let less := fun x : Option Nat => x.map (· - 1)
  let lamp := fun l : Lamp => (⟨l.pattern, (l.part + 1) % (match l.pattern with
    | .slow => 2000
    | .double => 2000
    | .fast => 500
    | .on => 1
    | .off => 1)⟩ : Lamp)
  let m := s.timer.measurement
  t.timer = { s.timer with
    doors := t.timer.doors
    measurement := if m.counting then
      (if m.part + 1 < 1000 then ⟨m.value, true, m.part + 1⟩ else ⟨min 1023 (m.value + 1), true, 0⟩) else m
    recovery := less s.timer.recovery
    purge := less s.timer.purge
    gap := less s.timer.gap
    overrideTimer := less s.timer.overrideTimer } ∧
  (∀ d, t.timer.doors.get d = { s.timer.doors.get d with debounce := less (s.timer.doors.get d).debounce }) ∧
  t.cmd = { s.cmd with delivery := t.cmd.delivery } ∧
  (∀ a, t.cmd.delivery.get a = { s.cmd.delivery.get a with ackTimer := less (s.cmd.delivery.get a).ackTimer }) ∧
  t.notice.tagCounter = s.notice.tagCounter ∧ t.notice.airLamp = lamp s.notice.airLamp ∧
  t.notice.serviceLamp = lamp s.notice.serviceLamp ∧
  (∀ k, t.noticeRecord k = { s.noticeRecord k with
    escalationTimer := if s.mgmt.opState = .parked then (s.noticeRecord k).escalationTimer
      else less (s.noticeRecord k).escalationTimer }) ∧
  t.tally = { s.tally with interval := less s.tally.interval } ∧
  t.integ = { s.integ with scrubTimer := less s.integ.scrubTimer } ∧
  t.park = { s.park with wakeTimer := less s.park.wakeTimer, preclean := less s.park.preclean } ∧
  t.quantity.setups = s.quantity.setups ∧
  (∀ i : Fin 32, let sl := s.quantity.slots[i]
    t.quantity.slots[i] =
      if s.mgmt.opState = .parked then sl
      else if sl.staleTimer = some 1 then { sl with agePart := min 1000 (sl.agePart + 1), staleTimer := some 0 }
      else if sl.agePart + 1 < 1000 then { sl with agePart := sl.agePart + 1, staleTimer := less sl.staleTimer }
      else { sl with age := min 255 (sl.age + 1), agePart := 0, staleTimer := less sl.staleTimer }) ∧
  { t with timer := s.timer, cmd := s.cmd, notice := s.notice, tally := s.tally, integ := s.integ, park := s.park,
           quantity := s.quantity } = s

end Sys2Proof.Machine
end

