-- ==== Sys2Proof/Certificates/Slice0/Obligations.lean ====
section
/-! DEFINITION. The statements for the provers, in the order of OBLIGATIONS.json. -/

open Sys2Proof Sys2Proof.Machine

/-! ### The queue, the resets, the pins -/

/-- A step with a command at the front of the queue is exec of that command over the queue's rest. -/
def Obligations.StepTakesTheFrontOfTheQueue : Prop :=
  ∀ (c : Instr) (rest : List Instr) (s : State),
    step { s with pending := c :: rest } = exec c { s with pending := rest }

/-- Every command, well-formed or not, answers a next state in every state, and leaves the commands that wait as
they are: no command of this part stops the machine. A step on an empty queue (log entries 1, 2, 6): a device that does
not run idles; else a waiting hand-over is taken, else the oldest waiting report, else the completion report, else of
the timers that have run out the one first in the model's order; and with nothing waiting or run out, 1 ms passes. -/
def Obligations.EveryCommandAnswersANextStateAndKeepsTheQueue : Prop :=
  (∀ (i : Instr) (s : State), ∃ t, exec i s = .next t ∧ t.pending = s.pending) ∧
  (∀ s : State, s.pending = [] →
    (s.alive = false → step s = .next s) ∧
    (s.alive = true →
      (s.timer.handovers ≠ [] → step s = exec .controllerHandover s) ∧
      (s.timer.handovers = [] → ∀ r rest, s.ctrl.reports = r :: rest → step s = exec (.controllerReport r.source) s) ∧
      (s.timer.handovers = [] → s.ctrl.reports = [] → s.cmd.completion = true → step s = exec .parkedEntry s) ∧
      (s.timer.handovers = [] → s.ctrl.reports = [] → s.cmd.completion = false →
        (∀ i, s.timerOf i = some 0 → (∀ j, s.timerOf j = some 0 → expiryRank i ≤ expiryRank j) → step s = exec i s) ∧
        ((∀ i, s.timerOf i ≠ some 0) → ∃ t, step s = .next t ∧ s.OneMsLater t))))

/-- The state after the power-on sequence, block by block: CONFIG and SAFE; every table, the parameters and the Mode
Records among them, at its power-on content with no damage; no role bound, DIRTY_OUT alone true and no SAFE cause; the
Timer Unit's timers stopped, its measurement 0 and held, both debounced doors CLOSED; the SAFE targets recorded and
nothing else of a delivery; START pending with detail POWER_ON, its NOTICE frame alone in RPQ, and no other kind;
MODE_CHANGE alone masked; the interval and scrub timers running, the receivers waiting. -/
def Obligations.ResetStateHoldsThePowerOnValues : Prop :=
  State.reset.mgmt.opState = .config ∧ State.reset.ctrl.mode = .safe ∧
    State.reset.mgmt.params = ⟨PowerOn.params, []⟩ ∧
    PowerOn.params = ⟨0, 64, .pass, 0, 1, 90, 300, 3, true, 3, 7, 9, 50, 3, .abandon, .continue_, 60, 10, .short,
      .short, 3, 300⟩ ∧
    State.reset.ctrl.records.toList = [⟨⟨100, 4, false, false⟩, []⟩, ⟨⟨0, 5, true, false⟩, []⟩,
      ⟨⟨100, 9, true, false⟩, []⟩, ⟨⟨100, 12, true, false⟩, []⟩, ⟨⟨0, 12, true, false⟩, []⟩,
      ⟨⟨100, 8, false, true⟩, []⟩, ⟨⟨0, 0, true, false⟩, []⟩] ∧
    (∀ r, State.reset.ctrl.bindings.get r = none) ∧
    State.reset.ctrl.conditions = ⟨true, false, false, false, false, false, false⟩ ∧
    State.reset.ctrl.causes = ⟨false, false⟩ ∧
    (∀ i : Fin 64, State.reset.intake.map[i] = ⟨⟨false, 0, 0, 0, 256, 0, .drop⟩, []⟩) ∧
    (∀ i : Fin 64, State.reset.intake.dyn[i] = ⟨0, none⟩) ∧
    (∀ i : Fin 32, State.reset.quantity.setups[i] =
      ⟨⟨.unused, -32768, 32767, 0, 10, .none, ⟨.off, 0, 0, 1⟩, ⟨.off, 0, 0, 1⟩⟩, []⟩) ∧
    (∀ i : Fin 32, State.reset.quantity.slots[i] =
      ⟨.empty, none, 0, 0, none, [], none, 0, ⟨false, 0⟩, ⟨false, 0⟩⟩) ∧
    (∀ i : Fin 4, State.reset.timer.bins[i] = ⟨⟨0, 0⟩, []⟩) ∧ State.reset.timer.Stopped ∧
    (∀ d, (State.reset.timer.doors.get d).isOpen = false ∧ (State.reset.timer.doors.get d).debounce = none) ∧
    State.reset.timer.heldMode = .safe ∧ State.reset.timer.heldStuffy = false ∧
    State.reset.timer.heldSevere = false ∧ State.reset.timer.heldCo2High = false ∧
    (∀ a, State.reset.cmd.entries.get a = ⟨⟨false, 0⟩, []⟩) ∧
    State.reset.cmd.delivery = ⟨⟨some 20, none, none, none, none, false, none⟩,
      ⟨some 8, none, none, none, none, false, none⟩, ⟨some 1, none, none, none, none, false, none⟩,
      ⟨some 1, none, none, none, none, false, none⟩⟩ ∧
    State.reset.cmd.cmq = [] ∧ State.reset.cmd.due = [] ∧ State.reset.cmd.halted = false ∧
    State.reset.cmd.tagCounter = 0 ∧ State.reset.cmd.completion = false ∧
    (∀ i : Fin 4, State.reset.tally.tallies[i] = ⟨0, .off, 0, 0, false, false, false⟩) ∧
    State.reset.integ = ⟨[], 0, 0, some 100⟩ ∧ State.reset.tally.interval = some 1000 ∧
    State.reset.park.startCause = .powerOn ∧ State.reset.park.wakeMinutes = 0 ∧ State.reset.park.wakeTimer = none ∧
    State.reset.park.preclean = none ∧ State.reset.port.ptq = [] ∧ State.reset.port.fwq = [] ∧
    (∃ f, State.reset.port.rpq = [f] ∧ f.dest = 0 ∧ f.src = 1 ∧ f.kind = .notice ∧ f.tag = 0 ∧ f.payload = [0, 0, 0]) ∧
    State.reset.port.dnTx = none ∧ State.reset.port.upTx = none ∧ State.reset.port.dnShareCount = 0 ∧
    State.reset.port.upRunCount = 0 ∧ State.reset.port.upRx = .waitingIdle ∧ State.reset.port.dnRx = .waitingIdle ∧
    State.reset.noticeRecord .start = ⟨true, false, some (.startCause .powerOn), 1, false, none⟩ ∧
    State.reset.noticeRecord .modeChange = ⟨false, true, none, 0, false, none⟩ ∧
    (∀ k, k ≠ .start → k ≠ .modeChange → State.reset.noticeRecord k = ⟨false, false, none, 0, false, none⟩) ∧
    State.reset.notice.tagCounter = 1 ∧
    State.reset.notice.airLamp.pattern = .double ∧ State.reset.notice.serviceLamp.pattern = .off

/-- A power-on with RST_N high, and a reset-line reset with the supply up, run the power-on sequence from any state:
everything takes its value of State.reset, the debounced doors are CLOSED, and a line held low starts a debounce of
20 ms. -/
def Obligations.PowerOnSequenceRunsAtBothResets : Prop :=
  ∀ (i : Instr) (s : State),
    (i = .powerOnReset ∧ s.resetLow = false) ∨ (i = .resetLineReset ∧ s.supplyUp = true) →
    ∃ t, exec i s = .next t ∧ t.pending = s.pending ∧ t.draws = s.draws ∧
      (∀ d, t.timer.doors.get d =
        ⟨(s.timer.doors.get d).rawLow, false, if (s.timer.doors.get d).rawLow then some 20 else none⟩) ∧
      { t with pending := [], draws := 0, timer := { t.timer with doors := State.reset.timer.doors } } = State.reset

/-- RST_N going low and a loss of supply leave a device that does not run: no transmission, both lamps dark, no
timer. What the tables of such a device hold is the model's choice (log entry 13) and is not stated. While it does
not run, no command but the four of the pins changes anything, save that a door line's level stands at its pin. -/
def Obligations.NothingRunsWithoutSupplyOrInReset : Prop :=
  (∀ (i : Instr) (s : State), i = .resetLineAssert ∨ i = .lossOfSupply →
    ∃ t, exec i s = .next t ∧ t.alive = false ∧ t.dnEn = false ∧ t.port.upTx = none ∧
      t.notice.airLamp.lit = false ∧ t.notice.serviceLamp.lit = false ∧
      t.timer.recovery = none ∧ t.timer.purge = none ∧ t.timer.gap = none ∧ t.timer.overrideTimer = none ∧
      (∀ d, (t.timer.doors.get d).debounce = none) ∧ (∀ a, (t.cmd.delivery.get a).ackTimer = none) ∧
      (∀ k, (t.noticeRecord k).escalationTimer = none) ∧ (∀ j : Fin 32, t.quantity.slots[j].staleTimer = none) ∧
      t.tally.interval = none ∧ t.integ.scrubTimer = none ∧ t.park.wakeTimer = none ∧ t.park.preclean = none) ∧
  (∀ (i : Instr) (s : State), s.alive = false →
    i ≠ .powerOnReset → i ≠ .resetLineAssert → i ≠ .resetLineReset → i ≠ .lossOfSupply →
    (∀ d low, i ≠ .doorLevelChange d low) → exec i s = .next s) ∧
  (∀ (d : Door) (low : Bool) (s : State), s.alive = false →
    exec (.doorLevelChange d low) s = .next (s.setLevel d low))

/-! ### Frames and ports -/

/-- The CHECK: a 16-bit register of all ones takes each byte, most significant bit first; the register's top bit is
combined with the incoming bit, the register is shifted up, and if the combined bit was 1 the lower sixteen terms of
x^16 + x^12 + x^5 + 1 are applied; what the register holds after the last byte is the CHECK. The nine characters 1 to
9 give 29B1. A frame the device builds carries the CHECK of its bytes; a received frame whose CHECK differs from the
one over its bytes is not good, and a good one carries the bytes and the CHECK as received, also in PTQ and FWQ. -/
def Obligations.CheckOfTheNineDigits : Prop :=
  checkOf [0x31, 0x32, 0x33, 0x34, 0x35, 0x36, 0x37, 0x38, 0x39] = 0x29B1 ∧
    checkOf [] = 0xFFFF ∧ (∀ bs b, checkOf (bs ++ [b]) = checkByte (checkOf bs) b) ∧
    (∀ (reg : Word16) (b : Byte), checkByte reg b = checkBit (checkBit (checkBit (checkBit (checkBit (checkBit (checkBit
      (checkBit reg (b.getLsbD 7)) (b.getLsbD 6)) (b.getLsbD 5)) (b.getLsbD 4)) (b.getLsbD 3)) (b.getLsbD 2))
      (b.getLsbD 1)) (b.getLsbD 0)) ∧
    (∀ (reg : Word16) (bit : Bool), checkBit reg bit =
      if (reg.getLsbD 15 ^^ bit) = true then (reg <<< 1) ^^^ 0b0001000000100001 else reg <<< 1) ∧
    (∀ dest kind tag payload, (buildFrame dest kind tag payload).check = checkOf (buildFrame dest kind tag payload).covered) ∧
    (∀ r f, classify r = .good f → f.wire = r.bytes ∧ f.check = checkOf f.covered) ∧
    (∀ (s : State) (f : Frame), (∀ g ∈ (s.offerPtq f).port.ptq, g = f ∨ g ∈ s.port.ptq) ∧
      (∀ g ∈ (s.offerFwq f).port.fwq, g = f ∨ g ∈ s.port.fwq))

/-- A frame with fields in range, a payload that fits its kind and a CHECK over the bytes before it is judged good,
with every field as it was sent; the same bytes with another CHECK are a CHECK_ERROR, and with a missing stop bit
too, and fewer than 7 bytes. More than 31 bytes are MALFORMED; so is, its CHECK holding, a frame whose LEN is above 24 or
not its payload's length, whose DEST is above 63, whose SRC is 1 or above 62, whose KIND is none of the six, or whose
payload fails its kind's check; the checks of R123 are stated byte by byte. -/
def Obligations.WellBuiltFramesAreJudgedGood : Prop :=
  (∀ f : Frame, f.dest.toNat ≤ 63 → f.src ≠ 1 → f.src.toNat ≤ 62 → f.payload.length ≤ 24 →
    payloadOk f.kind f.payload = true →
    (f.check = checkOf f.covered → classify ⟨f.wire, false⟩ = .good f) ∧
      (f.check ≠ checkOf f.covered → classify ⟨f.wire, false⟩ = .checkError) ∧
      classify ⟨f.wire, true⟩ = .checkError) ∧
  (∀ bs : List Byte, (bs.length < 7 → classify ⟨bs, false⟩ = .checkError) ∧
    (31 < bs.length → classify ⟨bs, false⟩ = .malformed)) ∧
  (∀ (dest src kind tag len : Byte) (p : List Byte), p.length ≤ 24 →
    (24 < len.toNat ∨ p.length ≠ len.toNat ∨ 63 < dest.toNat ∨ src = 1 ∨ 62 < src.toNat ∨ kind = 0 ∨ 6 < kind.toNat ∨
      (∃ k : FrameKind, kind.toNat = k.code ∧ payloadOk k p = false)) →
    classify ⟨dest :: src :: kind :: tag :: len :: p ++ word16Bytes (checkOf (dest :: src :: kind :: tag :: len :: p)),
      false⟩ = .malformed) ∧
  (∀ p : List Byte,
    (payloadOk .sample p = true ↔ (p.length = 4 ∨ p.length = 8 ∨ p.length = 12 ∨ p.length = 16) ∧
      ∀ j < p.length / 4, (p.getD (4 * j) 0).toNat ≤ 15 ∧ (p.getD (4 * j + 1) 0).toNat ≤ 2) ∧
    (payloadOk .cmd p = true ↔ p.length = 1) ∧
    (payloadOk .ack p = true ↔ p.length = 2 ∧ (p.getD 1 0).toNat ≤ 3) ∧
    (payloadOk .manage p = true ↔ 1 ≤ p.length) ∧ (payloadOk .reply p = true ↔ 1 ≤ p.length) ∧
    (payloadOk .notice p = true ↔ p.length = 3))

/-- Every request with a part its code has is read back, operand by operand, from the request code and argument bytes
of its form. -/
def Obligations.RequestsAreReadBackFromTheirBytes : Prop :=
  ∀ (i : Instr) (o : Origin) (n : Nat) (part : Fin 4) (args : List Byte),
    requestForm i = some (o, n, part, args) → i.partOk = true →
    decodeRequest o (codeByte n part) args = .known i

/-- DN arrivals outside PARKED: a bad frame gives its sub-event and nothing else; a good one gives RX_GOOD and, for
another chain node or with a kind the device drops, nothing else; a frame for node 0 or 63 other than SAMPLE joins
FWQ, or at a full FWQ is lost with FQ_DROP and QUEUE_DROP. A MANAGE frame for node 1 does what the request it carries
does, after RX_GOOD. In PARKED, and while the receiver waits for idle, a DN arrival changes nothing. That a wrap's
TALLY_OVERFLOW stands ahead of QUEUE_DROP is the model's reading (log entry 25, DEDUCED). -/
def Obligations.DnArrivalsAreCountedAndDisposedOf : Prop :=
  ∀ (s : State) (r : Reception), s.alive = true →
    ((s.mgmt.opState = .parked ∨ s.port.dnRx = .waitingIdle) → exec (.dnArrival r) s = .next s) ∧
    (s.mgmt.opState ≠ .parked → s.port.dnRx = .taking →
      (classify r = .checkError → exec (.dnArrival r) s = .next (s.count .checkError)) ∧
      (classify r = .malformed → exec (.dnArrival r) s = .next (s.count .malformed)) ∧
      (∀ f, classify r = .good f →
        (2 ≤ f.dest.toNat ∧ f.dest.toNat ≤ 62 → exec (.dnArrival r) s = .next (s.count .rxGood)) ∧
        (f.dest = 1 ∧ (f.kind = .cmd ∨ f.kind = .reply ∨ f.kind = .notice) →
          exec (.dnArrival r) s = .next (s.count .rxGood)) ∧
        ((f.dest = 0 ∨ f.dest = 63) ∧ f.kind ≠ .sample →
          (s.port.fwq.length < 16 →
            exec (.dnArrival r) s = .next ((s.onPort fun p => { p with fwq := p.fwq ++ [f] }).count .rxGood)) ∧
          (16 ≤ s.port.fwq.length → exec (.dnArrival r) s =
            .next ((s.countAll [.rxGood, .fqDrop]).raiseRecord .queueDrop (.queue .fwq)))) ∧
        (∀ code args i, f.dest = 1 → f.kind = .manage → f.payload = code :: args → s.NoWrap →
          decodeRequest ⟨.dn, false, f.src, f.tag⟩ code args = .known i →
          exec (.dnArrival r) s = exec i (s.count .rxGood))))

/-- UP arrivals outside PARKED: bad frames, and frames the device drops, are counted alone; gateway frames for the
chain other than CMD and a broadcast MANAGE join PTQ, or at a full PTQ are lost with PT_DROP and QUEUE_DROP. A MANAGE
frame for node 1 does what the request it carries does, after RX_GOOD; one for node 63 is offered to PTQ too, and done
whether PTQ takes it or not; the gateway's with an unknown code is answered UNKNOWN, with a wrong length BAD_VALUE.
That the offer to PTQ comes before the request's work is the model's choice (log entry 12, DESIGN CHOICE), and that a
wrap's TALLY_OVERFLOW stands ahead of QUEUE_DROP its reading (log entry 25, DEDUCED). -/
def Obligations.UpArrivalsAreCountedAndDisposedOf : Prop :=
  ∀ (s : State) (r : Reception) (busy : LinesBusy), s.alive = true → s.mgmt.opState ≠ .parked → s.port.upRx = .taking →
    (classify r = .checkError → exec (.upArrival r busy) s = .next (s.count .checkError)) ∧
    (classify r = .malformed → exec (.upArrival r busy) s = .next (s.count .malformed)) ∧
    (∀ f, classify r = .good f →
      (f.dest = 0 → exec (.upArrival r busy) s = .next (s.count .rxGood)) ∧
      (f.dest = 1 ∧ (f.kind = .cmd ∨ f.kind = .ack ∨ f.kind = .reply ∨ f.kind = .notice) →
        exec (.upArrival r busy) s = .next (s.count .rxGood)) ∧
      (2 ≤ f.dest.toNat ∧ f.kind ≠ .cmd ∧ ¬(f.dest = 63 ∧ f.kind = .manage) →
        (s.port.ptq.length < 8 →
          exec (.upArrival r busy) s = .next ((s.onPort fun p => { p with ptq := p.ptq ++ [f] }).count .rxGood)) ∧
        (8 ≤ s.port.ptq.length → exec (.upArrival r busy) s =
          .next ((s.countAll [.rxGood, .ptDrop]).raiseRecord .queueDrop (.queue .ptq)))) ∧
      (∀ code args, f.kind = .manage → f.payload = code :: args → s.NoWrap →
        (∀ i, f.dest = 1 → decodeRequest ⟨.up, false, f.src, f.tag⟩ code args = .known i →
          exec (.upArrival r busy) s = exec i (s.count .rxGood)) ∧
        (∀ i, f.dest = 63 → s.port.ptq.length < 8 → decodeRequest ⟨.up, true, f.src, f.tag⟩ code args = .known i →
          exec (.upArrival r busy) s = exec i ((s.onPort fun p => { p with ptq := p.ptq ++ [f] }).count .rxGood)) ∧
        (∀ i, f.dest = 63 → 8 ≤ s.port.ptq.length → decodeRequest ⟨.up, true, f.src, f.tag⟩ code args = .known i →
          exec (.upArrival r busy) s =
            exec i ((s.countAll [.rxGood, .ptDrop]).raiseRecord .queueDrop (.queue .ptq))) ∧
        (f.dest = 1 → f.src = 0 → s.port.rpq.length < 8 →
          (decodeRequest ⟨.up, false, f.src, f.tag⟩ code args = .unknown →
            exec (.upArrival r busy) s = .next ((s.count .rxGood).answeredPlain f.tag code .unknown)) ∧
          (∀ rule, decodeRequest ⟨.up, false, f.src, f.tag⟩ code args = .badLength rule →
            exec (.upArrival r busy) s = .next ((s.count .rxGood).answeredPlain f.tag code .badValue)))))

/-- A gateway CMD frame, no entry damaged: outside CONFIG one for the node of a present actuator, or for node 63 with
an actuator present, is not passed and is answered OWNED to node 0 with its TAG, or at a full RPQ lost with RQ_DROP;
any other joins PTQ, or at a full PTQ is lost with PT_DROP and QUEUE_DROP. That a wrap's TALLY_OVERFLOW stands behind
the OWNED reply and ahead of QUEUE_DROP is the model's reading (log entry 25, DEDUCED). -/
def Obligations.GatewayCommandsForOwnedNodesAreAnsweredOwned : Prop :=
  ∀ (s : State) (r : Reception) (busy : LinesBusy) (f : Frame), s.alive = true → s.mgmt.opState ≠ .parked →
    s.port.upRx = .taking → s.Undamaged → classify r = .good f → f.kind = .cmd → 2 ≤ f.dest.toNat →
    ((∃ a, (s.cmd.entries.get a).content.present = true ∧
        (f.dest = 63 ∨ (s.cmd.entries.get a).content.node = f.dest.toNat)) ∧ s.mgmt.opState ≠ .config →
      exec (.upArrival r busy) s = .next
        (if s.port.rpq.length < 8 then
          (s.onPort fun p => { p with rpq := p.rpq ++ [replyFrame 0 f.tag 0 (plain .owned)] }).count .rxGood
        else s.countAll [.rxGood, .rqDrop])) ∧
    ((s.mgmt.opState = .config ∨
        ∀ a, (s.cmd.entries.get a).content.present = true →
          f.dest ≠ 63 ∧ (s.cmd.entries.get a).content.node ≠ f.dest.toNat) →
      (s.port.ptq.length < 8 →
        exec (.upArrival r busy) s = .next ((s.onPort fun p => { p with ptq := p.ptq ++ [f] }).count .rxGood)) ∧
      (8 ≤ s.port.ptq.length → exec (.upArrival r busy) s =
        .next ((s.countAll [.rxGood, .ptDrop]).raiseRecord .queueDrop (.queue .ptq))))

/-- An offer to PTQ or FWQ with room puts the frame at the end and changes nothing else; an offer to a full queue
leaves PTQ and FWQ as they are, gives its drop sub-event and makes QUEUE_DROP pending with the queue as detail. That a
wrap's TALLY_OVERFLOW stands ahead of QUEUE_DROP is the model's reading (log entry 25, DEDUCED). A raise of any kind:
pending, the latest detail, the count up by 1 and staying at 255, and, where it opened a pending period, a NOTICE
frame unless the kind is masked, taking a tag though RPQ be full, and the escalation timer of the six escalating kinds
unless ESCALATION is 0; the SERVICE lamp follows; no other kind and no other block changes. -/
def Obligations.FullQueuesDropTheFrameWithANotice : Prop :=
  (∀ (s : State) (f : Frame),
    (s.port.ptq.length < 8 → s.offerPtq f = s.onPort fun p => { p with ptq := p.ptq ++ [f] }) ∧
    (s.port.fwq.length < 16 → s.offerFwq f = s.onPort fun p => { p with fwq := p.fwq ++ [f] }) ∧
    (8 ≤ s.port.ptq.length → s.offerPtq f = (s.count .ptDrop).raiseRecord .queueDrop (.queue .ptq) ∧
      (s.offerPtq f).port.ptq = s.port.ptq ∧ (s.offerPtq f).port.fwq = s.port.fwq ∧
      ((s.offerPtq f).noticeRecord .queueDrop).pending = true ∧
      ((s.offerPtq f).noticeRecord .queueDrop).detail = some (.queue .ptq)) ∧
    (16 ≤ s.port.fwq.length → s.offerFwq f = (s.count .fqDrop).raiseRecord .queueDrop (.queue .fwq) ∧
      (s.offerFwq f).port.ptq = s.port.ptq ∧ (s.offerFwq f).port.fwq = s.port.fwq ∧
      ((s.offerFwq f).noticeRecord .queueDrop).pending = true ∧
      ((s.offerFwq f).noticeRecord .queueDrop).detail = some (.queue .fwq))) ∧
  (∀ (s : State) (f : Frame),
    (8 ≤ s.port.ptq.length → (s.count .ptDrop).RaisedFrom (s.offerPtq f) .queueDrop (.queue .ptq) 0) ∧
    (16 ≤ s.port.fwq.length → (s.count .fqDrop).RaisedFrom (s.offerFwq f) .queueDrop (.queue .fwq) 0)) ∧
  (∀ (s : State) (k : NoticeKind) (d : Detail) (seconds : Nat),
    s.RaisedFrom (s.raiseWith seconds k d) k d seconds ∧
      { s.raiseWith seconds k d with notice := s.notice, port := s.port } = s)

/-! ### Readings -/

/-- A passing SAMPLE frame, no entry damaged and FWQ with room. With no map entry valid, UNMAPPED_ACTION PASS and the
source in the Sample Window, it reaches no slot and touches no map entry, and is forwarded whole: the device repeats
pod traffic until the map is loaded; under DROP it is consumed. A source outside the window is forwarded untouched. A
frame of one reading with its key in the map is forwarded by the entry's rule: DROP never, PASS always, THIN with k at
the reading that brings the thin counter to k, the counter then 0; a duplicate is not forwarded and changes nothing. -/
def Obligations.UnmappedSamplesAreForwarded : Prop :=
  ∀ (s : State) (r : Reception) (f : Frame), s.alive = true → s.mgmt.opState ≠ .parked → s.port.dnRx = .taking →
    s.Undamaged → classify r = .good f → f.kind = .sample → (f.dest = 0 ∨ f.dest = 63) → s.port.fwq.length < 16 →
    ((∀ i : Fin 64, s.intake.map[i].content.valid = false) →
      inWindow s.mgmt.params.content f.src.toNat = true →
      ∃ t, exec (.dnArrival r) s = .next t ∧
        t.port.fwq = s.port.fwq ++ (if s.mgmt.params.content.unmappedAction = .pass then [f] else []) ∧
        t.port.ptq = s.port.ptq ∧ t.quantity = s.quantity ∧
        t.intake = s.intake ∧ t.ctrl = s.ctrl ∧ t.timer = s.timer ∧ t.cmd = s.cmd ∧ t.mgmt = s.mgmt ∧
        t.integ = s.integ ∧ t.park = s.park) ∧
    (f.src.toNat < s.mgmt.params.content.windowBase ∨
        s.mgmt.params.content.windowBase + s.mgmt.params.content.windowSize ≤ f.src.toNat →
      exec (.dnArrival r) s = .next ((s.onPort fun p => { p with fwq := p.fwq ++ [f] }).count .rxGood)) ∧
    (∀ (rd : Reading) (i : Fin 64), s.mgmt.params.content.windowBase ≤ f.src.toNat →
      f.src.toNat < s.mgmt.params.content.windowBase + s.mgmt.params.content.windowSize →
      readingsOf f.payload = some [rd] → s.KeyAt f.src.toNat rd.channel i →
      (s.intake.dyn[i].lastTag = some f.tag →
        exec (.dnArrival r) s = .next (s.countAll [.rxGood, .duplicate])) ∧
      (s.intake.dyn[i].lastTag ≠ some f.tag → ∀ (n : Nat) (call : Bool),
        let rule := s.intake.map[i].content.rule
        let was := s.intake.dyn[i].thin
        ((rule = .drop ∧ n = was ∧ call = false) ∨ (rule = .pass ∧ n = was ∧ call = true) ∨
          (∃ k, rule = .thin k ∧
            ((was + 1 < k ∧ n = was + 1 ∧ call = false) ∨ (k ≤ was + 1 ∧ n = 0 ∧ call = true)))) →
        ∃ t, exec (.dnArrival r) s = .next t ∧ t.port.fwq = s.port.fwq ++ (if call then [f] else []) ∧
          t.port.ptq = s.port.ptq ∧
          t.intake = { s.intake with dyn := s.intake.dyn.set i ⟨n, some f.tag⟩ } ∧ t.timer = s.timer ∧
          t.cmd = s.cmd ∧ t.mgmt = s.mgmt ∧ t.integ = s.integ ∧ t.park = s.park))

/-- A SAMPLE frame that the device classifies, for node 1 on DN or UP, or passing on DN for node 0 or 63 with its source
in the Sample Window, no entry damaged, each reading's key at one entry. Of one reading: a duplicate is counted
alone; else the entry's last tag becomes the TAG, and an UNUSED slot, a WARMING sensor, a FAULT sensor, a value out of
range, a candidate step and an accepted value each do to the slot what R33 to R39 say, with its report, its notice and
its sub-event; a passing frame moves the thin counter and is forwarded, or lost at a full FWQ, by the entry's forward
rule, one for node 1 never; nothing else changes. An accepted value becomes the slot's value, FRESH with age
0, joins the history and is seen by both comparators, as itself or under MEDIAN3 as the middle of the last three. Of two
accepted readings the second meets the slot as the first left it; a second one of the same channel is a duplicate. -/
def Obligations.AcceptedReadingsReachTheirSlot : Prop :=
  (∀ (s : State) (c : Instr) (f : Frame) (passing : Bool) (rd : Reading) (i : Fin 64), s.alive = true →
    s.mgmt.opState ≠ .parked → s.Undamaged → s.SampleArrives c f passing → readingsOf f.payload = some [rd] →
    s.KeyAt f.src.toNat rd.channel i →
    let k := s.intake.map[i].content.slot
    let setup := s.quantity.setups[k].content
    let sl := s.quantity.slots[k]
    let v := scale rd.raw s.intake.map[i].content.gain s.intake.map[i].content.offset
    let suspects := 3 ≤ sl.rejects + 1 ∧ sl.status = .fresh
    let rejected : Slot := { sl with
      rejects := min 255 (sl.rejects + 1), status := if suspects then .suspect else sl.status }
    let view := fun st => (if st = sl.status then [] else [.slot k ⟨st, sl.compA.isSet, sl.compB.isSet⟩] : List Report)
    let near := fun x : Int => (v - x).natAbs ≤ setup.step
    let stepped := (sl.status = .fresh ∨ sl.status = .suspect) ∧ 0 < setup.step
    (s.intake.dyn[i].lastTag = some f.tag →
      ∃ t, exec c s = .next t ∧ s.TookReading t f passing i .duplicate sl []) ∧
    (s.intake.dyn[i].lastTag ≠ some f.tag →
      (setup.kind = .unused →
        ∃ t, exec c s = .next t ∧ s.TookReading t f passing i .rejectRange sl []) ∧
      (setup.kind ≠ .unused → rd.sensor = .warming →
        ∃ t, exec c s = .next t ∧ s.TookReading t f passing i .rejectState sl []) ∧
      (setup.kind ≠ .unused → rd.sensor = .fault →
        ∃ t, exec c s = .next t ∧
          s.TookReading t f passing i .rejectState { sl with
            status := .fault, pendingJump := none, compA := ⟨sl.compA.isSet, 0⟩, compB := ⟨sl.compB.isSet, 0⟩ }
            (view .fault) ∧
          (sl.status ≠ .fault → (∃ b, s.ctrl.bindings.get b = some k) → t.Raised .inputLost (.slot k))) ∧
      (setup.kind ≠ .unused → rd.sensor = .ok → v < setup.min ∨ setup.max < v →
        ∃ t, exec c s = .next t ∧ s.TookReading t f passing i .rejectRange rejected (view rejected.status) ∧
          (suspects → t.Raised .inputSuspect (.slot k))) ∧
      (setup.kind ≠ .unused → rd.sensor = .ok → setup.min ≤ v → v ≤ setup.max →
        (∀ l, stepped → sl.value = some l → ¬near l → (∀ p, sl.pendingJump = some p → ¬near p) →
          ∃ t, exec c s = .next t ∧
            s.TookReading t f passing i .rejectStep { rejected with pendingJump := some v } (view rejected.status) ∧
            (suspects → t.Raised .inputSuspect (.slot k))) ∧
        (¬stepped ∨ (∃ l, sl.value = some l ∧ near l) ∨ (∃ p, sl.pendingJump = some p ∧ near p) →
          ∃ t, exec c s = .next t ∧
            t.quantity.slots[k].status = .fresh ∧ t.quantity.slots[k].value = some v ∧ t.quantity.slots[k].age = 0 ∧
            t.quantity.slots[k].staleTimer = some (setup.stale * 1000) ∧
            t.quantity.slots[k].history = (if sl.history.length < 8 then sl.history else sl.history.drop 1) ++ [v] ∧
            t.quantity.slots[k].pendingJump = none ∧ t.quantity.slots[k].rejects = 0 ∧
            (∀ x, (setup.smoothing = .none ∨ sl.history.length < 2 → x = v) →
              (setup.smoothing = .median3 → ∀ xs a b, sl.history = xs ++ [a, b] →
                x = max (min a b) (min (max a b) v)) →
              t.quantity.slots[k].compA = setup.compA.evaluate sl.compA x ∧
              t.quantity.slots[k].compB = setup.compB.evaluate sl.compB x) ∧
            s.TookReading t f passing i .accepted (sl.accept setup v) [.slot k t.quantity.slots[k].view])))) ∧
  (∀ (s : State) (c : Instr) (f : Frame) (passing : Bool) (r1 r2 : Reading) (i j : Fin 64), s.alive = true →
    s.mgmt.opState ≠ .parked → s.Undamaged → s.SampleArrives c f passing → readingsOf f.payload = some [r1, r2] →
    s.KeyAt f.src.toNat r1.channel i → s.KeyAt f.src.toNat r2.channel j → s.intake.dyn[i].lastTag ≠ some f.tag → r1.sensor = .ok →
    let k := s.intake.map[i].content.slot
    let setup := s.quantity.setups[k].content
    let v := scale r1.raw s.intake.map[i].content.gain s.intake.map[i].content.offset
    let slots := s.quantity.slots.set k (s.quantity.slots[k].accept setup v)
    let due := s.forwardDue i passing
    let dyn := s.intake.dyn.set i ⟨due.1, some f.tag⟩
    setup.kind ≠ .unused → judge setup s.quantity.slots[k] v = .accepted →
    (i = j → ∃ t, exec c s = .next t ∧ t.quantity = { s.quantity with slots := slots } ∧
      t.intake = { s.intake with dyn := dyn } ∧ s.Forwarded t f due.2 [.rxGood, .accepted, .duplicate]) ∧
    (i ≠ j → s.intake.dyn[j].lastTag ≠ some f.tag → r2.sensor = .ok →
      let l := s.intake.map[j].content.slot
      let setup2 := s.quantity.setups[l].content
      let w := scale r2.raw s.intake.map[j].content.gain s.intake.map[j].content.offset
      setup2.kind ≠ .unused → judge setup2 slots[l] w = .accepted →
      ∃ t, exec c s = .next t ∧
        t.quantity = { s.quantity with slots := slots.set l (slots[l].accept setup2 w) } ∧
        t.intake = { s.intake with dyn := dyn.set j ⟨(s.forwardDue j passing).1, some f.tag⟩ } ∧
        s.Forwarded t f (due.2 || (s.forwardDue j passing).2) [.rxGood, .accepted, .accepted]))

/-- Scaling: the exact product over 256 truncated toward zero, plus the offset, clamped to 16 bits; gain 256 with
offset 0 leaves a 16-bit value as it is, and gain 0 gives the offset. The product of two 16-bit values lies in the
range the manual names. -/
def Obligations.ScalingTruncatesTowardZeroAndClamps : Prop :=
  ∀ r g o : Int,
    (-32768 ≤ scale r g o ∧ scale r g o ≤ 32767) ∧
    (-32768 ≤ r ∧ r ≤ 32767 → scale r 256 0 = r) ∧
    (-32768 ≤ o ∧ o ≤ 32767 → scale r 0 o = o) ∧
    (-32768 ≤ r ∧ r ≤ 32767 → -32768 ≤ g ∧ g ≤ 32767 → -1073709056 ≤ r * g ∧ r * g ≤ 1073741824) ∧
    (∀ q : Int, 0 ≤ r * g → 256 * q ≤ r * g → r * g < 256 * q + 256 → -32768 ≤ q + o → q + o ≤ 32767 →
      scale r g o = q + o) ∧
    (∀ q : Int, r * g < 0 → r * g ≤ 256 * q → 256 * q - 256 < r * g → -32768 ≤ q + o → q + o ≤ 32767 →
      scale r g o = q + o) ∧
    (32767 < (r * g).tdiv 256 + o → scale r g o = 32767) ∧
    ((r * g).tdiv 256 + o < -32768 → scale r g o = -32768)

/-- A comparator's evaluation, row by row, for directions ABOVE and BELOW in both states: a qualifying value raises the
progress by 1 and, at the confirm count, changes the state with progress 0; any other takes the progress to 0. OFF
changes nothing. So a CLEAR comparator that sees only qualifying values stays CLEAR until the confirm count of them
have come in a row, and is SET at that one. -/
def Obligations.ComparatorsSetAtTheConfirmCount : Prop :=
  ∀ (c : CompSetup) (n : Nat) (v : Int),
    let moved := fun isSet => if n + 1 < c.confirm then (⟨isSet, n + 1⟩ : CompState) else ⟨!isSet, 0⟩
    (c.direction = .above →
      (c.set ≤ v → c.evaluate ⟨false, n⟩ v = moved false) ∧ (v < c.set → c.evaluate ⟨false, n⟩ v = ⟨false, 0⟩) ∧
      (v < c.clear → c.evaluate ⟨true, n⟩ v = moved true) ∧ (c.clear ≤ v → c.evaluate ⟨true, n⟩ v = ⟨true, 0⟩)) ∧
    (c.direction = .below →
      (v ≤ c.set → c.evaluate ⟨false, n⟩ v = moved false) ∧ (c.set < v → c.evaluate ⟨false, n⟩ v = ⟨false, 0⟩) ∧
      (c.clear < v → c.evaluate ⟨true, n⟩ v = moved true) ∧ (v ≤ c.clear → c.evaluate ⟨true, n⟩ v = ⟨true, 0⟩)) ∧
    (c.direction = .off → ∀ st, c.evaluate st v = st) ∧
    (∀ vs : List Int, 1 ≤ c.confirm → (∀ x ∈ vs, c.qualifies false x = true) →
      (vs.length < c.confirm → vs.foldl c.evaluate ⟨false, 0⟩ = ⟨false, vs.length⟩) ∧
      (vs.length = c.confirm → vs.foldl c.evaluate ⟨false, 0⟩ = ⟨true, 0⟩))

/-- An ACK for node 1, no entry damaged. From the node of a present actuator whose outstanding command has its TAG, no
other's having it: the command is completed, its ack timer stopped and it leaves the DUE order; reported takes the
position and status, failed follows the status, ACKED is given, and in PARKING the completion reported if nothing is
left to deliver; JAMMED and OVERHEAT raise ACTUATOR_FAULT with the actuator as detail. With no such command at that
node but its last abandoned tag: reported and failed so, the last abandoned tag absent, LATE_ACK. With neither, also
from a node of no present actuator: STRAY_ACK and nothing else. Every other actuator, CMQ and every block but the
tallies, the notices and RPQ is unchanged. -/
def Obligations.MatchingAcksCompleteTheCommand : Prop :=
  ∀ (s : State) (r : Reception) (f : Frame) (a : Actuator) (rep : Reported), s.alive = true →
    s.mgmt.opState ≠ .parked → s.port.dnRx = .taking → s.Undamaged → classify r = .good f → f.kind = .ack →
    f.dest = 1 → ackOf f.payload = some rep →
    let bad := rep.status = .jammed ∨ rep.status = .overheat
    (∀ o, (s.cmd.entries.get a).content.present = true → (s.cmd.entries.get a).content.node = f.src.toNat →
      (s.cmd.delivery.get a).outstanding = some o → o.tag = f.tag →
      (∀ b p, b ≠ a → (s.cmd.delivery.get b).outstanding = some p → p.tag ≠ f.tag) →
      ∃ t, exec (.dnArrival r) s = .next t ∧
        t.cmd.delivery.get a = { s.cmd.delivery.get a with
          outstanding := none, ackTimer := none, reported := some rep, failed := decide bad } ∧
        (∀ b, b ≠ a → t.cmd.delivery.get b = s.cmd.delivery.get b) ∧ t.cmd.cmq = s.cmd.cmq ∧
        t.cmd.due = s.cmd.due.erase a ∧ t.cmd.entries = s.cmd.entries ∧ t.cmd.halted = s.cmd.halted ∧
        t.cmd.tagCounter = s.cmd.tagCounter ∧
        (bad → t.Raised .actuatorFault (.actuator a)) ∧ t.tally = (s.countAll [.rxGood, .acked]).tally ∧
        (s.NoWrap → (bad → s.RaisedFrom t .actuatorFault (.actuator a) s.mgmt.params.content.escalation) ∧
          (¬bad → t.notice = s.notice ∧ t.port = s.port)) ∧
        (s.mgmt.opState = .parking → t.cmd.quiet = true → t.cmd.completion = true) ∧
        (s.mgmt.opState ≠ .parking ∨ t.cmd.quiet = false → t.cmd.completion = s.cmd.completion) ∧
        s.OnlyRpq t ∧ t.ctrl = s.ctrl ∧ t.timer = s.timer ∧ t.intake = s.intake ∧ t.quantity = s.quantity ∧
        t.mgmt = s.mgmt ∧ t.integ = s.integ ∧ t.park = s.park) ∧
    ((∀ b p, (s.cmd.entries.get b).content.present = true → (s.cmd.entries.get b).content.node = f.src.toNat →
        (s.cmd.delivery.get b).outstanding = some p → p.tag ≠ f.tag) →
      ((s.cmd.entries.get a).content.present = true → (s.cmd.entries.get a).content.node = f.src.toNat →
        (s.cmd.delivery.get a).lastAbandoned = some f.tag →
        (∀ b, b ≠ a → (s.cmd.delivery.get b).lastAbandoned ≠ some f.tag) →
        ∃ t, exec (.dnArrival r) s = .next t ∧
          t.cmd = { s.cmd with delivery := s.cmd.delivery.set a { s.cmd.delivery.get a with
            reported := some rep, failed := decide bad, lastAbandoned := none } } ∧
          (bad → t.Raised .actuatorFault (.actuator a)) ∧ t.tally = (s.countAll [.rxGood, .lateAck]).tally ∧
          (s.NoWrap → (bad → s.RaisedFrom t .actuatorFault (.actuator a) s.mgmt.params.content.escalation) ∧
            (¬bad → t.notice = s.notice ∧ t.port = s.port)) ∧
          s.OnlyRpq t ∧ t.ctrl = s.ctrl ∧ t.timer = s.timer ∧ t.intake = s.intake ∧ t.quantity = s.quantity ∧
          t.mgmt = s.mgmt ∧ t.integ = s.integ ∧ t.park = s.park) ∧
      ((∀ b, (s.cmd.entries.get b).content.present = true → (s.cmd.entries.get b).content.node = f.src.toNat →
          (s.cmd.delivery.get b).lastAbandoned ≠ some f.tag) →
        exec (.dnArrival r) s = .next (s.countAll [.rxGood, .strayAck])))

/-! ### The two lines -/

/-- A DN grant with the transmitter free, no entry damaged. PTQ alone, or both parties with DN_SHARE above the share
counter and not 0: PTQ's head is transmitted. The Command Engine offering an actuator whose entry reads present, alone
or with DN_SHARE 0 or at most the counter: the command is transmitted as a CMD frame to the entry's node; a DUE one
keeps its tag; a first send takes the pending value with the tag counter's tag and leaves CMQ, and the tag counter
advances. An only offer whose actuator is not present is dropped, its last abandoned tag with it, in PARKING with the
completion if that leaves nothing to deliver, and PTQ's head, if any, is transmitted. Neither party waiting, or a
frame on the line: nothing. A grant whose read finds the entry damaged in two places transmits nothing for it: the
entry is faulted with TABLE_FAULT, the actuator's delivery dropped so, and the next offer, or PTQ's head, is
transmitted. Damage in one place is corrected with TABLE_CORRECTED and the command sent. -/
def Obligations.DnGrantsFollowTheShare : Prop :=
  (∀ s : State, s.alive = true → s.Undamaged →
    (s.port.dnTx.isSome = true ∨ (s.cmd.offered = none ∧ s.port.ptq = []) → exec .dnGrant s = .next s) ∧
    (∀ f rest, s.port.dnTx = none → s.port.ptq = f :: rest →
      (s.cmd.offered = none ∨ (s.mgmt.params.content.dnShare ≠ 0 ∧
        s.port.dnShareCount < s.mgmt.params.content.dnShare)) →
      exec .dnGrant s = .next (s.onPort fun p => { p with dnTx := some ⟨.ptqHead, f⟩ })) ∧
    (∀ a o, s.port.dnTx = none → s.cmd.offered = some a → (s.cmd.entries.get a).content.present = true →
      (s.port.ptq = [] ∨ s.mgmt.params.content.dnShare = 0 ∨ s.mgmt.params.content.dnShare ≤ s.port.dnShareCount) →
      (s.cmd.delivery.get a).outstanding = some o →
      exec .dnGrant s = .next (((s.onDelivery a fun d => { d with outstanding := some { o with phase := .onLine } }).onCmd
          fun c => { c with due := c.due.erase a }).onPort
        fun p => { p with dnTx := some ⟨.command a, cmdFrame (s.cmd.entries.get a).content.node o.tag o.value⟩ })) ∧
    (∀ a v, s.port.dnTx = none → s.cmd.offered = some a → (s.cmd.entries.get a).content.present = true →
      (s.port.ptq = [] ∨ s.mgmt.params.content.dnShare = 0 ∨ s.mgmt.params.content.dnShare ≤ s.port.dnShareCount) →
      (s.cmd.delivery.get a).outstanding = none → (s.cmd.delivery.get a).pendingValue = some v →
      exec .dnGrant s = .next (((s.onDelivery a fun d =>
          { d with pendingValue := none, outstanding := some ⟨s.cmd.tagCounter, v, 1, .onLine, false⟩ }).onCmd
          fun c => { c with cmq := c.cmq.erase a, tagCounter := c.tagCounter + 1 }).onPort
        fun p => { p with dnTx := some ⟨.command a, cmdFrame (s.cmd.entries.get a).content.node s.cmd.tagCounter v⟩ })) ∧
    (∀ a, s.port.dnTx = none → s.cmd.offered = some a → (s.cmd.entries.get a).content.present = false →
      (s.port.ptq = [] ∨ s.mgmt.params.content.dnShare = 0 ∨ s.mgmt.params.content.dnShare ≤ s.port.dnShareCount) →
      (s.cmd.cmq = [a] ∧ s.cmd.due = [] ∨ s.cmd.cmq = [] ∧ s.cmd.due = [a]) →
      ∃ t, exec .dnGrant s = .next t ∧
        t.cmd.delivery.get a = { s.cmd.delivery.get a with
          pendingValue := none, outstanding := none, ackTimer := none, lastAbandoned := none } ∧
        (∀ b, b ≠ a → t.cmd.delivery.get b = s.cmd.delivery.get b) ∧ t.cmd.cmq = [] ∧ t.cmd.due = [] ∧
        t.cmd.entries = s.cmd.entries ∧ t.cmd.halted = s.cmd.halted ∧ t.cmd.tagCounter = s.cmd.tagCounter ∧
        (s.mgmt.opState = .parking → (∀ b, b ≠ a → (s.cmd.delivery.get b).outstanding = none) →
          t.cmd.completion = true) ∧
        (s.mgmt.opState ≠ .parking ∨ (∃ b, b ≠ a ∧ (s.cmd.delivery.get b).outstanding ≠ none) →
          t.cmd.completion = s.cmd.completion) ∧
        t.port = { s.port with dnTx := s.port.ptq.head?.map fun f => ⟨.ptqHead, f⟩ } ∧
        { t with cmd := s.cmd, port := s.port } = s)) ∧
  (∀ (s : State) (a : Actuator), s.alive = true → s.port.dnTx = none → s.cmd.offered = some a →
    (s.port.ptq = [] ∨ s.mgmt.params.content.dnShare = 0 ∨ s.mgmt.params.content.dnShare ≤ s.port.dnShareCount) →
    let e := EntryId.actuator a
    (s.NewDamage e → (s.cmd.cmq = [a] ∧ s.cmd.due = [] ∨ s.cmd.cmq = [] ∧ s.cmd.due = [a]) →
      ∃ t, exec .dnGrant s = .next t ∧
        t.cmd.delivery.get a = { s.cmd.delivery.get a with
          pendingValue := none, outstanding := none, ackTimer := none, lastAbandoned := none } ∧
        (∀ b, b ≠ a → t.cmd.delivery.get b = s.cmd.delivery.get b) ∧ t.cmd.cmq = [] ∧ t.cmd.due = [] ∧
        t.cmd.entries = s.cmd.entries ∧ t.cmd.halted = s.cmd.halted ∧ t.cmd.tagCounter = s.cmd.tagCounter ∧
        t.cmd.completion = (s.cmd.completion || (s.mgmt.opState == .parking &&
          [Actuator.flap, .blower, .carbon, .demist].all fun b => b == a || (s.cmd.delivery.get b).outstanding.isNone)) ∧
        t.port.dnTx = s.port.ptq.head?.map (fun f => ⟨.ptqHead, f⟩) ∧
        s.RaisedFrom { t with port := { t.port with dnTx := none } } .tableFault (.entry e)
          s.mgmt.params.content.escalation ∧ s.Joined t e [] ∧
        { t with cmd := s.cmd, port := s.port, notice := s.notice, integ := s.integ, ctrl := s.ctrl } = s) ∧
    (s.NewDamage e → ∀ b v, s.cmd.due = [] → s.cmd.cmq = [a, b] → b ≠ a →
      (s.cmd.delivery.get b).outstanding = none → (s.cmd.delivery.get b).pendingValue = some v →
      (s.cmd.entries.get b).content.present = true →
      ∃ t, exec .dnGrant s = .next t ∧ (t.cmd.delivery.get a).pendingValue = none ∧ t.cmd.cmq = [] ∧
        t.port.dnTx =
          some ⟨.command b, cmdFrame (s.cmd.entries.get b).content.node s.cmd.tagCounter v⟩ ∧
        t.cmd.delivery.get b = { s.cmd.delivery.get b with
          pendingValue := none, outstanding := some ⟨s.cmd.tagCounter, v, 1, .onLine, false⟩ } ∧
        t.Raised .tableFault (.entry e) ∧ s.Joined t e []) ∧
    (s.ParamsGood → s.isFaulted e = false → (s.flips e).length = 1 → (s.cmd.entries.get a).content.present = true →
      ∀ v, s.cmd.due = [] → (s.cmd.delivery.get a).outstanding = none → (s.cmd.delivery.get a).pendingValue = some v →
      ∃ t, exec .dnGrant s = .next t ∧ t.flips e = [] ∧
        t.integ = { s.integ with corrected := min 65535 (s.integ.corrected + 1) } ∧
        s.RaisedFrom { t with port := { t.port with dnTx := none } } .tableCorrected (.entry e) 0 ∧
        t.cmd.delivery.get a = { s.cmd.delivery.get a with
          pendingValue := none, outstanding := some ⟨s.cmd.tagCounter, v, 1, .onLine, false⟩ } ∧
        t.port.dnTx =
          some ⟨.command a, cmdFrame (s.cmd.entries.get a).content.node s.cmd.tagCounter v⟩))

/-- The end of a DN transmission. PTQ's frame SENT leaves PTQ and the share counter rises, staying at 3; LOST leaves
it at the head. A command's frame SENT sets the share counter to 0; the command, if still ON_LINE, is WAITING with
ACK_TIMEOUT, and SENT or RESENT is given; LOST makes it DUE with its tag, value and attempts. A command completed or
dropped meanwhile forms nothing. With nothing on the line there is no end. -/
def Obligations.DnTransmissionEndsCountAndQueue : Prop :=
  ∀ (s : State) (f : Frame) (a : Actuator) (o : Outstanding), s.alive = true → s.Undamaged →
    (∀ e, s.port.dnTx = none → exec (.dnTransmissionEnd e) s = .next s) ∧
    (s.port.dnTx = some ⟨.ptqHead, f⟩ →
      exec (.dnTransmissionEnd .sent) s = .next (s.onPort fun p =>
        { p with dnTx := none, ptq := p.ptq.tail, dnShareCount := min 3 (p.dnShareCount + 1) }) ∧
      exec (.dnTransmissionEnd .lost) s = .next (s.onPort fun p => { p with dnTx := none })) ∧
    (s.port.dnTx = some ⟨.command a, f⟩ → (s.cmd.delivery.get a).outstanding = some o → o.phase = .onLine →
      exec (.dnTransmissionEnd .sent) s = .next (((s.onPort fun p => { p with dnTx := none, dnShareCount := 0 }).onDelivery a
        fun d => { d with outstanding := some { o with phase := .waiting },
                          ackTimer := some s.mgmt.params.content.ackTimeout }).count (if o.attempts = 1 then .sent else .resent)) ∧
      exec (.dnTransmissionEnd .lost) s = .next (((s.onPort fun p => { p with dnTx := none }).onDelivery a
        fun d => { d with outstanding := some { o with phase := .due }, ackTimer := none }).onCmd
        fun c => { c with due := c.due ++ [a] })) ∧
    (s.port.dnTx = some ⟨.command a, f⟩ → (s.cmd.delivery.get a).outstanding = none →
      exec (.dnTransmissionEnd .sent) s = .next (s.onPort fun p => { p with dnTx := none, dnShareCount := 0 }) ∧
      exec (.dnTransmissionEnd .lost) s = .next (s.onPort fun p => { p with dnTx := none }))

/-- The UP arbiter: RPQ's head alone or with the run counter below 4, else FWQ's head; nothing while a frame is on the
line or both queues are empty. The end of a UP transmission takes the frame off its queue and sets the run counter:
up by 1 for an RPQ frame granted while FWQ held one, 0 otherwise. A receiver that has seen its idle gap takes
frames. -/
def Obligations.UpArbiterAndReceiversFollowTheLine : Prop :=
  ∀ s : State, s.alive = true →
    (s.port.upTx.isSome = true ∨ (s.port.rpq = [] ∧ s.port.fwq = []) → exec .upGrant s = .next s) ∧
    (∀ f rest, s.port.upTx = none → s.port.rpq = f :: rest → (s.port.fwq = [] ∨ s.port.upRunCount < 4) →
      exec .upGrant s = .next (s.onPort fun p => { p with upTx := some ⟨.rpq, !s.port.fwq.isEmpty, f⟩ })) ∧
    (∀ f rest, s.port.upTx = none → s.port.fwq = f :: rest → (s.port.rpq = [] ∨ 4 ≤ s.port.upRunCount) →
      exec .upGrant s = .next (s.onPort fun p => { p with upTx := some ⟨.fwq, true, f⟩ })) ∧
    (s.port.upTx = none → exec .upTransmissionEnd s = .next s) ∧
    (∀ f, s.port.upTx = some ⟨.rpq, true, f⟩ → s.port.upRunCount < 4 →
      exec .upTransmissionEnd s = .next (s.onPort fun p =>
        { p with upTx := none, rpq := p.rpq.tail, upRunCount := p.upRunCount + 1 })) ∧
    (∀ f, s.port.upTx = some ⟨.rpq, false, f⟩ →
      exec .upTransmissionEnd s = .next (s.onPort fun p => { p with upTx := none, rpq := p.rpq.tail, upRunCount := 0 })) ∧
    (∀ f b, s.port.upTx = some ⟨.fwq, b, f⟩ →
      exec .upTransmissionEnd s = .next (s.onPort fun p => { p with upTx := none, fwq := p.fwq.tail, upRunCount := 0 })) ∧
    exec (.receiverIdle .up) s = .next (s.onPort fun p => { p with upRx := .taking }) ∧
    exec (.receiverIdle .dn) s = .next (s.onPort fun p => { p with dnRx := .taking })

/-! ### Requests: what is common to all -/

/-- A request on UP whose reply finds RPQ full is not executed: RQ_DROP is given and nothing else happens, save that a
gateway's frame stops the pre-clean. RESET of the gateway is not held back by a full RPQ; that another node's RESET,
which is refused, is held back is the model's reading (log entry 29, DEDUCED). In PARKED no request is executed. -/
def Obligations.RequestsWithoutReplyRoomAreDropped : Prop :=
  ∀ (i : Instr) (o : Origin) (s : State), i.origin? = some o → s.alive = true →
    (s.mgmt.opState = .parked → exec i s = .next s) ∧
    (s.mgmt.opState ≠ .parked → o.port = .up → o.broadcast = false → 8 ≤ s.port.rpq.length →
      (o.src = 0 → i ≠ .reset o → exec i s = .next (s.stopPreclean.count .rqDrop)) ∧
      (o.src ≠ 0 → exec i s = .next (s.count .rqDrop)))

/-- A request with a known code that arrives on UP from another source than the gateway has no class: it is refused
with REFUSED_CLASS, the reply addressed to its source with its TAG and code, and nothing else changes. A broadcast of
such a source changes nothing at all. On DN a request has a class only from PANEL_NODE, that not being 0; without one,
or a request the PANEL class may not use, it is refused in PTQ the same way, and at a full PTQ leaves RQ_DROP alone.
While the parameters entry is faulted no panel is known. -/
def Obligations.RequestsWithoutAClassAreRefused : Prop :=
  (∀ (i : Instr) (o : Origin) (n : Nat) (part : Fin 4) (args : List Byte) (s : State),
    requestForm i = some (o, n, part, args) → i.partOk = true → o.port = .up → o.src ≠ 0 → s.alive = true →
    s.mgmt.opState ≠ .parked →
    (o.broadcast = true → exec i s = .next s) ∧
    (o.broadcast = false → s.port.rpq.length < 8 →
      exec i s = .next (s.onPort fun p =>
        { p with rpq := p.rpq ++ [replyFrame o.src o.tag (codeByte n part) (plain .refusedClass)] }))) ∧
  (∀ (i : Instr) (src tag : Byte) (n : Nat) (part : Fin 4) (args : List Byte) (s : State),
    requestForm i = some (onDn src tag, n, part, args) → i.partOk = true → s.alive = true →
    s.mgmt.opState ≠ .parked →
    let node := s.mgmt.params.content.panelNode
    (s.isFaulted .params = true ∨ (s.ParamsGood ∧ (node = 0 ∨ src.toNat ≠ node)) ∨
        (s.ParamsGood ∧ n ∉ [1, 2, 21, 22, 23, 26]) →
      s.port.ptq.length < 8 →
      exec i s = .next (s.answeredDn src tag (codeByte n part) (plain .refusedClass))) ∧
    (s.isFaulted .params = true ∨ s.ParamsGood → 8 ≤ s.port.ptq.length → exec i s = .next (s.count .rqDrop)))

/-- A request that the operating state does not allow is refused with REFUSED_STATE and changes nothing; sent to every
node, it leaves no trace at all. In RUN these are WRITE_MAP, CLEAR_MAP, WRITE_SLOT, WRITE_RECOVERY, WRITE_ACTUATOR,
WRITE_PARAM of any parameter but PURGE_LENGTH and PURGE_GAP, and ENTER_RUN; in CONFIG ENTER_CONFIG, PURGE_START,
PURGE_STOP, OVERRIDE, CANCEL_OVERRIDE and PARK; in PARKING all but the eleven read requests and RESET. The panel's
OVERRIDE and CANCEL_OVERRIDE are refused in CONFIG and PARKING in PTQ. The pre-clean, which runs in RUN alone, is
stopped by any request of the gateway. -/
def Obligations.RequestsOutsideTheirStatesAreRefused : Prop :=
  (∀ (i : Instr) (tag : Byte) (n : Nat) (part : Fin 4) (args : List Byte) (s : State),
    let outside := (s.mgmt.opState = .parking ∧ n ∉ [1, 2, 3, 4, 9, 11, 13, 15, 23, 26, 29, 32]) ∨
      (s.mgmt.opState = .config ∧ n ∈ [17, 19, 20, 21, 22, 31]) ∨
      (s.mgmt.opState = .run ∧
        (n ∈ [5, 6, 7, 12, 14, 18] ∨ (n = 16 ∧ args.head? ≠ some 5 ∧ args.head? ≠ some 6)))
    outside →
      (requestForm i = some (gateway tag, n, part, args) → s.TakesRequest →
        exec i s = .next (s.answeredPlain tag (codeByte n part) .refusedState)) ∧
      (requestForm i = some (toEveryNode tag, n, part, args) → s.alive = true → exec i s = .next s.stopPreclean)) ∧
  (∀ (src tag flap blower : Byte) (duration : Word16) (s : State), s.TakesDnRequest →
    s.mgmt.params.content.panelNode ≠ 0 → src.toNat = s.mgmt.params.content.panelNode → s.mgmt.opState ≠ .run →
    exec (.override (onDn src tag) flap blower duration) s =
      .next (s.answeredDn src tag (codeByte 21 0) (plain .refusedState)) ∧
    exec (.cancelOverride (onDn src tag)) s = .next (s.answeredDn src tag (codeByte 22 0) (plain .refusedState)))

/-! ### Read requests -/

/-- READ_STATE, READ_HISTORY, READ_NOTICES, TALLY_READ and READ_FAULTS of the gateway answer DONE with what the
device holds, the reply's own place counted in RPQ's fill, and change nothing else, whatever damage the tables have:
they read no protected entry. An index out of range answers BAD_INDEX. Those of them that the panel may use answer it
in PTQ, TALLY_READ for a panel-readable tally alone. Sent to every node they leave nothing. The data are laid out as
R198 gives them, byte by byte. -/
def Obligations.UnprotectedReadsAnswerWhatIsHeld : Prop :=
  (∀ (s : State) (tag : Byte), s.TakesRequest →
    exec (.readState (gateway tag) 0) s = .next (s.answered tag (codeByte 1 0) (done (stateBytes0 s))) ∧
    exec (.readState (gateway tag) 1) s = .next (s.answered tag (codeByte 1 1) (done (stateBytes1 s))) ∧
    exec (.readState (gateway tag) 2) s =
      .next (s.answered tag (codeByte 1 2) (done (stateBytes2 (s.answeredPlain tag 0 .done)))) ∧
    (∀ (b : Byte) (i : Fin 32), b.toNat = i.val →
      exec (.readHistory (gateway tag) b) s =
        .next (s.answered tag (codeByte 3 0) (done (historyBytes s.quantity.slots[i].history)))) ∧
    (∀ b : Byte, 32 ≤ b.toNat →
      exec (.readHistory (gateway tag) b) s = .next (s.answeredPlain tag (codeByte 3 0) .badIndex)) ∧
    (∀ part, exec (.readNotices (gateway tag) part) s =
      .next (s.answered tag (codeByte 23 part) (done (noticeBytes s.notice part)))) ∧
    (∀ (b : Byte) (i : Fin 4), b.toNat = i.val →
      exec (.tallyRead (gateway tag) b) s =
        .next (s.answered tag (codeByte 26 0) (done (tallyBytes s.tally.tallies[i])))) ∧
    (∀ b : Byte, 4 ≤ b.toNat →
      exec (.tallyRead (gateway tag) b) s = .next (s.answeredPlain tag (codeByte 26 0) .badIndex)) ∧
    exec (.readFaults (gateway tag)) s = .next (s.answered tag (codeByte 29 0) (done (faultsBytes s.integ)))) ∧
  (∀ (s : State) (src tag : Byte), s.TakesDnRequest → s.mgmt.params.content.panelNode ≠ 0 →
    src.toNat = s.mgmt.params.content.panelNode →
    exec (.readState (onDn src tag) 0) s = .next (s.answeredDn src tag (codeByte 1 0) (done (stateBytes0 s))) ∧
    exec (.readState (onDn src tag) 1) s = .next (s.answeredDn src tag (codeByte 1 1) (done (stateBytes1 s))) ∧
    exec (.readState (onDn src tag) 2) s =
      .next (s.answeredDn src tag (codeByte 1 2) (done (stateBytes2 (s.answeredDn src tag 0 (plain .done))))) ∧
    (∀ part, exec (.readNotices (onDn src tag) part) s =
      .next (s.answeredDn src tag (codeByte 23 part) (done (noticeBytes s.notice part)))) ∧
    (∀ (b : Byte) (i : Fin 4), b.toNat = i.val →
      exec (.tallyRead (onDn src tag) b) s = .next (s.answeredDn src tag (codeByte 26 0)
        (if s.tally.tallies[i].panelReadable then done (tallyBytes s.tally.tallies[i]) else plain .refusedClass))) ∧
    (∀ b : Byte, 4 ≤ b.toNat →
      exec (.tallyRead (onDn src tag) b) s = .next (s.answeredDn src tag (codeByte 26 0) (plain .badIndex)))) ∧
  (∀ (s : State) (tag b : Byte) (part : Fin 4), s.alive = true → s.mgmt.opState ≠ .parked →
    exec (.readState (toEveryNode tag) part) s = .next s.stopPreclean ∧
    exec (.readHistory (toEveryNode tag) b) s = .next s.stopPreclean ∧
    exec (.readNotices (toEveryNode tag) part) s = .next s.stopPreclean ∧
    exec (.tallyRead (toEveryNode tag) b) s = .next s.stopPreclean ∧
    exec (.readFaults (toEveryNode tag)) s = .next s.stopPreclean) ∧
  (∀ s : State,
    let two := fun n : Nat => [byteOf (n / 256), byteOf n]
    let secs := fun t : Option Nat => match t with
      | none => 0
      | some ms => (ms + 999) / 1000
    let timer := fun t : Option Nat => byteOf t.isSome.toNat :: two (secs t)
    let c := s.ctrl.conditions
    stateBytes0 s =
      [byteOf s.mgmt.opState.code, byteOf s.ctrl.mode.code,
        byteOf (c.dirtyOut.toNat + 2 * c.severe.toNat + 4 * c.stuffy.toNat + 8 * c.co2High.toNat + 16 * c.fog.toNat +
          32 * c.dirtyIn.toNat + 64 * c.clogged.toNat),
        byteOf (s.ctrl.causes.tableFault.toNat + 2 * s.ctrl.causes.inputLost.toNat), byteOf s.park.startCause.code,
        byteOf ((s.timer.doors.get .door1).isOpen.toNat + 2 * (s.timer.doors.get .door2).isOpen.toNat)] ++
        two s.timer.measurement.value ++ [byteOf s.timer.measurement.counting.toNat, byteOf s.cmd.halted.toNat] ∧
    stateBytes1 s = timer s.timer.purge ++ timer s.timer.gap ++ timer s.timer.recovery ++
      timer s.timer.overrideTimer ++ [byteOf s.timer.purgeCount] ++
      (match s.timer.overrideRecord with
        | none => [0, 0, 0, 0, 0, 0]
        | some r => [1, byteOf r.flap.code, byteOf r.blower] ++ two r.duration ++ [byteOf r.origin.code]) ∧
    (∃ p e, stateBytes2 s =
        [byteOf s.port.ptq.length, byteOf s.port.fwq.length, byteOf s.port.rpq.length, byteOf s.port.dnShareCount,
          byteOf s.port.upRunCount, byteOf s.integ.faultList.length] ++ two s.integ.corrected ++ two p ++ two e ∧
      p < 2 ^ 14 ∧ e < 2 ^ 14 ∧ ∀ k, p.testBit k.index.val = (s.noticeRecord k).pending ∧
        e.testBit k.index.val = (s.noticeRecord k).escalated) ∧
    (∀ h : List Int, historyBytes h = byteOf h.length :: h.flatMap fun v => two (v % 65536).toNat) ∧
    (∀ t : Tally, let v := t.value.toNat
      tallyBytes t = [byteOf (v / 2 ^ 24), byteOf (v / 2 ^ 16), byteOf (v / 2 ^ 8), byteOf v,
        byteOf t.overflow.toNat, byteOf t.group.code, t.mask] ++ two t.filter.toNat ++
        [byteOf (t.notify.toNat + 2 * t.panelReadable.toNat)]) ∧
    faultsBytes s.integ = [byteOf s.integ.faultList.length] ++
      (s.integ.faultList.flatMap fun e => [byteOf e.tableCode, byteOf e.tableIndex]) ++ two s.integ.corrected ++
      [byteOf s.integ.scrubPos.val, byteOf s.integ.scrubTimer.isSome.toNat] ∧
    (let r := fun k : NoticeKind => let x := s.noticeRecord k;
        [byteOf (x.pending.toNat + 2 * x.masked.toNat + 4 * x.escalated.toNat + 8 * x.escalationTimer.isSome.toNat +
            16 * x.detail.isSome.toNat), byteOf x.count] ++
          (match x.detail with
            | none => [0, 0]
            | some d => d.bytes) ++ [byteOf (secs x.escalationTimer)];
      noticeBytes s.notice 0 = r .start ++ r .modeChange ++ r .inputSuspect ++ r .inputLost ∧
      noticeBytes s.notice 1 = r .actuatorSilent ++ r .actuatorFault ++ r .co2Unresolved ++ r .filterClogged ∧
      noticeBytes s.notice 2 = r .overrideCancelled ++ r .commandsHalted ++ r .queueDrop ++ r .tallyOverflow ∧
      noticeBytes s.notice 3 = r .tableCorrected ++ r .tableFault ++
        [s.notice.tagCounter, byteOf s.notice.airLamp.pattern.code, byteOf s.notice.serviceLamp.pattern.code]))

/-- READ_SLOT, READ_MAP, READ_MODE, READ_RECOVERY, READ_ACTUATOR and READ_PARAM of the gateway, no entry damaged,
answer DONE with the entry as it stands and its faulted flag clear, and change nothing else; SAFE and PARK answer
their fixed targets; an index out of range answers BAD_INDEX. READ_SLOT answers the panel the same in PTQ. A faulted
entry shows its power-on content with the flag set, a faulted record the SAFE targets; the dynamic fields show as they
are, but for a slot's status: it is FAULT, also after an emptying (log entry 26, DEDUCED); nothing else changes. The data,
and the codes and sets in them, are those of R196, R198 and R199, byte by byte. A read that finds new damage: READ_MAP,
READ_ACTUATOR and READ_PARAM answer the corrected entry, with TABLE_CORRECTED behind the reply, or the power-on
content of the entry just faulted, with TABLE_FAULT behind it and the first fault reported; a faulted actuator's
delivery is dropped; the ninth fault wipes the tables, waiting reports and hand-overs too (log entry 7, DEDUCED), and
gives no reply. -/
def Obligations.ProtectedReadsAnswerTheGoodEntry : Prop :=
  (∀ (s : State) (tag b : Byte), s.TakesRequest → s.Undamaged →
    (∀ i : Fin 32, b.toNat = i.val →
      exec (.readSlot (gateway tag) 0 b) s = .next (s.answered tag (codeByte 2 0)
        (done (slotBytes0 s.quantity.setups[i].content false s.quantity.slots[i]))) ∧
      exec (.readSlot (gateway tag) 1 b) s = .next (s.answered tag (codeByte 2 1)
        (done (slotBytes1 s.quantity.setups[i].content false)))) ∧
    (32 ≤ b.toNat → exec (.readSlot (gateway tag) 0 b) s = .next (s.answeredPlain tag (codeByte 2 0) .badIndex)) ∧
    (∀ i : Fin 64, b.toNat = i.val →
      exec (.readMap (gateway tag) b) s = .next (s.answered tag (codeByte 4 0)
        (done (mapBytes s.intake.map[i].content s.intake.dyn[i] false)))) ∧
    (64 ≤ b.toNat → exec (.readMap (gateway tag) b) s = .next (s.answeredPlain tag (codeByte 4 0) .badIndex)) ∧
    (∀ i : Fin 7, b.toNat = i.val →
      exec (.readMode (gateway tag) b) s = .next (s.answered tag (codeByte 9 0)
        (done (modeBytes s.ctrl.records[i].content)))) ∧
    (b = 7 → exec (.readMode (gateway tag) b) s = .next (s.answered tag (codeByte 9 0) (done [20, 8, 1, 1]))) ∧
    (b = 8 → exec (.readMode (gateway tag) b) s = .next (s.answered tag (codeByte 9 0) (done [0, 0, 0, 0]))) ∧
    (9 ≤ b.toNat → exec (.readMode (gateway tag) b) s = .next (s.answeredPlain tag (codeByte 9 0) .badIndex)) ∧
    (∀ i : Fin 4, b.toNat = i.val →
      exec (.readRecovery (gateway tag) b) s = .next (s.answered tag (codeByte 11 0)
        (done (recoveryBytes s.timer.bins[i].content false)))) ∧
    (4 ≤ b.toNat → exec (.readRecovery (gateway tag) b) s = .next (s.answeredPlain tag (codeByte 11 0) .badIndex)) ∧
    (∀ a : Actuator, b.toNat = a.index →
      exec (.readActuator (gateway tag) b) s = .next (s.answered tag (codeByte 13 0)
        (done (actuatorBytes (s.cmd.entries.get a).content false (s.cmd.delivery.get a) s.cmd a)))) ∧
    (4 ≤ b.toNat → exec (.readActuator (gateway tag) b) s = .next (s.answeredPlain tag (codeByte 13 0) .badIndex)) ∧
    (b.toNat < 22 →
      exec (.readParam (gateway tag) b) s = .next (s.answered tag (codeByte 15 0)
        (done (paramBytes (s.mgmt.params.content.value b.toNat) false)))) ∧
    (22 ≤ b.toNat → exec (.readParam (gateway tag) b) s = .next (s.answeredPlain tag (codeByte 15 0) .badIndex))) ∧
  (∀ (s : State) (src tag b : Byte) (i : Fin 32), s.TakesDnRequest → s.Undamaged →
    s.mgmt.params.content.panelNode ≠ 0 → src.toNat = s.mgmt.params.content.panelNode → b.toNat = i.val →
    exec (.readSlot (onDn src tag) 0 b) s = .next (s.answeredDn src tag (codeByte 2 0)
      (done (slotBytes0 s.quantity.setups[i].content false s.quantity.slots[i]))) ∧
    exec (.readSlot (onDn src tag) 1 b) s = .next (s.answeredDn src tag (codeByte 2 1)
      (done (slotBytes1 s.quantity.setups[i].content false)))) ∧
  (∀ (s : State) (tag b : Byte), s.TakesRequest →
    (∀ i : Fin 32, b.toNat = i.val → s.isFaulted (.slotSetup i) = true →
      let shown : SlotSetup := ⟨.unused, -32768, 32767, 0, 10, .none, ⟨.off, 0, 0, 1⟩, ⟨.off, 0, 0, 1⟩⟩
      exec (.readSlot (gateway tag) 0 b) s = .next (s.answered tag (codeByte 2 0)
        (done (slotBytes0 shown true { s.quantity.slots[i] with status := .fault }))) ∧
      exec (.readSlot (gateway tag) 1 b) s = .next (s.answered tag (codeByte 2 1) (done (slotBytes1 shown true)))) ∧
    (∀ i : Fin 64, b.toNat = i.val → s.isFaulted (.channelMap i) = true →
      exec (.readMap (gateway tag) b) s = .next (s.answered tag (codeByte 4 0)
        (done (mapBytes ⟨false, 0, 0, 0, 256, 0, .drop⟩ s.intake.dyn[i] true)))) ∧
    (∀ i : Fin 7, b.toNat = i.val → s.isFaulted (.modeRecord i) = true →
      exec (.readMode (gateway tag) b) s = .next (s.answered tag (codeByte 9 0) (done [20, 8, 1, 1]))) ∧
    (∀ i : Fin 4, b.toNat = i.val → s.isFaulted (.recovery i) = true →
      exec (.readRecovery (gateway tag) b) s = .next (s.answered tag (codeByte 11 0) (done [0, 0, 0, 0, 1]))) ∧
    (∀ a : Actuator, b.toNat = a.index → s.isFaulted (.actuator a) = true →
      exec (.readActuator (gateway tag) b) s = .next (s.answered tag (codeByte 13 0)
        (done (actuatorBytes ⟨false, 0⟩ true (s.cmd.delivery.get a) s.cmd a)))) ∧
    (b.toNat < 22 → s.isFaulted .params = true →
      exec (.readParam (gateway tag) b) s = .next (s.answered tag (codeByte 15 0)
        (done (paramBytes (State.reset.mgmt.params.content.value b.toNat) true))))) ∧
  (let two := fun n : Nat => [byteOf (n / 256), byteOf n]
    let signed := fun v : Int => two (v % 65536).toNat
    let comp := fun c : CompState => byteOf (16 * c.isSet.toNat + c.progress)
    let setup := fun c : CompSetup => [byteOf c.direction.code] ++ signed c.set ++ signed c.clear ++ [byteOf c.confirm]
    (∀ (c : SlotSetup) (x : Bool) (sl : Slot),
      slotBytes0 c x sl = [byteOf c.kind.code] ++ signed c.min ++ signed c.max ++ two c.step ++
        [byteOf c.stale, byteOf c.smoothing.code, byteOf x.toNat, byteOf sl.status.code] ++
        (match sl.value with
          | none => [0, 0, 0]
          | some v => 1 :: signed v) ++ [byteOf sl.age] ++
        (match sl.pendingJump with
          | none => [0, 0, 0]
          | some v => 1 :: signed v) ++
        [byteOf sl.rejects, comp sl.compA, comp sl.compB, byteOf sl.history.length] ∧
      slotBytes1 c x = setup c.compA ++ setup c.compB ++ [byteOf x.toNat]) ∧
    (∀ (c : MapContent) (d : MapDyn) (x : Bool),
      mapBytes c d x = [byteOf c.valid.toNat, byteOf c.source, byteOf c.channel, byteOf c.slot.val] ++
        signed c.gain ++ signed c.offset ++
        (match c.rule with
          | .drop => [0, 0]
          | .pass => [1, 0]
          | .thin k => [2, byteOf k]) ++ [byteOf d.thin] ++
        (match d.lastTag with
          | none => [0, 0]
          | some t => [1, t]) ++ [byteOf x.toNat]) ∧
    (∀ r : ModeRecord, modeBytes r = [byteOf r.flap, byteOf r.blower, byteOf r.carbon.toNat, byteOf r.demist.toNat]) ∧
    (∀ (r : RecoveryBin) (x : Bool), recoveryBytes r x = two r.threshold ++ two r.length ++ [byteOf x.toNat]) ∧
    (∀ (e : ActuatorEntry) (x : Bool) (d : Delivery) (c : CommandEngine) (a : Actuator),
      actuatorBytes e x d c a = [byteOf e.present.toNat, byteOf e.node, byteOf x.toNat] ++
        (match d.target with
          | none => [0, 0]
          | some v => [1, byteOf v]) ++
        (match d.pendingValue with
          | none => [0, 0]
          | some v => [1, byteOf v]) ++
        [byteOf (match c.cmq.idxOf? a with
          | none => 0
          | some n => n + 1)] ++
        (match d.outstanding with
          | none => [0, 0, 0, 0, 0, 0]
          | some o => [1, o.tag, byteOf o.value, byteOf o.attempts, byteOf o.phase.code, byteOf o.persisting.toNat]) ++
        (match d.reported with
          | none => [0, 0, 0]
          | some r => [1, byteOf r.position, byteOf r.status.code]) ++ [byteOf d.failed.toNat] ++
        (match d.lastAbandoned with
          | none => [0, 0]
          | some t => [1, t]) ++ [byteOf c.halted.toNat, c.tagCounter]) ∧
    (∀ (v : Nat) (x : Bool), paramBytes v x = two v ++ [byteOf x.toNat]) ∧
    (∀ p : Params, (List.range 22).map p.value = [p.windowBase, p.windowSize,
      if p.unmappedAction = .pass then 0 else 1, p.panelNode, p.dnShare, p.purgeLength, p.purgeGap, p.purgeLimit,
      p.severeStop.toNat, p.dirtyInBoost, p.modeEnable.toNat, p.criticalRoles.toNat, p.ackTimeout, p.retryLimit,
      if p.timeoutAction = .abandon then 0 else 1, if p.failurePolicy = .continue_ then 0 else 1, p.escalation,
      p.scrubInterval, if p.door1Debounce = .short then 0 else 1, if p.door2Debounce = .short then 0 else 1,
      p.doorWake.toNat, p.precleanLength])) ∧
  ([OpState.config, .run, .parking, .parked].map (·.code) = [0, 1, 2, 3] ∧
    [Mode.fresh, .shield, .purge, .door, .recover, .demist, .manual, .safe, .park].map (·.code) = List.range 9 ∧
    [SlotKind.unused, .monitor, .role .outPm, .role .outGas, .role .cabPm, .role .cabCo2, .role .cabRh,
      .role .filterDp].map (·.code) = List.range 8 ∧
    [Role.outPm, .outGas, .cabPm, .cabCo2, .cabRh, .filterDp].map (·.bit) = List.range 6 ∧
    [StartCause.powerOn, .linkReset, .tableWipe, .wakeDoor, .wakeLink, .wakeTimer].map (·.code) = List.range 6 ∧
    [Direction.off, .above, .below].map (·.code) = [0, 1, 2] ∧ [Smoothing.none, .median3].map (·.code) = [0, 1] ∧
    [SlotStatus.empty, .fresh, .suspect, .stale, .fault].map (·.code) = List.range 5 ∧
    [FlapChoice.fresh, .recirc].map (·.code) = [0, 1] ∧ [OriginClass.gateway, .panel].map (·.code) = [0, 1] ∧
    [Phase.due, .onLine, .waiting].map (·.code) = [0, 1, 2] ∧
    [AckStatus.done, .moving, .jammed, .overheat].map (·.code) = List.range 4 ∧
    [LampPattern.off, .on, .slow, .fast, .double].map (·.code) = List.range 5 ∧
    [TallyGroup.off, .samples, .modeTime, .commands, .dose, .doors, .frames].map (·.code) = List.range 7 ∧
    NoticeKind.all.map (·.index.val) = List.range 14 ∧
    [RunCheck.noOutPm, .noCabCo2, .mapToUnused, .noFlap, .noBlower, .faultsPresent].map (·.code) = [1, 2, 3, 4, 5, 6] ∧
    (∀ (i : Fin 64) (j : Fin 32) (k : Fin 7) (l : Fin 4) (a : Actuator),
      [EntryId.channelMap i, .slotSetup j, .modeRecord k, .recovery l, .actuator a, .params].map
        (fun e => (e.tableCode, e.tableIndex)) = [(0, i.val), (1, j.val), (2, k.val), (3, l.val), (4, a.index), (5, 0)]) ∧
    [Actuator.flap, .blower, .carbon, .demist].map (·.index) = List.range 4) ∧
  (∀ (s : State) (tag b : Byte), s.TakesRequest →
    let p := s.mgmt.params.content
    (∀ i : Fin 64, b.toNat = i.val → s.ParamsGood → s.isFaulted (.channelMap i) = false →
      let e := EntryId.channelMap i
      let code := codeByte 4 0
      ((s.flips e).length = 1 →
        ∃ t, exec (.readMap (gateway tag) b) s = .next t ∧ t.flips e = [] ∧
          (s.answered tag code (done (mapBytes s.intake.map[i].content s.intake.dyn[i] false))).RaisedFrom t
            .tableCorrected (.entry e) 0 ∧
          t.integ = { s.integ with corrected := min 65535 (s.integ.corrected + 1) } ∧
          { t.setFlips e (s.flips e) with notice := s.notice, port := s.port, integ := s.integ } = s.stopPreclean) ∧
      (2 ≤ (s.flips e).length → s.integ.faultList.length < 8 →
        ∃ t, exec (.readMap (gateway tag) b) s = .next t ∧
          (s.answered tag code (done (mapBytes ⟨false, 0, 0, 0, 256, 0, .drop⟩ s.intake.dyn[i] true))).RaisedFrom t
            .tableFault (.entry e) p.escalation ∧ s.Joined t e [] ∧
          { t with notice := s.notice, port := s.port, integ := s.integ, ctrl := s.ctrl } = s.stopPreclean) ∧
      (2 ≤ (s.flips e).length → 8 ≤ s.integ.faultList.length →
        ∃ t, exec (.readMap (gateway tag) b) s = .next t ∧ s.Wiped t)) ∧
    (∀ a : Actuator, b.toNat = a.index → s.NewDamage (.actuator a) →
      let d := { s.cmd.delivery.get a with
        pendingValue := none, outstanding := none, ackTimer := none, lastAbandoned := none }
      ∃ t, exec (.readActuator (gateway tag) b) s = .next t ∧
        t.cmd = { s.cmd with
          delivery := s.cmd.delivery.set a d
          cmq := s.cmd.cmq.erase a
          due := s.cmd.due.erase a
          completion := t.cmd.completion } ∧
        (s.answered tag (codeByte 13 0) (done (actuatorBytes ⟨false, 0⟩ true d t.cmd a))).RaisedFrom t
          .tableFault (.entry (.actuator a)) p.escalation ∧ s.Joined t (.actuator a) [] ∧
        { t with cmd := s.cmd, notice := s.notice, port := s.port, integ := s.integ, ctrl := s.ctrl } =
          s.stopPreclean) ∧
    (b.toNat < 22 → s.isFaulted .params = false →
      ((s.flips .params).length = 1 →
        ∃ t, exec (.readParam (gateway tag) b) s = .next t ∧ t.mgmt.params = ⟨p, []⟩ ∧
          (s.answered tag (codeByte 15 0) (done (paramBytes (p.value b.toNat) false))).RaisedFrom t
            .tableCorrected (.entry .params) 0 ∧
          t.integ = { s.integ with corrected := min 65535 (s.integ.corrected + 1) }) ∧
      (2 ≤ (s.flips .params).length → s.integ.faultList.length < 8 →
        ∃ t, exec (.readParam (gateway tag) b) s = .next t ∧ t.mgmt = s.mgmt ∧
          (s.answered tag (codeByte 15 0)
            (done (paramBytes (State.reset.mgmt.params.content.value b.toNat) true))).RaisedFrom t
            .tableFault (.entry .params) 60 ∧ s.Joined t .params [])))

/-! ### Writes of the tables -/

/-- WRITE_MAP in CONFIG with every field in range, no other entry newly damaged: refused with DUPLICATE_KEY, changing
nothing, when another valid, unfaulted entry has the key; else the entry, good, damaged or faulted, takes the content
with valid yes and no damage, its thin counter becomes 0 and its last tag absent, it leaves the Fault List, an emptied
list being reported, DONE is replied and nothing else changes. CLEAR_MAP in CONFIG gives the entry its power-on content
the same way. Outside 0 to 63 both answer BAD_INDEX. -/
def Obligations.MapWritesStoreTheEntry : Prop :=
  ∀ (s : State) (tag entry source channel slot : Byte) (gain offset : Word16) (rule k : Byte) (fr : ForwardRule),
    s.TakesRequest → s.mgmt.opState = .config →
    (∀ (i : Fin 64) (sl : Fin 32), entry.toNat = i.val → slot.toNat = sl.val → source.toNat ≤ 62 →
      channel.toNat ≤ 15 → (∀ e, e ≠ .channelMap i → s.isFaulted e = false → s.flips e = []) →
      ((rule = 0 ∧ fr = .drop) ∨ (rule = 1 ∧ fr = .pass) ∨
        (rule = 2 ∧ 2 ≤ k.toNat ∧ k.toNat ≤ 16 ∧ fr = .thin k.toNat)) →
      let holds := fun j : Fin 64 => j ≠ i ∧ s.isFaulted (.channelMap j) = false ∧
        s.intake.map[j].content.valid = true ∧ s.intake.map[j].content.source = source.toNat ∧
        s.intake.map[j].content.channel = channel.toNat
      ((∃ j, holds j) →
        exec (.writeMap (gateway tag) entry source channel slot gain offset rule k) s =
          .next (s.answeredPlain tag (codeByte 5 0) .duplicateKey)) ∧
      ((∀ j, ¬holds j) →
        ∃ t, exec (.writeMap (gateway tag) entry source channel slot gain offset rule k) s = .next t ∧
          t.intake.map = s.intake.map.set i ⟨⟨true, source.toNat, channel.toNat, sl, gain.toInt, offset.toInt, fr⟩, []⟩ ∧
          t.intake.dyn = s.intake.dyn.set i ⟨0, none⟩ ∧
          t.integ = { s.integ with faultList := s.integ.faultList.erase (.channelMap i) } ∧
          t.ctrl = { s.ctrl with reports := s.ctrl.reports ++
            (if s.integ.faultList = [.channelMap i] then [.faultList false] else []) } ∧
          { t with intake := s.intake, integ := s.integ, ctrl := s.ctrl } =
            s.answeredPlain tag (codeByte 5 0) .done)) ∧
    (∀ i : Fin 64, entry.toNat = i.val →
      ∃ t, exec (.clearMap (gateway tag) entry) s = .next t ∧
        t.intake.map = s.intake.map.set i ⟨⟨false, 0, 0, 0, 256, 0, .drop⟩, []⟩ ∧
        t.intake.dyn = s.intake.dyn.set i ⟨0, none⟩ ∧
        t.integ = { s.integ with faultList := s.integ.faultList.erase (.channelMap i) } ∧
        t.ctrl = { s.ctrl with reports := s.ctrl.reports ++
          (if s.integ.faultList = [.channelMap i] then [.faultList false] else []) } ∧
        { t with intake := s.intake, integ := s.integ, ctrl := s.ctrl } =
          s.answeredPlain tag (codeByte 6 0) .done) ∧
    (64 ≤ entry.toNat →
      exec (.writeMap (gateway tag) entry source channel slot gain offset rule k) s =
        .next (s.answeredPlain tag (codeByte 5 0) .badIndex) ∧
      exec (.clearMap (gateway tag) entry) s = .next (s.answeredPlain tag (codeByte 6 0) .badIndex))

/-- WRITE_SLOT in CONFIG with every field in range: refused with DUPLICATE_ROLE, changing nothing, when another slot holds
the role; else the setup is stored without damage, the slot is emptied with its stale timer running unless the kind is
UNUSED, the role binding list follows within the request (the model's reading: log entry 20, DEDUCED), the slot's report
goes to the Controller and DONE is replied. The comparator setups are kept, of a setup damaged in one place after
TABLE_CORRECTED, and of a faulted setup take their power-on values; a faulted setup leaves the Fault List, an emptied
list being reported. A setup found faulted by the request's own read raises TABLE_FAULT and, if a role names the slot
and it was not FAULT, INPUT_LOST, with their reports, and is rewritten as a faulted one. Nothing else changes. -/
def Obligations.WriteSlotStoresAndEmptiesTheSlot : Prop :=
  ∀ (s : State) (tag slot kind : Byte) (lo hi step : Word16) (stale smoothing : Byte) (i : Fin 32) (k : SlotKind)
    (sm : Smoothing),
    s.TakesRequest → s.mgmt.opState = .config → slot.toNat = i.val →
    SlotKind.ofCode kind.toNat = some k → Smoothing.ofCode smoothing.toNat = some sm → lo.toInt ≤ hi.toInt →
    step.toNat ≤ 32767 → 1 ≤ stale.toNat →
    let write := exec (.writeSlot (gateway tag) slot kind lo hi step stale smoothing) s
    let answered := s.answeredPlain tag (codeByte 7 0) .done
    let e := EntryId.slotSetup i
    let l := s.integ.faultList
    let sl := s.quantity.slots[i]
    let c := s.quantity.setups[i].content
    let off : CompSetup := ⟨.off, 0, 0, 1⟩
    let elsewhere := ∃ r j, k = .role r ∧ s.ctrl.bindings.get r = some j ∧ j ≠ i
    let stored := fun (a b : CompSetup) (reports : List Report) (t : State) =>
      t.quantity.setups = s.quantity.setups.set i
        ⟨⟨k, lo.toInt, hi.toInt, step.toNat, stale.toNat, sm, a, b⟩, []⟩ ∧
      t.quantity.slots = s.quantity.slots.set i
        ⟨.empty, none, 0, 0, if k = .unused then none else some (stale.toNat * 1000), [], none, 0, ⟨false, 0⟩,
          ⟨false, 0⟩⟩ ∧
      (∀ r, t.ctrl.bindings.get r =
        if k = .role r then some i else if s.ctrl.bindings.get r = some i then none else s.ctrl.bindings.get r) ∧
      t.ctrl = { s.ctrl with
        bindings := t.ctrl.bindings
        reports := s.ctrl.reports ++ reports ++ [.slot i ⟨.empty, false, false⟩] }
    (elsewhere → write = .next (s.answeredPlain tag (codeByte 7 0) .duplicateRole)) ∧
    (¬elsewhere → s.isFaulted e = true →
      ∃ t, write = .next t ∧ stored off off (if l = [e] then [.faultList false] else []) t ∧
        t.integ = { s.integ with faultList := l.erase e } ∧
        { t with quantity := s.quantity, integ := s.integ, ctrl := s.ctrl } = answered) ∧
    (¬elsewhere → s.isFaulted e = false → s.flips e = [] →
      ∃ t, write = .next t ∧ stored c.compA c.compB [] t ∧
        { t with quantity := s.quantity, ctrl := s.ctrl } = answered) ∧
    (¬elsewhere → s.isFaulted e = false → (s.flips e).length = 1 →
      ∃ t, write = .next t ∧ stored c.compA c.compB [] t ∧
        t.integ = { s.integ with corrected := min 65535 (s.integ.corrected + 1) } ∧
        answered.RaisedFrom t .tableCorrected (.entry e) 0 ∧
        { t with quantity := s.quantity, integ := s.integ, ctrl := s.ctrl, notice := s.notice, port := s.port } =
          s.stopPreclean) ∧
    (¬elsewhere → s.isFaulted e = false → 2 ≤ (s.flips e).length → l.length < 8 → s.ParamsGood →
      ∃ t, write = .next t ∧ t.integ = s.integ ∧
        stored off off ([.setupFaulted i] ++ (if l = [] then [.faultList true] else []) ++
          (if sl.status = .fault then [] else [.slot i ⟨.fault, sl.compA.isSet, sl.compB.isSet⟩]) ++
          (if l = [] then [.faultList false] else [])) t ∧
        (∃ n p, let told := { answered with notice := n, port := p }
          let lost := sl.status ≠ .fault ∧ ∃ r, s.ctrl.bindings.get r = some i
          answered.RaisedFrom told .tableFault (.entry e) s.mgmt.params.content.escalation ∧
            (lost → told.RaisedFrom t .inputLost (.slot i) s.mgmt.params.content.escalation) ∧
            (¬lost → t.notice = n ∧ t.port = p)) ∧
        { t with quantity := s.quantity, ctrl := s.ctrl, notice := s.notice, port := s.port } = s.stopPreclean)

/-- WRITE_COMPARATOR in CONFIG or RUN with every field in range, no entry damaged: the named comparator's setup is
stored with the rest of the entry; with direction ABOVE or BELOW its state is kept and its progress becomes 0; with
OFF it becomes CLEAR with progress 0, and the slot is reported if it was SET. DONE is replied and nothing else
changes. A comparator other than A or B answers BAD_INDEX. -/
def Obligations.WriteComparatorStoresTheSetup : Prop :=
  ∀ (s : State) (tag slot direction : Byte) (set clear : Word16) (confirm : Byte) (i : Fin 32) (d : Direction),
    s.TakesRequest → (s.mgmt.opState = .config ∨ s.mgmt.opState = .run) → s.Undamaged → slot.toNat = i.val →
    Direction.ofCode direction.toNat = some d → 1 ≤ confirm.toNat → confirm.toNat ≤ 15 →
    (d = .above → clear.toInt ≤ set.toInt) → (d = .below → set.toInt ≤ clear.toInt) →
    let c : CompSetup := ⟨d, set.toInt, clear.toInt, confirm.toNat⟩
    let st : CompState → CompState := fun x => ⟨if d = .off then false else x.isSet, 0⟩
    (∃ t, exec (.writeComparator (gateway tag) slot 0 direction set clear confirm) s = .next t ∧
      t.quantity.setups = s.quantity.setups.set i ⟨{ s.quantity.setups[i].content with compA := c }, []⟩ ∧
      t.quantity.slots = s.quantity.slots.set i
        { s.quantity.slots[i] with compA := st s.quantity.slots[i].compA } ∧
      t.ctrl = { s.ctrl with reports := s.ctrl.reports ++
        (if d = .off ∧ s.quantity.slots[i].compA.isSet = true then [.slot i t.quantity.slots[i].view] else []) } ∧
      { t with quantity := s.quantity, ctrl := s.ctrl } = s.answeredPlain tag (codeByte 8 0) .done) ∧
    (∃ t, exec (.writeComparator (gateway tag) slot 1 direction set clear confirm) s = .next t ∧
      t.quantity.setups = s.quantity.setups.set i ⟨{ s.quantity.setups[i].content with compB := c }, []⟩ ∧
      t.quantity.slots = s.quantity.slots.set i
        { s.quantity.slots[i] with compB := st s.quantity.slots[i].compB } ∧
      t.ctrl = { s.ctrl with reports := s.ctrl.reports ++
        (if d = .off ∧ s.quantity.slots[i].compB.isSet = true then [.slot i t.quantity.slots[i].view] else []) } ∧
      { t with quantity := s.quantity, ctrl := s.ctrl } = s.answeredPlain tag (codeByte 8 0) .done) ∧
    (∀ comparator : Byte, 2 ≤ comparator.toNat →
      exec (.writeComparator (gateway tag) slot comparator direction set clear confirm) s =
        .next (s.answeredPlain tag (codeByte 8 0) .badIndex))

/-- WRITE_PARAM of a value in its range of R147, in CONFIG or, for PURGE_LENGTH and PURGE_GAP, in RUN, and with the
window aligned after the write: the parameter reads back as written, every other parameter as before, DONE is replied,
and outside the parameters entry only two things may change: CRITICAL_ROLES has the SAFE causes derived again from what
the Controller was told, and SCRUB_INTERVAL above 0 starts a stopped scrub timer. A value out of range answers BAD_VALUE
before the entry is read; a window left unaligned answers BAD_VALUE after. The read corrects damage in one place, with
TABLE_CORRECTED, and the other parameters are those of the corrected entry. A faulted entry, in CONFIG: every other
parameter takes its power-on value, the window is judged by these, and the entry leaves the Fault List, an emptied list
being reported; in RUN REFUSED_STATE and nothing changes. An entry found faulted by the request's read raises TABLE_FAULT
and then does the same. That a write of another parameter over a faulted entry leaves a stopped scrub timer stopped,
though the stored SCRUB_INTERVAL becomes its power-on value, is the model's reading (log entry 24, DEDUCED). -/
def Obligations.WriteParamStoresOneParameter : Prop :=
  ∀ (s : State) (tag parameter : Byte) (value : Word16), s.TakesRequest → parameter.toNat < 22 →
    (s.mgmt.opState = .config ∨
      (s.mgmt.opState = .run ∧ (parameter.toNat = 5 ∨ parameter.toNat = 6))) →
    let n := parameter.toNat
    let v := value.toNat
    let write := exec (.writeParam (gateway tag) parameter value) s
    let answered := s.answeredPlain tag (codeByte 16 0)
    let l := s.integ.faultList
    let held := s.mgmt.params.content
    let initial := State.reset.mgmt.params.content
    let aligned := fun p : Params => (n = 0 → v % p.windowSize = 0) ∧ (n = 1 → p.windowBase % v = 0)
    let stored := fun (p : Params) (reports : List Report) (t : State) =>
      t.mgmt.params.flipped = [] ∧ t.mgmt.opState = s.mgmt.opState ∧
      t.mgmt.params.content.value n = v ∧ (∀ m, m ≠ n → t.mgmt.params.content.value m = p.value m) ∧
      t.ctrl = { s.ctrl with causes := t.ctrl.causes, reports := s.ctrl.reports ++ reports } ∧
      (n ≠ 11 → t.ctrl.causes = s.ctrl.causes) ∧
      (n = 11 → t.ctrl.causes.tableFault = s.ctrl.faultsReported ∧
        (t.ctrl.causes.inputLost = true ↔ ∃ (r : Role) (i : Fin 32), value.getLsbD r.bit = true ∧
          s.ctrl.bindings.get r = some i ∧
          (s.ctrl.slotViews[i].status = .stale ∨ s.ctrl.slotViews[i].status = .fault))) ∧
      t.integ.scrubTimer =
        (if n = 17 ∧ v ≠ 0 ∧ s.integ.scrubTimer = none then some (v * 10) else s.integ.scrubTimer)
    let emptied : List Report := if l = [.params] then [.faultList false] else []
    let first : List Report := if l = [] then [.faultList true] else []
    (s.isFaulted .params = false → s.flips .params = [] →
      (paramRange n v → aligned held →
        ∃ t, write = .next t ∧ stored held [] t ∧ t.integ = { s.integ with scrubTimer := t.integ.scrubTimer } ∧
          { t with mgmt := s.mgmt, ctrl := s.ctrl, integ := s.integ } = answered .done) ∧
      (¬paramRange n v ∨ ¬aligned held → write = .next (answered .badValue))) ∧
    (s.isFaulted .params = false → (s.flips .params).length = 1 →
      (paramRange n v → aligned held →
        ∃ t, write = .next t ∧ stored held [] t ∧ (answered .done).RaisedFrom t .tableCorrected (.entry .params) 0 ∧
          t.integ = { s.integ with
            corrected := min 65535 (s.integ.corrected + 1), scrubTimer := t.integ.scrubTimer } ∧
          { t with mgmt := s.mgmt, ctrl := s.ctrl, integ := s.integ, notice := s.notice, port := s.port } =
            s.stopPreclean) ∧
      (¬paramRange n v → write = .next (answered .badValue)) ∧
      (paramRange n v → ¬aligned held →
        ∃ t, write = .next t ∧ t.mgmt = { s.mgmt with params := ⟨held, []⟩ } ∧
          (answered .badValue).RaisedFrom t .tableCorrected (.entry .params) 0 ∧
          t.integ = { s.integ with corrected := min 65535 (s.integ.corrected + 1) } ∧
          { t with mgmt := s.mgmt, integ := s.integ, notice := s.notice, port := s.port } = s.stopPreclean)) ∧
    (s.isFaulted .params = true →
      (¬paramRange n v ∨ ¬aligned initial → write = .next (answered .badValue)) ∧
      (paramRange n v → s.mgmt.opState = .run → write = .next (answered .refusedState)) ∧
      (paramRange n v → aligned initial → s.mgmt.opState = .config →
        ∃ t, write = .next t ∧ stored initial emptied t ∧
          t.integ = { s.integ with faultList := l.erase .params, scrubTimer := t.integ.scrubTimer } ∧
          { t with mgmt := s.mgmt, ctrl := s.ctrl, integ := s.integ } = answered .done)) ∧
    (s.isFaulted .params = false → 2 ≤ (s.flips .params).length → l.length < 8 →
      (¬paramRange n v → write = .next (answered .badValue)) ∧
      (paramRange n v → s.mgmt.opState = .run ∨ ¬aligned initial →
        ∃ t, write = .next t ∧ s.Joined t .params [] ∧
          (answered (if aligned initial then .refusedState else .badValue)).RaisedFrom t .tableFault (.entry .params)
            initial.escalation ∧
          { t with ctrl := s.ctrl, integ := s.integ, notice := s.notice, port := s.port } = s.stopPreclean) ∧
      (paramRange n v → aligned initial → s.mgmt.opState = .config →
        ∃ t, write = .next t ∧ stored initial (first ++ if l = [] then [.faultList false] else []) t ∧
          (answered .done).RaisedFrom t .tableFault (.entry .params) initial.escalation ∧
          t.integ = { s.integ with scrubTimer := t.integ.scrubTimer } ∧
          { t with mgmt := s.mgmt, ctrl := s.ctrl, integ := s.integ, notice := s.notice, port := s.port } =
            s.stopPreclean))

/-- WRITE_MODE in CONFIG or RUN. For SAFE and PARK and above, BAD_INDEX. For a loadable mode with its fields in range,
not the current mode: the record is stored (MANUAL without flap and blower), the record leaves the Fault List, DONE is
replied, and no target changes. For the current mode, no entry damaged: the targets of the stored record, boosted
while DIRTY_IN is true except in DOOR, in MANUAL with the override's flap and blower, are the targets the Command
Engine is handed: the changed ones are recorded, and those of present actuators of a queue not halted become pending
values, in place or as CMQ's newest members in index order. -/
def Obligations.WriteModeStoresTheRecord : Prop :=
  ∀ (s : State) (tag mode flap blower carbon demist : Byte) (m : Mode) (i : Fin 7), s.TakesRequest →
    (s.mgmt.opState = .config ∨ s.mgmt.opState = .run) →
    (7 ≤ mode.toNat → exec (.writeMode (gateway tag) mode flap blower carbon demist) s =
      .next (s.answeredPlain tag (codeByte 10 0) .badIndex)) ∧
    (mode.toNat = m.code → m.recordIndex = some i → carbon.toNat ≤ 1 → demist.toNat ≤ 1 →
      (m ≠ .manual → flap.toNat ≤ 100 ∧ blower.toNat ≤ 15) →
      let rec' : ModeRecord := ⟨if m = .manual then 0 else flap.toNat, if m = .manual then 0 else blower.toNat,
        carbon == 1, demist == 1⟩
      (s.ctrl.mode ≠ m →
        ∃ t, exec (.writeMode (gateway tag) mode flap blower carbon demist) s = .next t ∧
          t.ctrl.records = s.ctrl.records.set i ⟨rec', []⟩ ∧
          t.integ = { s.integ with faultList := s.integ.faultList.erase (.modeRecord i) } ∧
          t.ctrl = { s.ctrl with records := t.ctrl.records, reports := s.ctrl.reports ++
            (if s.integ.faultList = [.modeRecord i] then [.faultList false] else []) } ∧
          { t with ctrl := s.ctrl, integ := s.integ } = s.answeredPlain tag (codeByte 10 0) .done) ∧
      (s.ctrl.mode = m → m ≠ .manual → s.Undamaged →
        ∃ t, exec (.writeMode (gateway tag) mode flap blower carbon demist) s = .next t ∧
          t.ctrl = { s.ctrl with records := s.ctrl.records.set i ⟨rec', []⟩ } ∧
          (∀ a, (t.cmd.delivery.get a).target = some (PowerOn.targetOf
            { rec' with blower := if m = .door then rec'.blower
                                  else boosted rec'.blower s.mgmt.params.content.dirtyInBoost s.ctrl.conditions.dirtyIn } a)) ∧
          s.TargetsHanded t ({ s with ctrl := t.ctrl }.targetsFor m s.ctrl.conditions.dirtyIn) ∧
          t.cmd.completion = s.cmd.completion ∧
          { t with ctrl := s.ctrl, cmd := s.cmd } = s.answeredPlain tag (codeByte 10 0) .done) ∧
      (s.ctrl.mode = m → m = .manual → s.timer.overrideRecord.isSome = true → s.Undamaged →
        ∃ t, exec (.writeMode (gateway tag) mode flap blower carbon demist) s = .next t ∧
          t.ctrl = { s.ctrl with records := s.ctrl.records.set i ⟨rec', []⟩ } ∧
          s.TargetsHanded t ({ s with ctrl := t.ctrl }.targetsFor .manual s.ctrl.conditions.dirtyIn) ∧
          t.cmd.completion = s.cmd.completion ∧
          { t with ctrl := s.ctrl, cmd := s.cmd } = s.answeredPlain tag (codeByte 10 0) .done))

/-- WRITE_RECOVERY in CONFIG: threshold 0 to 1023 and length 0 to 600 are stored in the named bin, which leaves the
Fault List; DONE is replied and nothing else changes. A bin above 3 answers BAD_INDEX, a field out of range
BAD_VALUE. -/
def Obligations.WriteRecoveryStoresTheBin : Prop :=
  ∀ (s : State) (tag bin : Byte) (threshold length : Word16), s.TakesRequest → s.mgmt.opState = .config →
    (∀ i : Fin 4, bin.toNat = i.val → threshold.toNat ≤ 1023 → length.toNat ≤ 600 →
      ∃ t, exec (.writeRecovery (gateway tag) bin threshold length) s = .next t ∧
        t.timer = { s.timer with bins := s.timer.bins.set i ⟨⟨threshold.toNat, length.toNat⟩, []⟩ } ∧
        t.integ = { s.integ with faultList := s.integ.faultList.erase (.recovery i) } ∧
        t.ctrl = { s.ctrl with reports := s.ctrl.reports ++
          (if s.integ.faultList = [.recovery i] then [.faultList false] else []) } ∧
        { t with timer := s.timer, integ := s.integ, ctrl := s.ctrl } = s.answeredPlain tag (codeByte 12 0) .done) ∧
    (4 ≤ bin.toNat → exec (.writeRecovery (gateway tag) bin threshold length) s =
      .next (s.answeredPlain tag (codeByte 12 0) .badIndex)) ∧
    (bin.toNat < 4 → (1023 < threshold.toNat ∨ 600 < length.toNat) →
      exec (.writeRecovery (gateway tag) bin threshold length) s =
        .next (s.answeredPlain tag (codeByte 12 0) .badValue))

/-- WRITE_ACTUATOR in CONFIG, with present no, or present yes and node 2 to 62: the entry is stored and leaves the
Fault List, an emptied list being reported; the actuator's pending value, outstanding command, ack timer, reported,
failed and last abandoned tag are cleared and its target kept; if it is now present, the queue is not halted and it
holds a target, the target is its pending value and it is CMQ's newest member. Every other actuator and every other
block is untouched. -/
def Obligations.WriteActuatorStoresAndSendsAfresh : Prop :=
  ∀ (s : State) (tag actuator present node : Byte) (a : Actuator), s.TakesRequest → s.mgmt.opState = .config →
    actuator.toNat = a.index → (present = 0 ∨ (present = 1 ∧ 2 ≤ node.toNat ∧ node.toNat ≤ 62)) →
    let sends := decide (present = 1) && !s.cmd.halted && (s.cmd.delivery.get a).target.isSome
    ∃ t, exec (.writeActuator (gateway tag) actuator present node) s = .next t ∧
      t.cmd.entries = s.cmd.entries.set a ⟨⟨decide (present = 1), if present = 1 then node.toNat else 0⟩, []⟩ ∧
      t.cmd.delivery.get a = ⟨(s.cmd.delivery.get a).target,
        if sends then (s.cmd.delivery.get a).target else none, none, none, none, false, none⟩ ∧
      (∀ b, b ≠ a → t.cmd.delivery.get b = s.cmd.delivery.get b) ∧
      t.cmd.cmq = s.cmd.cmq.erase a ++ (if sends then [a] else []) ∧ t.cmd.due = s.cmd.due.erase a ∧
      t.cmd.halted = s.cmd.halted ∧ t.cmd.tagCounter = s.cmd.tagCounter ∧ t.cmd.completion = s.cmd.completion ∧
      t.ctrl = { s.ctrl with reports := s.ctrl.reports ++
        (if s.integ.faultList = [.actuator a] then [.faultList false] else []) } ∧
      t.integ = { s.integ with faultList := s.integ.faultList.erase (.actuator a) } ∧
      { t with cmd := s.cmd, integ := s.integ, ctrl := s.ctrl } = s.answeredPlain tag (codeByte 14 0) .done

/-! ### Notices and tallies by request -/

/-- ACK_NOTICES and MASK_NOTICES of the gateway in CONFIG or RUN. A set naming a value outside the fourteen kinds
answers BAD_VALUE and changes nothing. An accepted acknowledgment takes each pending kind of the set to not pending,
count 0, not escalated, timer stopped, keeping detail and mask, and touches no other kind; the SERVICE lamp then shows
DOUBLE with a kind escalated, else ON with FILTER_CLOGGED or ACTUATOR_FAULT pending, else OFF, a new pattern from its
start. An accepted mask masks exactly the kinds of the set and touches nothing else of any record, nor the lamps. Both
answer DONE; no other block changes. -/
def Obligations.NoticeRequestsChangeTheNamedKinds : Prop :=
  (∀ (s : State) (tag : Byte) (kinds : Word16), s.TakesRequest →
    (s.mgmt.opState = .config ∨ s.mgmt.opState = .run) →
    (2 ^ 14 ≤ kinds.toNat →
      exec (.ackNotices (gateway tag) kinds) s = .next (s.answeredPlain tag (codeByte 24 0) .badValue) ∧
      exec (.maskNotices (gateway tag) kinds) s = .next (s.answeredPlain tag (codeByte 25 0) .badValue)) ∧
    (kinds.toNat < 2 ^ 14 →
      (∃ t, exec (.ackNotices (gateway tag) kinds) s = .next t ∧
        (∀ k, t.noticeRecord k =
          if kinds.getLsbD k.index.val && (s.noticeRecord k).pending then
            ⟨false, (s.noticeRecord k).masked, (s.noticeRecord k).detail, 0, false, none⟩
          else s.noticeRecord k) ∧
        t.notice.tagCounter = s.notice.tagCounter ∧ t.notice.airLamp = s.notice.airLamp ∧
        ((∀ k, kinds.getLsbD k.index.val = true → (s.noticeRecord k).pending = false) → t.notice = s.notice) ∧
        ((∃ k, kinds.getLsbD k.index.val = true ∧ (s.noticeRecord k).pending = true) →
          t.notice.serviceLamp.pattern = t.servicePatternDue ∧
          (s.notice.serviceLamp.pattern ≠ t.servicePatternDue → t.notice.serviceLamp = ⟨t.servicePatternDue, 0⟩) ∧
          (s.notice.serviceLamp.pattern = s.servicePatternDue → s.servicePatternDue = t.servicePatternDue →
            t.notice.serviceLamp = s.notice.serviceLamp)) ∧
        { t with notice := s.notice } = s.answeredPlain tag (codeByte 24 0) .done) ∧
      (∃ t, exec (.maskNotices (gateway tag) kinds) s = .next t ∧
        (∀ k, t.noticeRecord k = { s.noticeRecord k with masked := kinds.getLsbD k.index.val }) ∧
        { t.notice with records := s.notice.records } = s.notice ∧
        { t with notice := s.notice } = s.answeredPlain tag (codeByte 25 0) .done))) ∧
  (∀ s : State,
    let escalated := ∃ k, (s.noticeRecord k).escalated = true
    let on := (s.noticeRecord .filterClogged).pending = true ∨ (s.noticeRecord .actuatorFault).pending = true
    (escalated → s.servicePatternDue = .double) ∧ (¬escalated → on → s.servicePatternDue = .on) ∧
      (¬escalated → ¬on → s.servicePatternDue = .off))

/-- TALLY_SETUP and TALLY_WRITE of the gateway in CONFIG or RUN, the tally 0 to 3. The setup, its mask and filter
naming only sub-events of the group and the nine modes, sets the control, clears the overflow flag if asked, and
keeps the value; the write sets the value and keeps the rest. Nothing else changes. Above 3 both answer BAD_INDEX.
Sent to every node, both are executed the same without a reply, whatever room there is. -/
def Obligations.TallyRequestsSetControlOrValue : Prop :=
  (∀ (s : State) (tag b group mask flags : Byte) (filter : Word16) (value : Word32) (g : TallyGroup), s.TakesRequest →
    (s.mgmt.opState = .config ∨ s.mgmt.opState = .run) →
    (∀ i : Fin 4, b.toNat = i.val →
      (TallyGroup.ofCode group.toNat = some g → (g = .off ∨ mask.toNat < 2 ^ g.width) → filter.toNat < 2 ^ 9 →
        flags.toNat < 8 →
        exec (.tallySetup (gateway tag) b group mask filter flags) s =
          .next ((s.setTally i ⟨s.tally.tallies[i].value, g, if g = .off then 0 else mask, filter, flags.getLsbD 0,
            flags.getLsbD 1, s.tally.tallies[i].overflow && !flags.getLsbD 2⟩).answeredPlain tag (codeByte 27 0) .done)) ∧
      exec (.tallyWrite (gateway tag) b value) s =
        .next ((s.setTally i { s.tally.tallies[i] with value := value }).answeredPlain tag (codeByte 28 0) .done)) ∧
    (4 ≤ b.toNat →
      exec (.tallySetup (gateway tag) b group mask filter flags) s =
        .next (s.answeredPlain tag (codeByte 27 0) .badIndex) ∧
      exec (.tallyWrite (gateway tag) b value) s = .next (s.answeredPlain tag (codeByte 28 0) .badIndex))) ∧
  (∀ (s : State) (tag b group mask flags : Byte) (filter : Word16) (value : Word32) (g : TallyGroup) (i : Fin 4),
    s.alive = true → (s.mgmt.opState = .config ∨ s.mgmt.opState = .run) → b.toNat = i.val →
    (TallyGroup.ofCode group.toNat = some g → (g = .off ∨ mask.toNat < 2 ^ g.width) → filter.toNat < 2 ^ 9 →
      flags.toNat < 8 →
      exec (.tallySetup (toEveryNode tag) b group mask filter flags) s =
        .next (s.setTally i ⟨s.tally.tallies[i].value, g, if g = .off then 0 else mask, filter, flags.getLsbD 0,
          flags.getLsbD 1, s.tally.tallies[i].overflow && !flags.getLsbD 2⟩).stopPreclean) ∧
    exec (.tallyWrite (toEveryNode tag) b value) s =
      .next (s.setTally i { s.tally.tallies[i] with value := value }).stopPreclean)

/-! ### Requests that act on the device -/

/-- ENTER_CONFIG of the gateway in RUN, no entry damaged and no report waiting: CONFIG and SAFE, the Timer Unit's
timers stopped and its measurement re-armed, the DONE reply ahead of any notice in RPQ, the slots, the tables (Mode
Records, role bindings and Actuator Table among them), doors and tallies as they were. If the mode was not SAFE the
SAFE targets are handed to the Command Engine, SAFE to the Timer Unit, and MODE_CHANGE is raised with detail SAFE; if
it was, no target changes. A report that waits is taken first, behind the place of the reply, with its own choice of the
mode (log entry 7, DEDUCED). So an OVERRIDE of the panel taken just before has MANUAL chosen, with its MODE_CHANGE and
its targets, and ENTER_CONFIG then stops it and gives SAFE. -/
def Obligations.EnterConfigStopsTheAirPath : Prop :=
  (∀ (s : State) (tag : Byte), s.TakesRequest → s.mgmt.opState = .run → s.Undamaged → s.ctrl.reports = [] →
    ∃ t, exec (.enterConfig (gateway tag)) s = .next t ∧ t.mgmt.opState = .config ∧ t.ctrl.mode = .safe ∧
      t.timer.Stopped ∧ t.park.preclean = none ∧ t.timer.doors = s.timer.doors ∧ t.timer.bins = s.timer.bins ∧
      t.port.rpq.take (s.port.rpq.length + 1) = s.port.rpq ++ [replyFrame 0 tag (codeByte 17 0) (plain .done)] ∧
      s.OnlyRpq t ∧ t.intake = s.intake ∧ t.quantity = s.quantity ∧ t.tally = s.tally ∧ t.integ = s.integ ∧
      t.mgmt.params = s.mgmt.params ∧ t.ctrl = { s.ctrl with mode := .safe, timerView := t.timer.view } ∧
      t.cmd.entries = s.cmd.entries ∧ t.cmd.halted = s.cmd.halted ∧ t.cmd.tagCounter = s.cmd.tagCounter ∧
      t.park = { s.park with preclean := none } ∧
      (s.ctrl.mode ≠ .safe → (∀ a, (t.cmd.delivery.get a).target = some (PowerOn.targetOf ⟨20, 8, true, true⟩ a)) ∧
        (t.noticeRecord .modeChange).pending = true ∧ (t.noticeRecord .modeChange).detail = some (.mode .safe) ∧
        (s.answeredPlain tag (codeByte 17 0) .done).ChangedMode t .safe ⟨20, 8, true, true⟩) ∧
      t.cmd.completion = s.cmd.completion ∧
      (s.ctrl.mode = .safe → t.cmd = s.cmd ∧ t.notice = s.notice)) ∧
  (∀ (s u : State) (tag : Byte) (r : Report), s.TakesRequest → s.mgmt.opState = .run → s.Undamaged →
    s.ctrl.reports = [r] →
    exec (.controllerReport r.source) (s.answeredPlain tag (codeByte 17 0) .done) = .next u →
    exec (.enterConfig (gateway tag)) s = exec (.enterConfig (toEveryNode tag)) u) ∧
  (∀ (s : State) (src tag tag' flap blower : Byte) (duration : Word16) (fc : FlapChoice), s.TakesRequest →
    s.TakesDnRequest → s.mgmt.params.content.panelNode ≠ 0 → src.toNat = s.mgmt.params.content.panelNode →
    s.mgmt.opState = .run → s.Undamaged → s.ctrl.reports = [] → s.ctrl.mode ≠ .manual →
    (flap = 0 ∧ fc = .fresh ∧ s.timer.heldSevere = false) ∨ (flap = 1 ∧ fc = .recirc) → blower.toNat ≤ 15 →
    30 ≤ duration.toNat → duration.toNat ≤ 3600 → s.timer.doorOpen = false →
    s.ctrl.conditions = deriveConditions s.ctrl.bindings s.ctrl.slotViews →
    s.ctrl.causes = ⟨false, false⟩ → deriveCauses s.mgmt.params.content.criticalRoles s.ctrl = ⟨false, false⟩ →
    ∃ s' m t, exec (.override (onDn src tag') flap blower duration) s = .next s' ∧
      exec (.enterConfig (gateway tag)) s' = .next t ∧
      s'.timer.overrideRecord = some ⟨fc, blower.toNat, duration.toNat, .panel⟩ ∧
      (s'.answeredPlain tag (codeByte 17 0) .done).ChangedMode m .manual
        (s'.targetsFor .manual s.ctrl.conditions.dirtyIn) ∧
      m.ChangedMode t .safe ⟨20, 8, true, true⟩ ∧ t.mgmt.opState = .config ∧ t.ctrl.mode = .safe ∧
      t.timer.Stopped ∧ t.ctrl.reports = [])

/-- ENTER_RUN of the gateway in CONFIG, no entry damaged and no report waiting. An unbound OUT_PM or CAB_CO2, a valid
map entry that names an UNUSED slot, a FLAP or a BLOWER not present answer INVALID with the first failing check and
change nothing else. With all checks passed: RUN, the mode of the precedence, the measurement counting from 0 exactly
if a door is OPEN, the DONE reply ahead of any notice in RPQ; if the mode is not SAFE, it is handed to the Timer Unit,
MODE_CHANGE is raised with it and its targets are handed to the Command Engine; if it is, none of these. With a Fault
List that is not empty, no damage being new: faulted map entries and setups take no part in check 3, a faulted FLAP or
BLOWER is not present, and checks 1 to 5 passed answer FAULTS_PRESENT; the answer changes nothing else. -/
def Obligations.EnterRunValidatesAndChoosesTheMode : Prop :=
  (∀ (s : State) (tag : Byte), s.TakesRequest → s.mgmt.opState = .config → s.ctrl.mode = .safe → s.Undamaged →
    s.ctrl.reports = [] → s.timer.measurement = ⟨0, false, 0⟩ →
    let invalid := fun (c : Byte) => s.answered tag (codeByte 18 0) ⟨.invalid, [c]⟩
    let unused := ∃ i : Fin 64, s.intake.map[i].content.valid = true ∧
      s.quantity.setups[s.intake.map[i].content.slot].content.kind = .unused
    (s.ctrl.bindings.outPm = none → exec (.enterRun (gateway tag)) s = .next (invalid 1)) ∧
    (s.ctrl.bindings.outPm ≠ none → s.ctrl.bindings.cabCo2 = none →
      exec (.enterRun (gateway tag)) s = .next (invalid 2)) ∧
    (s.ctrl.bindings.outPm ≠ none → s.ctrl.bindings.cabCo2 ≠ none →
      (unused → exec (.enterRun (gateway tag)) s = .next (invalid 3)) ∧
      (¬unused → s.cmd.entries.flap.content.present = false →
        exec (.enterRun (gateway tag)) s = .next (invalid 4)) ∧
      (¬unused → s.cmd.entries.flap.content.present = true → s.cmd.entries.blower.content.present = false →
        exec (.enterRun (gateway tag)) s = .next (invalid 5)) ∧
      (¬unused → s.cmd.entries.flap.content.present = true → s.cmd.entries.blower.content.present = true →
        ∃ t, exec (.enterRun (gateway tag)) s = .next t ∧ t.mgmt.opState = .run ∧
          t.ctrl.mode = s.precedenceMode { s.ctrl with timerView := s.timer.view } ∧
          t.timer.measurement = ⟨0, s.timer.doorOpen, 0⟩ ∧
          t.port.rpq.take (s.port.rpq.length + 1) =
            s.port.rpq ++ [replyFrame 0 tag (codeByte 18 0) (plain .done)] ∧
          t.intake = s.intake ∧ t.quantity = s.quantity ∧ t.tally = s.tally ∧ t.integ = s.integ ∧
          t.mgmt.params = s.mgmt.params ∧
          t.ctrl = { s.ctrl with mode := t.ctrl.mode, timerView := t.timer.view } ∧
          (t.ctrl.mode = .safe →
            { t with mgmt := s.mgmt, ctrl := s.ctrl, timer := s.timer } = s.answeredPlain tag (codeByte 18 0) .done) ∧
          (t.ctrl.mode ≠ .safe → (t.ctrl.mode = .manual → s.timer.overrideRecord.isSome = true) →
            (s.answeredPlain tag (codeByte 18 0) .done).ChangedMode t t.ctrl.mode
              (s.targetsFor t.ctrl.mode s.ctrl.conditions.dirtyIn) ∧
            t.cmd.completion = s.cmd.completion)))) ∧
  (∀ (s : State) (tag : Byte), s.TakesRequest → s.mgmt.opState = .config → s.OnlyKnownDamage →
    s.integ.faultList ≠ [] → s.ctrl.bindings.outPm ≠ none → s.ctrl.bindings.cabCo2 ≠ none →
    let invalid := fun (c : Byte) =>
      exec (.enterRun (gateway tag)) s = .next (s.answered tag (codeByte 18 0) ⟨.invalid, [c]⟩)
    let unused := ∃ i : Fin 64, s.intake.map[i].content.valid = true ∧ s.isFaulted (.channelMap i) = false ∧
      s.isFaulted (.slotSetup s.intake.map[i].content.slot) = false ∧
      s.quantity.setups[s.intake.map[i].content.slot].content.kind = .unused
    let fitted := fun a => (s.cmd.entries.get a).content.present = true ∧ s.isFaulted (.actuator a) = false
    (unused → invalid 3) ∧ (¬unused → ¬fitted .flap → invalid 4) ∧
    (¬unused → fitted .flap → ¬fitted .blower → invalid 5) ∧ (¬unused → fitted .flap → fitted .blower → invalid 6))

/-- PURGE_START and PURGE_STOP of the gateway in RUN, no entry damaged; the mode is the one handed to the Timer Unit
last (log entry 16). PURGE_START: REFUSED_STATE in SAFE or with PURGE not enabled, else REFUSED_DOOR while a door is
OPEN, else DONE, a stopped purge timer starting with PURGE_LENGTH and a report following, the count and gap as they
stand. PURGE_STOP: DONE; a running purge is stopped, the gap timer starts with PURGE_GAP and a report follows, the
count as it stands. -/
def Obligations.PurgeRequestsStartAndStopThePurge : Prop :=
  ∀ (s : State) (tag : Byte), s.TakesRequest → s.mgmt.opState = .run → s.Undamaged →
    let p := s.mgmt.params.content
    (s.timer.heldMode = .safe ∨ p.enablesPurge = false →
      exec (.purgeStart (gateway tag)) s = .next (s.answeredPlain tag (codeByte 19 0) .refusedState)) ∧
    (s.timer.heldMode ≠ .safe → p.enablesPurge = true → s.timer.doorOpen = true →
      exec (.purgeStart (gateway tag)) s = .next (s.answeredPlain tag (codeByte 19 0) .refusedDoor)) ∧
    (s.timer.heldMode ≠ .safe → p.enablesPurge = true → s.timer.doorOpen = false →
      exec (.purgeStart (gateway tag)) s = .next
        ((if s.timer.purge = none then
            (s.onTimer fun t => { t with purge := some (p.purgeLength * 1000) }).reportTimers
          else s).answeredPlain tag (codeByte 19 0) .done)) ∧
    exec (.purgeStop (gateway tag)) s = .next
      ((if s.timer.purge = none then s
        else (s.onTimer fun t => { t with purge := none, gap := some (p.purgeGap * 1000) }).reportTimers).answeredPlain
          tag (codeByte 20 0) .done)

/-- OVERRIDE and CANCEL_OVERRIDE of the gateway in RUN. OVERRIDE: BAD_VALUE for a flap choice, blower or duration out
of range; REFUSED_SEVERE for FRESH while SEVERE is true; else the record with origin GATEWAY and the timer stand from
the request, a report follows and DONE is replied; in MANUAL, no entry damaged, the new flap and blower targets are
handed to the Command Engine at once. CANCEL_OVERRIDE: DONE, and a running override ends with a report. The panel's do
the same with origin PANEL, the reply in PTQ. -/
def Obligations.OverrideRequestsSetAndCancelTheOverride : Prop :=
  (∀ (s : State) (tag flap blower : Byte) (duration : Word16), s.TakesRequest → s.mgmt.opState = .run →
    let code := codeByte 21 0
    (1 < flap.toNat ∨ 15 < blower.toNat ∨ duration.toNat < 30 ∨ 3600 < duration.toNat →
      exec (.override (gateway tag) flap blower duration) s = .next (s.answeredPlain tag code .badValue)) ∧
    (flap = 0 → blower.toNat ≤ 15 → 30 ≤ duration.toNat → duration.toNat ≤ 3600 → s.timer.heldSevere = true →
      exec (.override (gateway tag) flap blower duration) s = .next (s.answeredPlain tag code .refusedSevere)) ∧
    (∀ fc, (flap = 0 ∧ fc = .fresh ∧ s.timer.heldSevere = false) ∨ (flap = 1 ∧ fc = .recirc) → blower.toNat ≤ 15 →
      30 ≤ duration.toNat → duration.toNat ≤ 3600 → s.ctrl.mode ≠ .manual →
      exec (.override (gateway tag) flap blower duration) s = .next ((s.onTimer fun t =>
          { t with overrideRecord := some ⟨fc, blower.toNat, duration.toNat, .gateway⟩,
                   overrideTimer := some (duration.toNat * 1000) }).reportTimers.answeredPlain tag code .done)) ∧
    exec (.cancelOverride (gateway tag)) s = .next
      ((if s.timer.overrideTimer = none then s
        else (s.onTimer fun t => { t with overrideTimer := none, overrideRecord := none }).reportTimers).answeredPlain
          tag (codeByte 22 0) .done)) ∧
  (∀ (s : State) (src tag flap blower : Byte) (duration : Word16) (fc : FlapChoice), s.TakesDnRequest →
    s.mgmt.params.content.panelNode ≠ 0 → src.toNat = s.mgmt.params.content.panelNode → s.mgmt.opState = .run →
    (flap = 0 ∧ fc = .fresh ∧ s.timer.heldSevere = false) ∨ (flap = 1 ∧ fc = .recirc) → blower.toNat ≤ 15 →
    30 ≤ duration.toNat → duration.toNat ≤ 3600 → s.ctrl.mode ≠ .manual →
    exec (.override (onDn src tag) flap blower duration) s = .next ((s.onTimer fun t =>
        { t with overrideRecord := some ⟨fc, blower.toNat, duration.toNat, .panel⟩,
                 overrideTimer := some (duration.toNat * 1000) }).reportTimers.answeredDn src tag (codeByte 21 0)
          (plain .done))) ∧
  (∀ (s : State) (o : Origin) (origin : OriginClass) (flap blower : Byte) (duration : Word16) (fc : FlapChoice),
    s.Undamaged → s.mgmt.opState = .run → s.ctrl.mode = .manual →
    (s.TakesRequest ∧ o = gateway o.tag ∧ origin = .gateway ∨ s.TakesDnRequest ∧ o = onDn o.src o.tag ∧ origin = .panel ∧
      s.mgmt.params.content.panelNode ≠ 0 ∧ o.src.toNat = s.mgmt.params.content.panelNode) →
    (flap = 0 ∧ fc = .fresh ∧ s.timer.heldSevere = false) ∨ (flap = 1 ∧ fc = .recirc) → blower.toNat ≤ 15 →
    30 ≤ duration.toNat → duration.toNat ≤ 3600 →
    let set := s.onTimer fun t =>
      { t with overrideRecord := some ⟨fc, blower.toNat, duration.toNat, origin⟩,
               overrideTimer := some (duration.toNat * 1000) }
    ∃ t, exec (.override o flap blower duration) s = .next t ∧ set.TargetsHanded t (set.targetsFor .manual false) ∧
      t.cmd.completion = s.cmd.completion ∧
      { t with cmd := s.cmd } =
        (if o.port = .up then set.reportTimers.answeredPlain o.tag (codeByte 21 0) .done
         else set.reportTimers.answeredDn o.src o.tag (codeByte 21 0) (plain .done))) ∧
  (∀ (s : State) (src tag : Byte), s.TakesDnRequest → s.mgmt.params.content.panelNode ≠ 0 →
    src.toNat = s.mgmt.params.content.panelNode → s.mgmt.opState = .run →
    exec (.cancelOverride (onDn src tag)) s = .next
      ((if s.timer.overrideTimer = none then s
        else (s.onTimer fun t => { t with overrideTimer := none, overrideRecord := none }).reportTimers).answeredDn
          src tag (codeByte 22 0) (plain .done)))

/-- RESUME of the gateway in CONFIG or RUN, no entry damaged: DONE. With the queue not halted nothing else happens.
With it halted, and holding nothing as a halted queue does, halted becomes no, and exactly the present actuators that
hold a target their reported position does not match join CMQ, in index order, with the target as pending value. -/
def Obligations.ResumeQueuesTheActuatorsOffTarget : Prop :=
  ∀ (s : State) (tag : Byte), s.TakesRequest → (s.mgmt.opState = .config ∨ s.mgmt.opState = .run) → s.Undamaged →
    let off := fun (a : Actuator) => (s.cmd.entries.get a).content.present &&
      (match (s.cmd.delivery.get a).target, (s.cmd.delivery.get a).reported with
        | none, _ => false
        | some _, none => true
        | some v, some r => r.position != v)
    (s.cmd.halted = false →
      exec (.resume (gateway tag)) s = .next (s.answeredPlain tag (codeByte 30 0) .done)) ∧
    (s.cmd.halted = true → s.cmd.cmq = [] → (∀ a, (s.cmd.delivery.get a).pendingValue = none) →
      ∃ t, exec (.resume (gateway tag)) s = .next t ∧ t.cmd.halted = false ∧
        t.cmd.cmq = Actuator.all.filter off ∧
        (∀ a, t.cmd.delivery.get a = { s.cmd.delivery.get a with
          pendingValue := if off a then (s.cmd.delivery.get a).target else none }) ∧
        { t with cmd := { t.cmd with halted := true, cmq := [], delivery := s.cmd.delivery } } =
          s.answeredPlain tag (codeByte 30 0) .done)

/-- PARK of the gateway in RUN. More than 1440 minutes answer BAD_VALUE; an open door REFUSED_DOOR. Else, no entry
damaged, no report waiting and the mode not PARK: PARKING and PARK, the minutes stored, the Timer Unit's timers and
the pre-clean stopped, the PARK targets handed to the Command Engine and PARK to the Timer Unit, MODE_CHANGE raised,
the completion reported if CMQ is empty and no command outstanding, the DONE reply ahead of any notice in RPQ. -/
def Obligations.ParkEntersParking : Prop :=
  ∀ (s : State) (tag : Byte) (minutes : Word16), s.TakesRequest → s.mgmt.opState = .run →
    (1440 < minutes.toNat →
      exec (.park (gateway tag) minutes) s = .next (s.answeredPlain tag (codeByte 31 0) .badValue)) ∧
    (minutes.toNat ≤ 1440 → s.timer.doorOpen = true →
      exec (.park (gateway tag) minutes) s = .next (s.answeredPlain tag (codeByte 31 0) .refusedDoor)) ∧
    (minutes.toNat ≤ 1440 → s.timer.doorOpen = false → s.Undamaged → s.ctrl.reports = [] → s.ctrl.mode ≠ .park →
      ∃ t, exec (.park (gateway tag) minutes) s = .next t ∧ t.mgmt.opState = .parking ∧ t.ctrl.mode = .park ∧
        t.park.wakeMinutes = minutes.toNat ∧ t.park.preclean = none ∧ t.timer.Stopped ∧
        (∀ a, (t.cmd.delivery.get a).target = some 0) ∧
        (t.cmd.quiet = true → t.cmd.completion = true) ∧
        (t.cmd.quiet = false → t.cmd.completion = s.cmd.completion) ∧
        (t.noticeRecord .modeChange).detail = some (.mode .park) ∧
        (s.answeredPlain tag (codeByte 31 0) .done).ChangedMode t .park ⟨0, 0, false, false⟩ ∧
        t.port.rpq.take (s.port.rpq.length + 1) = s.port.rpq ++ [replyFrame 0 tag (codeByte 31 0) (plain .done)] ∧
        t.intake = s.intake ∧ t.quantity = s.quantity ∧ t.tally = s.tally ∧ t.integ = s.integ)

/-- RESET of the gateway outside PARKED, no entry damaged: the link reset. CONFIG and SAFE; PTQ and FWQ empty, RPQ
holding the DONE reply and then the START notice unless it is masked, however full it was; both transmissions cut and
both receivers waiting for idle; every slot EMPTY with its stale timer running unless UNUSED; the map's dynamic
fields cleared; the Timer Unit's timers stopped; each present actuator in CMQ with its SAFE target, in index order;
the notice records cleared with their masks kept and START pending with detail LINK_RESET. The tables, the tallies,
the Fault List, the doors and the tag counter of the commands are kept. A broadcast RESET of the gateway does the same
without the reply. With entries on the Fault List, no damage being new, every slot's own state is emptied just so, also
where the setup is faulted, the stale timer of such a slot running by some limit of 1 to 255 s (a free value: log entry 30,
DESIGN CHOICE); the slot is seen FAULT all the same, to the Controller too, so that TABLE_FAULT is a SAFE cause and
INPUT_LOST one exactly for a critical role's slot with a faulted setup (the model's reading: log entry 26, DEDUCED). -/
def Obligations.ResetPerformsTheLinkReset : Prop :=
  (∀ (s : State) (tag : Byte), s.alive = true → s.mgmt.opState ≠ .parked → s.Undamaged →
    ∃ t, exec (.reset (gateway tag)) s = .next t ∧ t.mgmt.opState = .config ∧ t.ctrl.mode = .safe ∧
      t.port.ptq = [] ∧ t.port.fwq = [] ∧ t.port.dnTx = none ∧ t.port.upTx = none ∧
      t.port.rpq = replyFrame 0 tag (codeByte 32 0) (plain .done) ::
        (if (s.noticeRecord .start).masked then []
         else [noticeFrame 0 s.notice.tagCounter .start (.startCause .linkReset)]) ∧
      t.port.upRx = .waitingIdle ∧ t.port.dnRx = .waitingIdle ∧
      (∀ i : Fin 32, t.quantity.slots[i] = ⟨.empty, none, 0, 0,
        if s.quantity.setups[i].content.kind = .unused then none
        else some (s.quantity.setups[i].content.stale * 1000), [], none, 0, ⟨false, 0⟩, ⟨false, 0⟩⟩) ∧
      (∀ i : Fin 64, t.intake.dyn[i] = ⟨0, none⟩) ∧ t.timer.Stopped ∧
      t.cmd.cmq = Actuator.all.filter (fun a => (s.cmd.entries.get a).content.present) ∧
      (∀ a, t.cmd.delivery.get a = ⟨some (PowerOn.targetOf ⟨20, 8, true, true⟩ a),
        if (s.cmd.entries.get a).content.present then some (PowerOn.targetOf ⟨20, 8, true, true⟩ a) else none,
        none, none, none, false, none⟩) ∧
      t.cmd.halted = false ∧ t.cmd.tagCounter = s.cmd.tagCounter ∧ t.cmd.entries = s.cmd.entries ∧
      (∀ k, k ≠ .start → t.noticeRecord k = ⟨false, (s.noticeRecord k).masked, none, 0, false, none⟩) ∧
      t.noticeRecord .start = ⟨true, (s.noticeRecord .start).masked, some (.startCause .linkReset), 1, false, none⟩ ∧
      t.park.startCause = .linkReset ∧ t.intake.map = s.intake.map ∧ t.quantity.setups = s.quantity.setups ∧
      t.ctrl.records = s.ctrl.records ∧ t.ctrl.bindings = s.ctrl.bindings ∧ t.timer.bins = s.timer.bins ∧
      t.timer.doors = s.timer.doors ∧ t.mgmt.params = s.mgmt.params ∧ t.tally = s.tally ∧ t.integ = s.integ ∧
      t.ctrl.conditions = ⟨true, false, false, false, false, false, false⟩ ∧ t.ctrl.causes = ⟨false, false⟩ ∧
      exec (.reset (toEveryNode tag)) s = .next (t.onPort fun p => { p with rpq := p.rpq.tail })) ∧
  (∀ (s : State) (tag : Byte), s.alive = true → s.mgmt.opState ≠ .parked → s.OnlyKnownDamage →
    s.integ.faultList ≠ [] →
    ∃ t, exec (.reset (gateway tag)) s = .next t ∧ t.mgmt.opState = .config ∧ t.ctrl.mode = .safe ∧
      (∀ i : Fin 32, ∃ timer, t.quantity.slots[i] = ⟨.empty, none, 0, 0, timer, [], none, 0, ⟨false, 0⟩, ⟨false, 0⟩⟩ ∧
        (s.isFaulted (.slotSetup i) = true → ∃ n, 1 ≤ n ∧ n ≤ 255 ∧ timer = some (n * 1000)) ∧
        (s.isFaulted (.slotSetup i) = false → timer = if s.quantity.setups[i].content.kind = .unused then none
          else some (s.quantity.setups[i].content.stale * 1000)) ∧
        (s.isFaulted (.slotSetup i) = true → (t.slotSeen i).status = .fault)) ∧
      t.ctrl.conditions = ⟨true, false, false, false, false, false, false⟩ ∧ s.ToldOfTheEmptying t ∧
      s.CausesOnceEmptied true t.ctrl.causes ∧
      t.ctrl.bindings = s.ctrl.bindings ∧ t.ctrl.reports = [] ∧ t.integ = s.integ)

/-! ### Commands to the actuators: retries -/

/-- The ack timer of a WAITING command expires, no entry damaged: below RETRY_LIMIT + 1 attempts it is DUE with one
more, in PARKING a persisting one too (the model's reading: log entry 28, DEDUCED); at the limit under ABANDON (or in
PARKING) and CONTINUE it is abandoned, its tag the last abandoned tag, failed set, ACTUATOR_SILENT raised, ABANDONED
given, in PARKING the completion reported if nothing is left to deliver, and no other actuator touched; at the limit
under PERSIST outside PARKING it is DUE with its attempts as they are and persisting, the first time with failed set
and ACTUATOR_SILENT raised, later with failed as it stands and no notice. Nothing else changes. Without a WAITING
command nothing happens. -/
def Obligations.AckTimersResendOrAbandon : Prop :=
  ∀ (s : State) (a : Actuator) (o : Outstanding), s.alive = true → s.Undamaged →
    let p := s.mgmt.params.content
    ((s.cmd.delivery.get a).outstanding = none → exec (.ackTimerExpiry a) s = .next s) ∧
    ((s.cmd.delivery.get a).outstanding = some o → o.phase ≠ .waiting → exec (.ackTimerExpiry a) s = .next s) ∧
    ((s.cmd.delivery.get a).outstanding = some o → o.phase = .waiting →
      (o.attempts < p.retryLimit + 1 →
        exec (.ackTimerExpiry a) s = .next ((s.onDelivery a fun d =>
          { d with outstanding := some ⟨o.tag, o.value, o.attempts + 1, .due, o.persisting⟩, ackTimer := none }).onCmd
            fun c => { c with due := c.due ++ [a] })) ∧
      (p.retryLimit + 1 ≤ o.attempts → (p.timeoutAction = .abandon ∨ s.mgmt.opState = .parking) →
        p.failurePolicy = .continue_ →
        ∃ t, exec (.ackTimerExpiry a) s = .next t ∧
          t.cmd.delivery.get a = { s.cmd.delivery.get a with
            outstanding := none, ackTimer := none, failed := true, lastAbandoned := some o.tag } ∧
          (∀ b, b ≠ a → t.cmd.delivery.get b = s.cmd.delivery.get b) ∧ t.cmd.cmq = s.cmd.cmq ∧
          t.cmd.due = s.cmd.due.erase a ∧ t.cmd.halted = s.cmd.halted ∧
          (t.noticeRecord .actuatorSilent).pending = true ∧
          (t.noticeRecord .actuatorSilent).detail = some (.actuator a) ∧
          t.tally = (s.count .abandoned).tally ∧ t.cmd.entries = s.cmd.entries ∧
          t.cmd.tagCounter = s.cmd.tagCounter ∧
          t.cmd.completion = (s.cmd.completion || decide (s.mgmt.opState = .parking ∧ t.cmd.quiet = true)) ∧
          (s.NoWrap → s.RaisedFrom t .actuatorSilent (.actuator a) p.escalation) ∧ s.OnlyRpq t ∧
          { t with cmd := s.cmd, notice := s.notice, port := s.port, tally := s.tally } = s) ∧
      (p.retryLimit + 1 ≤ o.attempts → p.timeoutAction = .persist → s.mgmt.opState ≠ .parking →
        ∃ t, exec (.ackTimerExpiry a) s = .next t ∧
          (t.cmd.delivery.get a).outstanding = some ⟨o.tag, o.value, o.attempts, .due, true⟩ ∧
          (o.persisting = false → (t.cmd.delivery.get a).failed = true ∧
            (t.noticeRecord .actuatorSilent).pending = true) ∧
          t.cmd.due = s.cmd.due ++ [a] ∧ t.cmd.cmq = s.cmd.cmq ∧
          t.cmd = { s.cmd with
            due := s.cmd.due ++ [a]
            delivery := s.cmd.delivery.set a { s.cmd.delivery.get a with
              outstanding := some ⟨o.tag, o.value, o.attempts, .due, true⟩
              ackTimer := none
              failed := if o.persisting then (s.cmd.delivery.get a).failed else true } } ∧
          (o.persisting = false → s.RaisedFrom t .actuatorSilent (.actuator a) p.escalation) ∧
          (o.persisting = true → t.notice = s.notice ∧ t.port = s.port) ∧
          { t with cmd := s.cmd, notice := s.notice, port := s.port } = s))

/-- An abandonment under FLUSH, no entry damaged: CMQ is emptied, no actuator keeps a pending value or an outstanding
command, the queue is halted, the other actuators' commands leave their tags as last abandoned tags with their failed
flags as they are, ABANDONED is given for each command dropped, ACTUATOR_SILENT and then COMMANDS_HALTED are raised,
and in PARKING the completion is reported. No block but the Command Engine, the tallies, the notices and RPQ changes. -/
def Obligations.FlushEmptiesAndHaltsTheQueue : Prop :=
  ∀ (s : State) (a : Actuator) (o : Outstanding), s.alive = true → s.Undamaged →
    (s.cmd.delivery.get a).outstanding = some o → o.phase = .waiting →
    s.mgmt.params.content.retryLimit + 1 ≤ o.attempts →
    (s.mgmt.params.content.timeoutAction = .abandon ∨ s.mgmt.opState = .parking) →
    s.mgmt.params.content.failurePolicy = .flush →
    ∃ t, exec (.ackTimerExpiry a) s = .next t ∧ t.cmd.cmq = [] ∧ t.cmd.halted = true ∧
      (∀ b, (t.cmd.delivery.get b).outstanding = none ∧ (t.cmd.delivery.get b).pendingValue = none) ∧
      (t.cmd.delivery.get a).failed = true ∧ (t.cmd.delivery.get a).lastAbandoned = some o.tag ∧
      (∀ b p, b ≠ a → (s.cmd.delivery.get b).outstanding = some p →
        (t.cmd.delivery.get b).lastAbandoned = some p.tag ∧
        (t.cmd.delivery.get b).failed = (s.cmd.delivery.get b).failed) ∧
      (t.noticeRecord .actuatorSilent).pending = true ∧ (t.noticeRecord .commandsHalted).pending = true ∧
      (t.noticeRecord .commandsHalted).detail = some (.actuator a) ∧
      (let n := [Actuator.flap, .blower, .carbon, .demist].countP fun b => (s.cmd.delivery.get b).outstanding.isSome
       t.tally = (s.countAll (List.replicate n .abandoned)).tally) ∧
      (∀ b, t.cmd.delivery.get b = { s.cmd.delivery.get b with
        pendingValue := none
        outstanding := none
        ackTimer := if (s.cmd.delivery.get b).outstanding.isSome then none else (s.cmd.delivery.get b).ackTimer
        failed := decide (b = a) || (s.cmd.delivery.get b).failed
        lastAbandoned := match (s.cmd.delivery.get b).outstanding with
          | some c => some c.tag
          | none => (s.cmd.delivery.get b).lastAbandoned }) ∧
      (s.cmd.Sound → t.cmd.due = []) ∧ t.cmd.entries = s.cmd.entries ∧ t.cmd.tagCounter = s.cmd.tagCounter ∧
      t.cmd.completion = (s.cmd.completion || decide (s.mgmt.opState = .parking)) ∧
      ((∀ i : Fin 4, s.tally.tallies[i].notify = true → s.tally.tallies[i].value.toNat + 4 < 2 ^ 32) →
        ∃ n p, let silent := { s with notice := n, port := p }
          s.RaisedFrom silent .actuatorSilent (.actuator a) s.mgmt.params.content.escalation ∧
            silent.RaisedFrom t .commandsHalted (.actuator a) s.mgmt.params.content.escalation) ∧ s.OnlyRpq t ∧
      { t with cmd := s.cmd, notice := s.notice, port := s.port, tally := s.tally } = s

/-! ### Slots and timers -/

/-- The stale timer of a slot expires, no entry damaged: the second it ends is counted, a FAULT slot stays as it is;
any other becomes STALE, its pending jump gone and its comparators' progress 0 with their states, the value and the
history kept; its report goes to the Controller, and INPUT_LOST is raised for a role slot only, with its count, its
frame and its escalation timer. A timer that has not run out, stopped or started again by an acceptance taken before,
has no expiry. A slot whose setup is faulted stays FAULT, also one emptied since (log entry 26, DEDUCED): its expiry
changes nothing but the timer and the second it ends. -/
def Obligations.StaleTimersMakeTheirSlotsStale : Prop :=
  (∀ (s : State) (i : Fin 32), s.alive = true → s.Undamaged →
    let sl := s.quantity.slots[i]
    let age := if 1000 ≤ sl.agePart then min 255 (sl.age + 1) else sl.age
    let part := if 1000 ≤ sl.agePart then 0 else sl.agePart
    (sl.staleTimer ≠ some 0 → exec (.staleTimerExpiry i) s = .next s) ∧
    (sl.staleTimer = some 0 → sl.status = .fault →
      exec (.staleTimerExpiry i) s =
        .next (s.onSlot i fun x => { x with age := age, agePart := part, staleTimer := none })) ∧
    (sl.staleTimer = some 0 → sl.status ≠ .fault →
      ∃ t, exec (.staleTimerExpiry i) s = .next t ∧
        t.quantity = { s.quantity with slots := s.quantity.slots.set i { sl with
          status := .stale
          age := age
          agePart := part
          pendingJump := none
          staleTimer := none
          compA := ⟨sl.compA.isSet, 0⟩
          compB := ⟨sl.compB.isSet, 0⟩ } } ∧
        t.ctrl = { s.ctrl with reports := s.ctrl.reports ++ [.slot i ⟨.stale, sl.compA.isSet, sl.compB.isSet⟩] } ∧
        ((∃ r, s.ctrl.bindings.get r = some i) →
          (t.noticeRecord .inputLost).pending = true ∧ (t.noticeRecord .inputLost).detail = some (.slot i) ∧
          s.RaisedFrom t .inputLost (.slot i) s.mgmt.params.content.escalation) ∧
        ((∀ r, s.ctrl.bindings.get r ≠ some i) → t.notice = s.notice ∧ t.port = s.port) ∧
        t.timer = s.timer ∧ t.cmd = s.cmd ∧ t.mgmt = s.mgmt ∧ t.intake = s.intake ∧ t.tally = s.tally ∧
        t.integ = s.integ ∧ t.park = s.park)) ∧
  (∀ (s : State) (i : Fin 32), s.alive = true → s.isFaulted (.slotSetup i) = true →
    let sl := s.quantity.slots[i]
    let ended := s.onSlot i fun x => { x with
      age := if 1000 ≤ sl.agePart then min 255 (sl.age + 1) else sl.age
      agePart := if 1000 ≤ sl.agePart then 0 else sl.agePart
      staleTimer := none }
    sl.staleTimer = some 0 → exec (.staleTimerExpiry i) s = .next ended ∧ (ended.slotSeen i).status = .fault)

/-- The recovery timer's expiry gives RECOVERIES_DONE, re-arms the measurement and reports; the override timer's takes
the record away and reports. Nothing else changes; a timer that does not run has no expiry, and an override timer that
a new OVERRIDE has started again has none either. -/
def Obligations.RecoveryAndOverrideTimersExpire : Prop :=
  ∀ s : State, s.alive = true →
    (s.timer.recovery = none → exec .recoveryTimerExpiry s = .next s) ∧
    (s.timer.recovery.isSome = true →
      exec .recoveryTimerExpiry s = .next (((s.onTimer fun t =>
        { t with recovery := none, measurement := ⟨0, false, 0⟩ }).count .recoveriesDone).reportTimers)) ∧
    (s.timer.overrideTimer ≠ some 0 → exec .overrideTimerExpiry s = .next s) ∧
    (s.timer.overrideTimer = some 0 →
      exec .overrideTimerExpiry s = .next
        (s.onTimer fun t => { t with overrideTimer := none, overrideRecord := none }).reportTimers)

/-- The purge timer's expiry, no entry damaged. STUFFY false: the count becomes 0; a gap timer that runs behind a
purge of PURGE_START goes on (the model's reading: log entry 27, DEDUCED). STUFFY true below the limit: the count
rises and the gap timer starts with PURGE_GAP; at the limit with CO2_HIGH false CO2_UNRESOLVED is raised with the
count and no gap starts; with CO2_HIGH true the gap ends at once, which with the mode SHIELD is a purge start where
nothing forbids it. Each ends with the report. The gap timer's expiry starts a purge in SHIELD with STUFFY true where
nothing forbids it, reporting that start, and otherwise only ends the gap. -/
def Obligations.PurgeAndGapTimersExpire : Prop :=
  ∀ s : State, s.alive = true → s.Undamaged →
    let p := s.mgmt.params.content
    let n := min (min s.timer.purgeCount p.purgeLimit + 1) p.purgeLimit
    (s.timer.purge = none → exec .purgeTimerExpiry s = .next s) ∧
    (s.timer.purge.isSome = true → s.timer.heldStuffy = false →
      exec .purgeTimerExpiry s = .next (s.onTimer fun t => { t with purge := none, purgeCount := 0 }).reportTimers) ∧
    (s.timer.purge.isSome = true → s.timer.heldStuffy = true → s.timer.heldCo2High = false →
      s.timer.purgeCount + 1 < p.purgeLimit →
      exec .purgeTimerExpiry s = .next (s.onTimer fun t =>
        { t with purge := none, purgeCount := s.timer.purgeCount + 1, gap := some (p.purgeGap * 1000) }).reportTimers) ∧
    (s.timer.purge.isSome = true → s.timer.heldStuffy = true → s.timer.heldCo2High = false →
      p.purgeLimit ≤ s.timer.purgeCount + 1 →
      ∃ t, exec .purgeTimerExpiry s = .next t ∧
        t.timer = { s.timer with purge := none, purgeCount := p.purgeLimit } ∧
        (t.noticeRecord .co2Unresolved).pending = true ∧
        (t.noticeRecord .co2Unresolved).detail = some (.purgeCount p.purgeLimit) ∧
        s.RaisedFrom t .co2Unresolved (.purgeCount p.purgeLimit) p.escalation ∧
        t.ctrl = { s.ctrl with reports := s.ctrl.reports ++ [.timers t.timer.view] } ∧
        t.quantity = s.quantity ∧ t.intake = s.intake ∧ t.cmd = s.cmd ∧ t.mgmt = s.mgmt ∧ t.tally = s.tally ∧
        t.integ = s.integ ∧ t.park = s.park) ∧
    (s.timer.purge.isSome = true → s.timer.heldStuffy = true → s.timer.heldCo2High = true →
      s.timer.heldMode ≠ .shield →
      exec .purgeTimerExpiry s = .next
        (s.onTimer fun t => { t with purge := none, purgeCount := n, gap := none }).reportTimers) ∧
    (s.timer.purge.isSome = true → s.timer.heldStuffy = true → s.timer.heldCo2High = true →
      s.timer.heldMode = .shield →
      let again := s.mgmt.opState = .run ∧ s.timer.doorOpen = false ∧ p.enablesPurge = true
      (again → exec .purgeTimerExpiry s = .next (s.onTimer fun t =>
        { t with purge := some (p.purgeLength * 1000), purgeCount := n, gap := none }).reportTimers) ∧
      (¬again → exec .purgeTimerExpiry s = .next (s.onTimer fun t =>
        { t with purge := none, purgeCount := n, gap := none }).reportTimers)) ∧
    (s.timer.gap = none → exec .gapTimerExpiry s = .next s) ∧
    (s.timer.gap.isSome = true →
      (s.timer.heldMode ≠ .shield ∨ s.timer.heldStuffy = false ∨ s.mgmt.opState ≠ .run ∨ s.timer.doorOpen = true ∨
        s.timer.purge.isSome = true ∨ p.enablesPurge = false) →
      exec .gapTimerExpiry s = .next (s.onTimer fun t => { t with gap := none })) ∧
    (s.timer.gap.isSome = true → s.timer.heldMode = .shield → s.timer.heldStuffy = true → s.mgmt.opState = .run →
      s.timer.doorOpen = false → s.timer.purge = none → p.enablesPurge = true →
      ((s.timer.purgeCount < p.purgeLimit ∨ s.timer.heldCo2High = true) →
        exec .gapTimerExpiry s = .next (s.onTimer fun t =>
          { t with gap := none, purgeCount := min t.purgeCount p.purgeLimit,
                   purge := some (p.purgeLength * 1000) }).reportTimers) ∧
      (p.purgeLimit ≤ s.timer.purgeCount → s.timer.heldCo2High = false →
        exec .gapTimerExpiry s = .next (s.onTimer fun t => { t with gap := none, purgeCount := p.purgeLimit })))

/-- The oldest hand-over taken, no entry damaged. STUFFY true in SHIELD, or SHIELD with STUFFY true (held, or handed
over with it) and the gap timer stopped or CO2_HIGH true, starts the purge where nothing forbids it; SHIELD behind a
running gap does not, nor where something forbids it: a count at PURGE_LIMIT then stays there. SAFE stops the purge
and gap timers. SEVERE true stops a running purge under SEVERE_STOP with CO2_HIGH false, counting it and starting the
gap; it ends a FRESH override with OVERRIDE_CANCELLED, also together with that stop, and leaves a RECIRC one. STUFFY
false outside a purge clears the count and the gap; during one it touches neither. Any other hand-over, of CO2_HIGH, of
SEVERE false, of another mode, of STUFFY true in another mode, is held and starts and stops nothing. Each ends with the
report. -/
def Obligations.HandoversStartAndStopThePurge : Prop :=
  ∀ (s : State) (rest : List Handover), s.alive = true → s.Undamaged →
    let p := s.mgmt.params.content
    let mayStart := s.mgmt.opState = .run ∧ s.timer.doorOpen = false ∧ s.timer.purge = none ∧ p.enablesPurge = true ∧
      (s.timer.purgeCount < p.purgeLimit ∨ s.timer.heldCo2High = true)
    (s.timer.handovers = [] → exec .controllerHandover s = .next s) ∧
    (s.timer.handovers = ⟨none, some true, none, none⟩ :: rest → s.timer.heldMode = .shield → mayStart →
      exec .controllerHandover s = .next (s.onTimer fun t =>
        { t with handovers := rest, heldStuffy := true, purgeCount := min t.purgeCount p.purgeLimit,
                 purge := some (p.purgeLength * 1000) }).reportTimers) ∧
    (s.timer.handovers = ⟨some .shield, none, none, none⟩ :: rest → s.timer.heldStuffy = true →
      (mayStart → (s.timer.gap = none ∨ s.timer.heldCo2High = true) →
        exec .controllerHandover s = .next (s.onTimer fun t =>
          { t with handovers := rest, heldMode := .shield, purgeCount := min t.purgeCount p.purgeLimit,
                   purge := some (p.purgeLength * 1000) }).reportTimers) ∧
      (s.timer.gap.isSome = true → s.timer.heldCo2High = false →
        exec .controllerHandover s = .next
          (s.onTimer fun t => { t with handovers := rest, heldMode := .shield }).reportTimers)) ∧
    (s.timer.handovers = ⟨some .shield, some true, none, none⟩ :: rest →
      (mayStart → (s.timer.gap = none ∨ s.timer.heldCo2High = true) →
        exec .controllerHandover s = .next (s.onTimer fun t =>
          { t with handovers := rest, heldMode := .shield, heldStuffy := true,
                   purgeCount := min t.purgeCount p.purgeLimit,
                   purge := some (p.purgeLength * 1000) }).reportTimers) ∧
      (s.timer.gap.isSome = true → s.timer.heldCo2High = false →
        exec .controllerHandover s = .next
          (s.onTimer fun t => { t with handovers := rest, heldMode := .shield, heldStuffy := true }).reportTimers)) ∧
    (s.timer.handovers = ⟨some .safe, none, none, none⟩ :: rest →
      exec .controllerHandover s = .next (s.onTimer fun t =>
        { t with handovers := rest, heldMode := .safe, purge := none, gap := none }).reportTimers) ∧
    (s.timer.handovers = ⟨none, none, some true, none⟩ :: rest →
      (s.timer.purge.isSome = true → s.timer.heldCo2High = false → p.severeStop = true →
        s.timer.overrideRecord = none →
        exec .controllerHandover s = .next (s.onTimer fun t =>
          { t with handovers := rest, heldSevere := true, purge := none, gap := some (p.purgeGap * 1000),
                   purgeCount := min (min t.purgeCount p.purgeLimit + 1) p.purgeLimit }).reportTimers) ∧
      (s.timer.purge.isSome = true → s.timer.heldCo2High = false → p.severeStop = true →
        ∀ r, s.timer.overrideRecord = some r →
          (r.flap = .fresh → exec .controllerHandover s = .next ((s.onTimer fun t =>
            { t with handovers := rest, heldSevere := true, purge := none, gap := some (p.purgeGap * 1000),
                     purgeCount := min (min t.purgeCount p.purgeLimit + 1) p.purgeLimit, overrideTimer := none,
                     overrideRecord := none }).raiseRecord .overrideCancelled (.origin r.origin)).reportTimers) ∧
          (r.flap = .recirc → exec .controllerHandover s = .next (s.onTimer fun t =>
            { t with handovers := rest, heldSevere := true, purge := none, gap := some (p.purgeGap * 1000),
                     purgeCount := min (min t.purgeCount p.purgeLimit + 1) p.purgeLimit }).reportTimers)) ∧
      (s.timer.purge = none ∨ s.timer.heldCo2High = true ∨ p.severeStop = false →
        (∀ r, s.timer.overrideRecord = some r → r.flap = .fresh →
          exec .controllerHandover s = .next ((s.onTimer fun t =>
            { t with handovers := rest, heldSevere := true, overrideTimer := none,
                     overrideRecord := none }).raiseRecord .overrideCancelled (.origin r.origin)).reportTimers) ∧
        ((∀ r, s.timer.overrideRecord = some r → r.flap = .recirc) →
          exec .controllerHandover s = .next
            (s.onTimer fun t => { t with handovers := rest, heldSevere := true }).reportTimers))) ∧
    (s.timer.handovers = ⟨none, some false, none, none⟩ :: rest →
      (s.timer.purge = none →
        exec .controllerHandover s = .next (s.onTimer fun t =>
          { t with handovers := rest, heldStuffy := false, purgeCount := 0, gap := none }).reportTimers) ∧
      (s.timer.purge.isSome = true →
        exec .controllerHandover s = .next
          (s.onTimer fun t => { t with handovers := rest, heldStuffy := false }).reportTimers)) ∧
    (∀ h : Handover, s.timer.handovers = h :: rest → h.severe ≠ some true → h.stuffy ≠ some false →
      let held := fun t : TimerUnit => { t with
        handovers := rest
        heldMode := h.mode.getD t.heldMode
        heldStuffy := h.stuffy.getD t.heldStuffy
        heldSevere := h.severe.getD t.heldSevere
        heldCo2High := h.co2High.getD t.heldCo2High }
      let after := held s.timer
      let barred := s.mgmt.opState ≠ .run ∨ s.timer.doorOpen = true ∨ s.timer.purge.isSome = true ∨
        p.enablesPurge = false
      let start := (h.mode = some .shield ∧ after.heldStuffy = true ∧
          (s.timer.gap = none ∨ after.heldCo2High = true)) ∨
        (h.mode = none ∧ h.stuffy = some true ∧ s.timer.heldMode = .shield)
      (h.mode ≠ some .safe → ¬start ∨ barred →
        exec .controllerHandover s = .next (s.onTimer held).reportTimers) ∧
      (start → ¬barred → p.purgeLimit ≤ s.timer.purgeCount → after.heldCo2High = false →
        exec .controllerHandover s =
          .next (s.onTimer fun t => { held t with purgeCount := p.purgeLimit }).reportTimers))

/-! ### The Controller -/

/-- A report taken, no entry damaged: the conditions are derived from the bindings and the reported slots, the SAFE
causes after them. In RUN a change of a condition or cause, and any report of the Timer Unit, has the mode chosen by
precedence; otherwise, and outside RUN, it stays. A new mode is handed over with the changed conditions, raises
MODE_CHANGE, shows on the AIR lamp and brings its targets; a change of DIRTY_IN brings the targets again; else no
target changes. Of the targets handed over, one already held changes nothing; a changed one is recorded, and for a
present actuator of a queue not halted becomes the pending value, in place or as CMQ's newest member in index order;
outstanding, reported, failed and the last abandoned tag stay. CLOGGED becoming true raises FILTER_CLOGGED, ahead of
MODE_CHANGE. Without a report nothing happens. The conditions and the SAFE causes are those of R3 to R7, R10 and R11,
row by row, the precedence is the list of R13, the AIR lamp the table of R162, and the lamps' lit times those of R161. -/
def Obligations.ReportsDeriveTheConditionsAndTheMode : Prop :=
  (∀ (s : State) (src : ReportSource), s.alive = true → s.Undamaged → s.ModeFollows →
    ((∀ r ∈ s.ctrl.reports, r.source ≠ src) → exec (.controllerReport src) s = .next s) ∧
    (∀ r, (s.ctrl.reports.find? fun x => x.source == src) = some r →
      ∃ t, exec (.controllerReport src) s = .next t ∧
        t.ctrl.conditions = deriveConditions s.ctrl.bindings (s.ctrl.told r).slotViews ∧
        t.ctrl.causes = deriveCauses s.mgmt.params.content.criticalRoles (s.ctrl.told r) ∧
        t.ctrl = { s.ctrl.told r with
          conditions := t.ctrl.conditions
          causes := t.ctrl.causes
          mode := t.ctrl.mode
          reports := s.ctrl.reports.erase r } ∧
        (s.mgmt.opState = .run →
          t.ctrl.conditions ≠ s.ctrl.conditions ∨ t.ctrl.causes ≠ s.ctrl.causes ∨ src = .timerUnit →
          t.ctrl.mode = s.precedenceMode t.ctrl) ∧
        (s.mgmt.opState ≠ .run ∨ (t.ctrl.conditions = s.ctrl.conditions ∧ t.ctrl.causes = s.ctrl.causes ∧
          src ≠ .timerUnit) → t.ctrl.mode = s.ctrl.mode) ∧
        (let h := conditionChanges s.ctrl.conditions t.ctrl.conditions;
          t.timer = { s.timer with handovers := s.timer.handovers ++
            (if t.ctrl.mode ≠ s.ctrl.mode then [{ h with mode := some t.ctrl.mode }]
              else if h = ⟨none, none, none, none⟩ then [] else [h]) }) ∧
        (t.ctrl.mode ≠ s.ctrl.mode → (t.noticeRecord .modeChange).pending = true ∧
          (t.noticeRecord .modeChange).detail = some (.mode t.ctrl.mode) ∧
          t.notice.airLamp.pattern = airPattern t.ctrl.mode) ∧
        (t.ctrl.mode ≠ s.ctrl.mode ∨ t.ctrl.conditions.dirtyIn ≠ s.ctrl.conditions.dirtyIn →
          (t.ctrl.mode = .manual → s.timer.overrideRecord.isSome = true) →
          ∀ a, (t.cmd.delivery.get a).target =
            some (PowerOn.targetOf (s.targetsFor t.ctrl.mode t.ctrl.conditions.dirtyIn) a)) ∧
        (t.ctrl.mode ≠ s.ctrl.mode ∨ t.ctrl.conditions.dirtyIn ≠ s.ctrl.conditions.dirtyIn →
          (t.ctrl.mode = .manual → s.timer.overrideRecord.isSome = true) →
          s.TargetsHanded t (s.targetsFor t.ctrl.mode t.ctrl.conditions.dirtyIn)) ∧
        t.cmd.completion = s.cmd.completion ∧
        (let clogs := s.ctrl.conditions.clogged = false ∧ t.ctrl.conditions.clogged = true
         ∃ n p, let told := { s with notice := n, port := p }
          (clogs → ∀ i, s.ctrl.bindings.filterDp = some i → s.RaisedFrom told .filterClogged (.slot i) 0) ∧
          (¬clogs → told = s) ∧
          (t.ctrl.mode ≠ s.ctrl.mode →
            (told.airTurned t.ctrl.mode).RaisedFrom t .modeChange (.mode t.ctrl.mode) 0) ∧
          (t.ctrl.mode = s.ctrl.mode → t.notice = n ∧ t.port = p)) ∧
        (t.ctrl.mode = s.ctrl.mode → t.ctrl.conditions.dirtyIn = s.ctrl.conditions.dirtyIn → t.cmd = s.cmd) ∧
        (∀ i, s.ctrl.bindings.filterDp = some i → s.ctrl.conditions.clogged = false → t.ctrl.conditions.clogged = true →
          (t.noticeRecord .filterClogged).pending = true ∧ (t.noticeRecord .filterClogged).detail = some (.slot i)) ∧
        t.quantity = s.quantity ∧ t.intake = s.intake ∧ t.mgmt = s.mgmt ∧ t.tally = s.tally ∧ t.integ = s.integ ∧
        t.park = s.park)) ∧
  (∀ (b : PerRole (Option (Fin 32))) (views : Vector SlotView 32),
    let usable := fun (r : Role) (p : SlotView → Bool) => ∃ i, b.get r = some i ∧
      (views[i].status = .fresh ∨ views[i].status = .suspect) ∧ p views[i] = true
    let c := deriveConditions b views
    (c.dirtyOut = true ↔ ¬usable .outPm (fun _ => true) ∨ usable .outPm (·.compA) ∨ usable .outGas (·.compA)) ∧
    (c.severe = true ↔ usable .outPm (·.compB)) ∧ (c.stuffy = true ↔ usable .cabCo2 (·.compA)) ∧
    (c.co2High = true ↔ usable .cabCo2 (·.compB)) ∧ (c.fog = true ↔ usable .cabRh (·.compA)) ∧
    (c.dirtyIn = true ↔ usable .cabPm (·.compA)) ∧ (c.clogged = true ↔ usable .filterDp (·.compA))) ∧
  (∀ (critical : Byte) (c : Controller),
    (deriveCauses critical c).tableFault = c.faultsReported ∧
    ((deriveCauses critical c).inputLost = true ↔ ∃ (r : Role) (i : Fin 32), critical.getLsbD r.bit = true ∧
      c.bindings.get r = some i ∧ (c.slotViews[i].status = .stale ∨ c.slotViews[i].status = .fault))) ∧
  (∀ (s : State) (c : Controller),
    let m := s.precedenceMode c
    let safe := c.causes.tableFault = true ∨ c.causes.inputLost = true
    let door := c.timerView.door1Open = true ∨ c.timerView.door2Open = true
    let demist := c.conditions.fog = true ∧ s.mgmt.params.content.modeEnable.getLsbD 2 = true
    (safe → m = .safe) ∧ (¬safe → door → m = .door) ∧
    (¬safe → ¬door → c.timerView.override = true → m = .manual) ∧
    (¬safe → ¬door → c.timerView.override = false →
      (c.timerView.recovery = true → m = .recover) ∧
      (c.timerView.recovery = false → demist → m = .demist) ∧
      (c.timerView.recovery = false → ¬demist →
        (c.timerView.purge = true → m = .purge) ∧
        (c.timerView.purge = false → c.conditions.dirtyOut = true → m = .shield) ∧
        (c.timerView.purge = false → c.conditions.dirtyOut = false → m = .fresh)))) ∧
  ([Mode.fresh, .shield, .purge, .door, .recover, .demist, .manual, .safe, .park].map airPattern =
      [.off, .on, .slow, .on, .on, .off, .fast, .double, .off] ∧
    (∀ n, (⟨.off, n⟩ : Lamp).lit = false ∧ (⟨.on, n⟩ : Lamp).lit = true ∧
      ((⟨.slow, n⟩ : Lamp).lit = true ↔ n < 1000) ∧ ((⟨.fast, n⟩ : Lamp).lit = true ↔ n < 250) ∧
      ((⟨.double, n⟩ : Lamp).lit = true ↔ n < 125 ∨ (250 ≤ n ∧ n < 375))) ∧
    (∀ r : ModeRecord, [Actuator.flap, .blower, .carbon, .demist].map (PowerOn.targetOf r) =
      [r.flap, r.blower, if r.carbon then 1 else 0, if r.demist then 1 else 0]))

/-! ### Doors, parking and waking -/

/-- A level that stands already changes nothing; a level back at the debounced state stops the debounce; another starts
it with the line's time, 20 or 200 ms, no entry damaged. A debounce's end gives the line its level. In RUN the first
door to open gives OPENINGS, cuts a running recovery with the measurement going on from its value, or starts it from
0, and stops the purge and the pre-clean; the last to close holds the measurement and starts the recovery of the bin
looked up, or re-arms it; the others only report. In CONFIG an opening is counted and reported. The lookup picks,
of the bins that qualify, the largest threshold, and of these the first. -/
def Obligations.DoorsAreDebouncedMeasuredAndFollowed : Prop :=
  (∀ (s : State) (d : Door) (low : Bool), s.alive = true → s.Undamaged →
    ((s.timer.doors.get d).rawLow = low → exec (.doorLevelChange d low) s = .next s) ∧
    ((s.timer.doors.get d).rawLow ≠ low → (s.timer.doors.get d).isOpen = low →
      exec (.doorLevelChange d low) s = .next (s.onDoor d fun l => { l with rawLow := low, debounce := none })) ∧
    ((s.timer.doors.get d).rawLow ≠ low → (s.timer.doors.get d).isOpen ≠ low →
      exec (.doorLevelChange d low) s = .next (s.onDoor d fun l =>
        { l with rawLow := low, debounce := some (if s.mgmt.params.content.debounceOf d = .short then 20 else 200) }))) ∧
  (∀ (s : State) (d : Door) (busy : LinesBusy), s.alive = true → s.Undamaged →
    let line := s.timer.doors.get d
    let s1 := s.onDoor d fun l => { l with isOpen := l.rawLow, debounce := none }
    (line.debounce = none → exec (.debounceEnd d busy) s = .next s) ∧
    (line.debounce.isSome = true →
      (s.mgmt.opState = .config → s.timer.doorOpen = false → line.rawLow = true →
        exec (.debounceEnd d busy) s = .next (s1.count .openings).reportTimers) ∧
      (s.mgmt.opState = .config → s.timer.doorOpen = true ∨ line.rawLow = false →
        exec (.debounceEnd d busy) s = .next s1.reportTimers) ∧
      (s.mgmt.opState = .parking → line.rawLow = false →
        exec (.debounceEnd d busy) s = .next s1.reportTimers) ∧
      (s.mgmt.opState = .run → s.timer.doorOpen = s1.timer.doorOpen →
        exec (.debounceEnd d busy) s = .next ((if line.rawLow then s1.onPark fun p => { p with preclean := none }
          else s1).reportTimers)) ∧
      (s.mgmt.opState = .run → s.timer.doorOpen = false → line.rawLow = true →
        ∃ t, exec (.debounceEnd d busy) s = .next t ∧
          t.timer = { s1.timer with
            recovery := none
            purge := none
            measurement := ⟨if s.timer.recovery.isSome then s.timer.measurement.value else 0, true, 0⟩ } ∧
          t.park = { s.park with preclean := none } ∧
          t.ctrl = { s.ctrl with reports := s.ctrl.reports ++ [.timers t.timer.view] } ∧
          t.tally = (if s.timer.recovery.isSome then (s.count .openings).count .recoveriesCut
            else s.count .openings).tally ∧
          t.cmd = s.cmd ∧ t.mgmt = s.mgmt ∧ t.quantity = s.quantity ∧ t.intake = s.intake ∧ t.integ = s.integ) ∧
      (s.mgmt.opState = .run → s.timer.doorOpen = true → s1.timer.doorOpen = false →
        (∀ b, pickBin s.timer.measurement.value (s.timer.bins.toList.map (·.content)) = some b →
          s.mgmt.params.content.enablesRecover = true →
          exec (.debounceEnd d busy) s = .next (s1.onTimer fun t => { t with
            measurement := ⟨s.timer.measurement.value, false, 0⟩
            recovery := some (b.length * 1000) }).reportTimers) ∧
        (pickBin s.timer.measurement.value (s.timer.bins.toList.map (·.content)) = none ∨
          s.mgmt.params.content.enablesRecover = false →
          exec (.debounceEnd d busy) s = .next
            (s1.onTimer fun t => { t with measurement := ⟨0, false, 0⟩ }).reportTimers)))) ∧
  (∀ (m : Nat) (l : List RecoveryBin),
    (pickBin m l = none ↔ ∀ b ∈ l, b.length = 0 ∨ m < b.threshold) ∧
    (∀ b, pickBin m l = some b → ∃ xs ys, l = xs ++ b :: ys ∧ 0 < b.length ∧ b.threshold ≤ m ∧
      (∀ c ∈ xs, 0 < c.length → c.threshold ≤ m → c.threshold < b.threshold) ∧
      (∀ c ∈ ys, 0 < c.length → c.threshold ≤ m → c.threshold ≤ b.threshold)))

/-- The completion report taken while the device is not PARKING, or not quiet, is ignored. Taken in PARKING with CMQ
empty and no command outstanding, no entry damaged and no report waiting: PARKED and PARK; every slot EMPTY with no
timer running; the conditions those of empty slots; the last tags absent and the thin counters kept; closed lines
armed and open ones not; the wake timer running for the stored minutes, if any; the interval and scrub timers stopped;
no notice raised. A door line that becomes OPEN in PARKING cancels it instead: RUN, DOOR or SAFE, the measurement
counting from 0, OPENINGS if no door was open, MODE_CHANGE, the mode handed to the Timer Unit and the new targets to
the Command Engine. That OPENINGS, with a wrap's TALLY_OVERFLOW, stands ahead of MODE_CHANGE is the model's reading
(log entry 25, DEDUCED). With entries on the Fault List, no damage being new, PARKED entry empties every slot's own state
too, also where the setup is faulted; such a slot is seen FAULT all the same, to the Controller too, and one of a critical
role keeps INPUT_LOST a SAFE cause (the model's reading: log entry 26, DEDUCED). -/
def Obligations.ParkingCompletesOrIsCancelled : Prop :=
  (∀ s : State, s.alive = true → s.Undamaged →
    (s.cmd.completion = false → exec .parkedEntry s = .next s) ∧
    (s.cmd.completion = true → s.mgmt.opState ≠ .parking ∨ s.cmd.quiet = false →
      exec .parkedEntry s = .next (s.onCmd fun c => { c with completion := false })) ∧
    (s.cmd.completion = true → s.mgmt.opState = .parking → s.cmd.quiet = true → s.ctrl.mode = .park →
      s.ctrl.reports = [] →
      ∃ t, exec .parkedEntry s = .next t ∧ t.mgmt.opState = .parked ∧ t.ctrl.mode = .park ∧
        (∀ i : Fin 32, t.quantity.slots[i] =
          ⟨.empty, none, 0, 0, none, [], none, 0, ⟨false, 0⟩, ⟨false, 0⟩⟩) ∧
        t.quantity.setups = s.quantity.setups ∧
        t.ctrl.conditions = ⟨true, false, false, false, false, false, false⟩ ∧ t.ctrl.causes.inputLost = false ∧
        (∀ i : Fin 64, t.intake.dyn[i] = ⟨s.intake.dyn[i].thin, none⟩) ∧ t.intake.map = s.intake.map ∧
        (∀ d, t.park.armed.get d = !(s.timer.doors.get d).isOpen) ∧
        t.park.wakeTimer =
          (if s.park.wakeMinutes = 0 then none else some (s.park.wakeMinutes * 60 * 1000)) ∧
        t.tally = { s.tally with interval := none } ∧ t.integ = { s.integ with scrubTimer := none } ∧
        t.notice = s.notice ∧ t.port = s.port ∧ t.cmd = { s.cmd with completion := false }) ∧
    (∀ (d : Door) (busy : LinesBusy), (s.timer.doors.get d).debounce.isSome = true →
      (s.timer.doors.get d).rawLow = true → s.mgmt.opState = .parking → s.ctrl.mode = .park → s.ctrl.reports = [] →
      ∃ t, exec (.debounceEnd d busy) s = .next t ∧ t.mgmt.opState = .run ∧
        t.ctrl.mode = (if s.ctrl.causes.tableFault || s.ctrl.causes.inputLost then .safe else .door) ∧
        t.timer.doors = s.timer.doors.set d ⟨true, true, none⟩ ∧ t.timer.measurement = ⟨0, true, 0⟩ ∧
        t.park = s.park ∧ t.tally = (if s.timer.doorOpen then s else s.count .openings).tally ∧
        (t.noticeRecord .modeChange).pending = true ∧ (t.noticeRecord .modeChange).detail = some (.mode t.ctrl.mode) ∧
        (∀ a, (t.cmd.delivery.get a).target =
          some (PowerOn.targetOf (s.targetsFor t.ctrl.mode s.ctrl.conditions.dirtyIn) a)) ∧
        (if s.timer.doorOpen then s else s.count .openings).ChangedMode t t.ctrl.mode
          (s.targetsFor t.ctrl.mode s.ctrl.conditions.dirtyIn) ∧ t.cmd.completion = s.cmd.completion ∧
        t.quantity = s.quantity ∧ t.intake = s.intake ∧ t.integ = s.integ ∧ t.mgmt.params = s.mgmt.params)) ∧
  (∀ s : State, s.alive = true → s.OnlyKnownDamage → s.cmd.completion = true → s.mgmt.opState = .parking →
    s.cmd.quiet = true → s.ctrl.mode = .park → s.ctrl.reports = [] →
    ∃ t, exec .parkedEntry s = .next t ∧ t.mgmt.opState = .parked ∧ t.ctrl.mode = .park ∧
      (∀ i : Fin 32, t.quantity.slots[i] = ⟨.empty, none, 0, 0, none, [], none, 0, ⟨false, 0⟩, ⟨false, 0⟩⟩ ∧
        (s.isFaulted (.slotSetup i) = true → (t.slotSeen i).status = .fault)) ∧
      t.ctrl.conditions = ⟨true, false, false, false, false, false, false⟩ ∧ s.ToldOfTheEmptying t ∧
      s.CausesOnceEmptied s.ctrl.faultsReported t.ctrl.causes ∧
      t.ctrl.bindings = s.ctrl.bindings ∧ t.integ = { s.integ with scrubTimer := none } ∧ t.notice = s.notice)

/-- The three wakes, from PARKED, no entry damaged and no report waiting: the park wake timer's expiry, with the
pre-clean timer starting; a good MANAGE frame for node 1 on UP, which is not executed and has no reply; an armed line
of DOOR_WAKE becoming OPEN. START is raised and then MODE_CHANGE, no other frame joins a queue, the new mode's targets
are handed over, and a receiver on whose line a frame is under way waits for idle (log entry 19). A line unarmed or
outside DOOR_WAKE that opens changes its state and no more; one that closes is armed; every other UP arrival is
discarded; no wake timer, no expiry. With a SAFE cause, no damage being new, a wake by the timer gives SAFE; every slot
is as PARKED had it with its age from 0 and, unless UNUSED, its stale timer running, with a faulted setup by some limit
of 1 to 255 s (a free value: log entry 30, DESIGN CHOICE), and seen FAULT (log entry 26, DEDUCED). A parameters entry that
the wake's own read finds faulted, the first fault, has the mode SAFE as well, behind START and TABLE_FAULT. -/
def Obligations.WakesReturnTheDeviceToRun : Prop :=
  (∀ (s : State) (busy : LinesBusy), s.alive = true → s.Undamaged → s.mgmt.opState = .parked → s.ctrl.mode = .park →
    s.ctrl.reports = [] →
    (s.park.wakeTimer = none → exec (.parkWakeTimerExpiry busy) s = .next s) ∧
    (s.park.wakeTimer.isSome = true → ∃ t, exec (.parkWakeTimerExpiry busy) s = .next t ∧ s.Woke t .wakeTimer busy ∧
      t.park.preclean = some (s.mgmt.params.content.precleanLength * 1000) ∧ t.timer.doors = s.timer.doors) ∧
    (∀ r f, s.port.upRx = .taking → classify r = .good f → f.dest = 1 → f.kind = .manage →
      ∃ t, exec (.upArrival r busy) s = .next t ∧ s.Woke t .wakeLink busy ∧ t.park.preclean = s.park.preclean ∧
        t.timer.doors = s.timer.doors) ∧
    (∀ r, s.port.upRx = .waitingIdle ∨ (∀ f, classify r = .good f → f.dest ≠ 1 ∨ f.kind ≠ .manage) →
      exec (.upArrival r busy) s = .next s) ∧
    (∀ d, (s.timer.doors.get d).debounce.isSome = true →
      let s1 := s.onDoor d fun l => { l with isOpen := l.rawLow, debounce := none }
      ((s.timer.doors.get d).rawLow = true → s.park.armed.get d = true → s.mgmt.params.content.wakesOn d = true →
        ∃ t, exec (.debounceEnd d busy) s = .next t ∧ s.Woke t .wakeDoor busy ∧ t.park.preclean = s.park.preclean ∧
          t.timer.doors = s1.timer.doors ∧ t.tally.tallies = s.tally.tallies) ∧
      ((s.timer.doors.get d).rawLow = true → s.park.armed.get d = false ∨ s.mgmt.params.content.wakesOn d = false →
        exec (.debounceEnd d busy) s = .next s1) ∧
      ((s.timer.doors.get d).rawLow = false →
        exec (.debounceEnd d busy) s = .next (s1.onPark fun k => { k with armed := k.armed.set d true })))) ∧
  (∀ (s : State) (busy : LinesBusy), s.alive = true → s.OnlyKnownDamage → s.mgmt.opState = .parked →
    s.ctrl.mode = .park → s.ctrl.reports = [] → s.ctrl.causes ≠ ⟨false, false⟩ → s.park.wakeTimer.isSome = true →
    ∃ t, exec (.parkWakeTimerExpiry busy) s = .next t ∧ t.mgmt.opState = .run ∧ t.ctrl.mode = .safe ∧
      t.Raised .modeChange (.mode .safe) ∧ t.ctrl.causes = s.ctrl.causes ∧ t.integ.faultList = s.integ.faultList ∧
      ∀ i : Fin 32, ∃ timer,
        t.quantity.slots[i] = { s.quantity.slots[i] with age := 0, agePart := 0, staleTimer := timer } ∧
        (s.isFaulted (.slotSetup i) = true →
          (∃ n, 1 ≤ n ∧ n ≤ 255 ∧ timer = some (n * 1000)) ∧ (t.slotSeen i).status = .fault) ∧
        (s.isFaulted (.slotSetup i) = false → timer = if s.quantity.setups[i].content.kind = .unused then none
          else some (s.quantity.setups[i].content.stale * 1000))) ∧
  (∀ (s : State) (c : Instr) (cause : StartCause) (busy : LinesBusy), s.alive = true → s.mgmt.opState = .parked →
    s.ctrl.mode = .park → s.ctrl.reports = [] → s.integ.faultList = [] → 2 ≤ (s.flips .params).length →
    (∀ e, e ≠ .params → s.flips e = []) →
    (c = .parkWakeTimerExpiry busy ∧ s.park.wakeTimer.isSome = true ∧ cause = .wakeTimer) ∨
      (∃ r f, c = .upArrival r busy ∧ s.port.upRx = .taking ∧ classify r = .good f ∧ f.dest = 1 ∧ f.kind = .manage ∧
        cause = .wakeLink) →
    ∃ t, exec c s = .next t ∧ t.mgmt.opState = .run ∧ t.ctrl.mode = .safe ∧ t.ctrl.causes.tableFault = true ∧
      t.ctrl.reports = [] ∧ t.Raised .start (.startCause cause) ∧ t.Raised .tableFault (.entry .params) ∧
      t.Raised .modeChange (.mode .safe) ∧ t.integ.faultList = [.params] ∧ t.integ.scrubTimer = some 100 ∧
      t.timer.handovers.getLast?.bind (·.mode) = some .safe)

/-- The pre-clean timer's expiry, no entry damaged, no report waiting and the mode not PARK: PARKING and PARK with
wake minutes 0 and no reply, whether or not a door is open; the Timer Unit's timers and the pre-clean stopped, the
PARK targets handed to the Command Engine and PARK to the Timer Unit, MODE_CHANGE raised with detail PARK, and the
completion reported if nothing is left to deliver. -/
def Obligations.PrecleanExpiryEntersParking : Prop :=
  ∀ s : State, s.alive = true →
    (s.park.preclean = none → exec .precleanExpiry s = .next s) ∧
    (s.park.preclean.isSome = true → s.Undamaged → s.ctrl.reports = [] → s.ctrl.mode ≠ .park →
      ∃ t, exec .precleanExpiry s = .next t ∧ t.mgmt.opState = .parking ∧ t.ctrl.mode = .park ∧
        t.park = { s.park with preclean := none, wakeMinutes := 0 } ∧ t.timer.Stopped ∧
        t.timer.doors = s.timer.doors ∧ (∀ a, (t.cmd.delivery.get a).target = some 0) ∧
        (t.cmd.quiet = true → t.cmd.completion = true) ∧
        (t.cmd.quiet = false → t.cmd.completion = s.cmd.completion) ∧
        (t.noticeRecord .modeChange).pending = true ∧ (t.noticeRecord .modeChange).detail = some (.mode .park) ∧
        ((s.noticeRecord .modeChange).masked = true → t.port = s.port) ∧
        s.ChangedMode t .park ⟨0, 0, false, false⟩ ∧
        t.intake = s.intake ∧ t.quantity = s.quantity ∧ t.tally = s.tally ∧ t.integ = s.integ ∧
        t.mgmt.params = s.mgmt.params)

/-! ### Escalation, the interval and the scrubber -/

/-- An escalation timer expires outside PARKED, no entry damaged: its kind is escalated and its timer stopped, the
SERVICE lamp shows DOUBLE, and with a panel fitted a NOTICE frame with the kind's detail is built for it, whatever the
mask: PTQ takes it if it has room, and the notice tag counter advances either way. No other kind, queue or block
changes. With no timer running, and in PARKED, nothing happens. -/
def Obligations.EscalationMarksTheKindAndTellsThePanel : Prop :=
  ∀ (s : State) (k : NoticeKind), s.alive = true → s.Undamaged →
    let r := s.noticeRecord k
    let node := s.mgmt.params.content.panelNode
    (r.escalationTimer = none ∨ s.mgmt.opState = .parked → exec (.escalationTimerExpiry k) s = .next s) ∧
    (∀ d, r.escalationTimer.isSome = true → s.mgmt.opState ≠ .parked → r.detail = some d →
      ∃ t, exec (.escalationTimerExpiry k) s = .next t ∧
        t.noticeRecord k = { r with escalated := true, escalationTimer := none } ∧
        (∀ j, j ≠ k → t.noticeRecord j = s.noticeRecord j) ∧ t.notice.serviceLamp.pattern = .double ∧
        t.notice.airLamp = s.notice.airLamp ∧ t.notice.serviceLamp = s.notice.serviceLamp.turned .double ∧
        (node = 0 → t.port = s.port ∧ t.notice.tagCounter = s.notice.tagCounter) ∧
        (node ≠ 0 → t.notice.tagCounter = s.notice.tagCounter + 1 ∧
          t.port = { s.port with ptq := s.port.ptq ++
            (if s.port.ptq.length < 8 then [noticeFrame (byteOf node) s.notice.tagCounter k d] else []) }) ∧
        { t with notice := s.notice, port := s.port } = s)

/-- The interval timer's expiry starts it again and adds to each tally that counts under the mode: 1 to a MODE_TIME
tally with a selected condition holding, 1 to a DOORS tally with OPEN_SECONDS while a door is open, the PM and GAS
amounts to a DOSE tally; modulo 2^32, a wrap setting the overflow flag and raising TALLY_OVERFLOW where notify is
yes, in index order, so that its detail is the highest of the tallies that wrap. Nothing else of a tally changes, and
no block but the notices and RPQ. The sub-events of an event add 1 each to every tally of their group whose mask and
mode filter hold them, with the same wraps, the raises after the last of them. -/
def Obligations.IntervalExpiryAddsToTheTallies : Prop :=
  (∀ s : State, s.alive = true →
    (s.tally.interval = none → exec .intervalTimerExpiry s = .next s) ∧
    (s.tally.interval.isSome = true →
      ∃ t, exec .intervalTimerExpiry s = .next t ∧ t.tally.interval = some 1000 ∧
        (∀ i : Fin 4, t.tally.tallies[i] = { s.tally.tallies[i] with
          value := BitVec.ofNat 32 (s.tally.tallies[i].value.toNat + s.perSecond s.tally.tallies[i])
          overflow := s.tally.tallies[i].overflow ||
            decide (2 ^ 32 ≤ s.tally.tallies[i].value.toNat + s.perSecond s.tally.tallies[i]) }) ∧
        ((∃ i : Fin 4, s.tally.tallies[i].notify = true ∧
            2 ^ 32 ≤ s.tally.tallies[i].value.toNat + s.perSecond s.tally.tallies[i]) →
          (t.noticeRecord .tallyOverflow).pending = true) ∧
        (∀ i : Fin 4, s.tally.tallies[i].notify = true →
          2 ^ 32 ≤ s.tally.tallies[i].value.toNat + s.perSecond s.tally.tallies[i] →
          (∀ j : Fin 4, i < j → s.tally.tallies[j].notify = true →
            s.tally.tallies[j].value.toNat + s.perSecond s.tally.tallies[j] < 2 ^ 32) →
          t.Raised .tallyOverflow (.tally i)) ∧
        s.OnlyRpq t ∧ (∀ k, k ≠ .tallyOverflow → t.noticeRecord k = s.noticeRecord k) ∧
        ((∀ i : Fin 4, s.tally.tallies[i].notify = true →
            s.tally.tallies[i].value.toNat + s.perSecond s.tally.tallies[i] < 2 ^ 32) →
          t.notice = s.notice ∧ t.port = s.port) ∧
        { t with tally := s.tally, notice := s.notice, port := s.port } = s)) ∧
  (∀ (s : State) (u : Tally),
    let c := s.ctrl.conditions
    let has := fun b => u.mask.getLsbD b = true
    (u.filter.getLsbD s.ctrl.mode.code = false → s.perSecond u = 0) ∧
    (u.filter.getLsbD s.ctrl.mode.code = true →
      (u.group = .off ∨ u.group = .samples ∨ u.group = .commands ∨ u.group = .frames → s.perSecond u = 0) ∧
      (u.group = .modeTime →
        (has 0 ∨ (has 1 ∧ c.dirtyOut = true) ∨ (has 2 ∧ c.stuffy = true) ∨ (has 3 ∧ c.dirtyIn = true) ∨
          (has 4 ∧ c.fog = true) ∨ (has 5 ∧ c.severe = true) → s.perSecond u = 1) ∧
        (¬has 0 ∧ ¬(has 1 ∧ c.dirtyOut = true) ∧ ¬(has 2 ∧ c.stuffy = true) ∧ ¬(has 3 ∧ c.dirtyIn = true) ∧
          ¬(has 4 ∧ c.fog = true) ∧ ¬(has 5 ∧ c.severe = true) → s.perSecond u = 0)) ∧
      (u.group = .doors → s.perSecond u = if u.mask.getLsbD 3 && s.timer.doorOpen then 1 else 0) ∧
      (u.group = .dose → ∀ f, (s.cmd.delivery.flap.reported = none ∧ f = 0) ∨
          (∃ r, s.cmd.delivery.flap.reported = some r ∧ f = min 100 r.position) →
        ∀ x y, ((¬has 0 ∨ s.usableValue .outPm = none) ∧ x = 0) ∨
            (has 0 ∧ ∃ v, s.usableValue .outPm = some v ∧ x = v.toNat * f / 100) →
          ((¬has 1 ∨ s.usableValue .outGas = none) ∧ y = 0) ∨
            (has 1 ∧ ∃ v, s.usableValue .outGas = some v ∧ y = v.toNat * f / 100) →
          s.perSecond u = x + y))) ∧
  (∀ (s : State) (es : List SubEvent), es.length ≤ 5 →
    let t := s.countAll es
    let by_ := fun i : Fin 4 => es.countP fun e => s.tally.tallies[i].group == e.group &&
      s.tally.tallies[i].mask.getLsbD e.bit && s.tally.tallies[i].filter.getLsbD s.ctrl.mode.code
    let wraps := fun i : Fin 4 => 2 ^ 32 ≤ s.tally.tallies[i].value.toNat + by_ i
    t.tally.interval = s.tally.interval ∧
    (∀ i : Fin 4, t.tally.tallies[i] = { s.tally.tallies[i] with
      value := BitVec.ofNat 32 (s.tally.tallies[i].value.toNat + by_ i)
      overflow := s.tally.tallies[i].overflow || decide (wraps i) }) ∧
    (∀ i : Fin 4, s.tally.tallies[i].notify = true → wraps i →
      (∀ j : Fin 4, i < j → s.tally.tallies[j].notify = true → ¬wraps j) → t.Raised .tallyOverflow (.tally i)) ∧
    ((∀ i : Fin 4, s.tally.tallies[i].notify = true → ¬wraps i) → t.notice = s.notice ∧ t.port = s.port) ∧
    s.OnlyRpq t ∧ { t with tally := s.tally, notice := s.notice, port := s.port } = s) ∧
  (let g := fun (k : TallyGroup) (l : List SubEvent) =>
      l.map (fun e => (e.group, e.bit)) = (List.range l.length).map (k, ·);
    g .samples [.accepted, .rejectRange, .rejectStep, .rejectState, .unmapped, .duplicate] ∧
    g .commands [.sent, .resent, .acked, .abandoned, .lateAck, .strayAck] ∧
    g .doors [.openings, .recoveriesDone, .recoveriesCut] ∧
    g .frames [.rxGood, .checkError, .malformed, .ptDrop, .fqDrop, .rqDrop])

/-- A flipped cell changes the named entry's cells alone, and the same cell flipped twice is as before (log entry 8).
A scrub step, the parameters entry undamaged: SCRUB_INTERVAL 0 stops the timer and moves nothing. Else the position
advances and the timer starts again, and the entry there, if good or already faulted, brings nothing; damaged in one
place it is corrected, counted and noticed, and nothing else changes; damaged in two it joins the Fault List with
TABLE_FAULT, the first of a list being reported, and takes the effect of its table: slot FAULT, delivery dropped, SAFE
targets for the current mode's record. As a ninth it brings the table wipe: every block as after power-on but for the
tallies, the doors, the tag counters, the corrected count and the masks; that waiting reports and hand-overs go with
it is the model's reading (log entry 7, DEDUCED). A damaged parameters entry is corrected, or faulted, by the step's
own read of it, and a faulted one gives the interval its power-on value. With the timer stopped nothing happens. A
faulted entry is not used: a map entry's readings are UNMAPPED, a slot's are REJECT_STATE and leave the slot as it is, a
slot's comparators are not written, a bin counts as length 0, an actuator's ACKs are STRAY. A reading whose lookup finds its map entry newly faulted is UNMAPPED, and one whose
delivery finds the setup so is REJECT_STATE with the slot FAULT, TABLE_FAULT ahead of INPUT_LOST. -/
def Obligations.ScrubStepsCheckTheEntryAtTheirPosition : Prop :=
  (∀ (s : State) (e : EntryId) (c : Nat), s.alive = true →
    exec (.flippedCell e c) s = .next (s.setFlips e (toggleCell c (s.flips e))) ∧
    (s.flips e = [] → toggleCell c (s.flips e) = [c]) ∧ (s.flips e = [c] → toggleCell c (s.flips e) = []) ∧
    (∀ l, (s.setFlips e l).flips e = l ∧ ∀ x, x ≠ e → (s.setFlips e l).flips x = s.flips x)) ∧
  (∀ s : State, s.alive = true → s.isFaulted .params = false → s.flips .params = [] →
    let e := EntryId.atScrubPos s.integ.scrubPos
    let iv := s.mgmt.params.content.scrubInterval
    let moved := fun u : IntegrityUnit => { u with
      scrubPos := if h : s.integ.scrubPos.val + 1 < 112 then ⟨s.integ.scrubPos.val + 1, h⟩ else 0
      scrubTimer := some (iv * 10) }
    (s.integ.scrubTimer = none → exec .scrubIntervalExpiry s = .next s) ∧
    (s.integ.scrubTimer.isSome = true → iv = 0 →
      exec .scrubIntervalExpiry s = .next (s.onInteg fun u => { u with scrubTimer := none })) ∧
    (s.integ.scrubTimer.isSome = true → iv ≠ 0 → e ≠ .params →
      (s.isFaulted e = true ∨ s.flips e = [] → exec .scrubIntervalExpiry s = .next (s.onInteg moved)) ∧
      (s.isFaulted e = false → (s.flips e).length = 1 →
        ∃ t, exec .scrubIntervalExpiry s = .next t ∧ t.flips e = [] ∧
          t.integ = moved { s.integ with corrected := min 65535 (s.integ.corrected + 1) } ∧
          (t.noticeRecord .tableCorrected).pending = true ∧
          (t.noticeRecord .tableCorrected).detail = some (.entry e) ∧
          (∀ k, k ≠ .tableCorrected → t.noticeRecord k = s.noticeRecord k) ∧ t.notice.airLamp = s.notice.airLamp ∧
          s.OnlyRpq t ∧
          { t.setFlips e (s.flips e) with notice := s.notice, port := s.port, integ := s.integ } = s) ∧
      (s.isFaulted e = false → 2 ≤ (s.flips e).length → s.integ.faultList.length < 8 →
        (∀ x, x ≠ e → s.flips x = []) →
        ∃ t, exec .scrubIntervalExpiry s = .next t ∧
          t.integ = moved { s.integ with faultList := s.integ.faultList ++ [e] } ∧
          (t.noticeRecord .tableFault).pending = true ∧ (t.noticeRecord .tableFault).detail = some (.entry e) ∧
          (s.integ.faultList = [] → Report.faultList true ∈ t.ctrl.reports) ∧
          (∀ i, e = .slotSetup i → t.quantity.slots[i].status = .fault) ∧
          (∀ a, e = .actuator a → (t.cmd.delivery.get a).pendingValue = none ∧
            (t.cmd.delivery.get a).outstanding = none) ∧
          (∀ i, e = .modeRecord i → s.ctrl.mode.recordIndex = some i →
            ∀ a, (t.cmd.delivery.get a).target = some (PowerOn.targetOf ⟨20, 8, true, true⟩ a)) ∧
          ((∀ a, e ≠ .actuator a) → (∀ i, e = .modeRecord i → s.ctrl.mode.recordIndex ≠ some i) → t.cmd = s.cmd) ∧
          ((∀ i, e ≠ .slotSetup i) → t.quantity = s.quantity) ∧ s.OnlyRpq t ∧ t.intake = s.intake ∧
          t.timer = s.timer ∧ t.mgmt = s.mgmt ∧ t.tally = s.tally ∧ t.park = s.park ∧
          t.ctrl = { s.ctrl with reports := t.ctrl.reports }) ∧
      (s.isFaulted e = false → 2 ≤ (s.flips e).length → 8 ≤ s.integ.faultList.length →
        ∃ t, exec .scrubIntervalExpiry s = .next t ∧ s.Wiped t))) ∧
  (∀ s : State, s.alive = true → s.OnlyKnownDamage → s.isFaulted .params = false →
    (∀ (r : Reception) (f : Frame), s.mgmt.opState ≠ .parked → s.port.dnRx = .taking → classify r = .good f →
      f.dest = 1 →
      (∀ rd, f.kind = .sample → readingsOf f.payload = some [rd] →
        ((∀ i : Fin 64, s.intake.map[i].content.valid = true → s.intake.map[i].content.source = f.src.toNat →
            s.intake.map[i].content.channel = rd.channel → s.isFaulted (.channelMap i) = true) →
          exec (.dnArrival r) s = .next (s.countAll [.rxGood, .unmapped])) ∧
        (∀ i : Fin 64, s.KeyAt f.src.toNat rd.channel i → s.isFaulted (.channelMap i) = false →
          let k := s.intake.map[i].content.slot
          let sl := s.quantity.slots[k]
          s.isFaulted (.slotSetup k) = true → s.intake.dyn[i].lastTag ≠ some f.tag →
          ∃ t, exec (.dnArrival r) s = .next t ∧ s.TookReading t f false i .rejectState sl [])) ∧
      (∀ rep, f.kind = .ack → ackOf f.payload = some rep →
        (∀ a, (s.cmd.entries.get a).content.present = true → (s.cmd.entries.get a).content.node = f.src.toNat →
          s.isFaulted (.actuator a) = true) →
        exec (.dnArrival r) s = .next (s.countAll [.rxGood, .strayAck]))) ∧
    (∀ (tag slot comparator direction confirm : Byte) (set clear : Word16) (i : Fin 32) (d : Direction),
      s.TakesRequest → (s.mgmt.opState = .config ∨ s.mgmt.opState = .run) → slot.toNat = i.val →
      s.isFaulted (.slotSetup i) = true → comparator.toNat ≤ 1 → Direction.ofCode direction.toNat = some d →
      1 ≤ confirm.toNat → confirm.toNat ≤ 15 → (d = .above → clear.toInt ≤ set.toInt) →
      (d = .below → set.toInt ≤ clear.toInt) →
      exec (.writeComparator (gateway tag) slot comparator direction set clear confirm) s =
        .next (s.answeredPlain tag (codeByte 8 0) .refusedState)) ∧
    (∀ (d : Door) (busy : LinesBusy), (s.timer.doors.get d).debounce.isSome = true → s.mgmt.opState = .run →
      let s1 := s.onDoor d fun l => { l with isOpen := l.rawLow, debounce := none }
      s.timer.doorOpen = true → s1.timer.doorOpen = false →
      (∀ i : Fin 4, s.isFaulted (.recovery i) = true ∨ s.timer.bins[i].content.length = 0) →
      exec (.debounceEnd d busy) s = .next
        (s1.onTimer fun t => { t with measurement := ⟨0, false, 0⟩ }).reportTimers)) ∧
  (∀ s : State, s.alive = true → s.integ.scrubTimer.isSome = true →
    let e := EntryId.atScrubPos s.integ.scrubPos
    let iv := s.mgmt.params.content.scrubInterval
    let moved := fun (n : Nat) (u : IntegrityUnit) => { u with
      scrubPos := if h : s.integ.scrubPos.val + 1 < 112 then ⟨s.integ.scrubPos.val + 1, h⟩ else 0
      scrubTimer := some (n * 10) }
    let atRest := s.isFaulted e = true ∨ e = .params ∨ s.flips e = []
    (s.isFaulted .params = true → atRest → exec .scrubIntervalExpiry s = .next (s.onInteg (moved 10))) ∧
    (s.isFaulted .params = false → (s.flips .params).length = 0 → iv ≠ 0 → e = .params →
      exec .scrubIntervalExpiry s = .next (s.onInteg (moved iv))) ∧
    (s.isFaulted .params = false → (s.flips .params).length = 1 → iv ≠ 0 → atRest →
      ∃ t, exec .scrubIntervalExpiry s = .next t ∧ t.flips .params = [] ∧
        t.integ = moved iv { s.integ with corrected := min 65535 (s.integ.corrected + 1) } ∧
        s.RaisedFrom t .tableCorrected (.entry .params) 0 ∧
        { t with mgmt := s.mgmt, notice := s.notice, port := s.port, integ := s.integ } = s) ∧
    (s.isFaulted .params = false → 2 ≤ (s.flips .params).length → s.integ.faultList.length < 8 → atRest →
      ∃ t, exec .scrubIntervalExpiry s = .next t ∧ s.RaisedFrom t .tableFault (.entry .params) 60 ∧
        s.Joined { t with integ := { t.integ with scrubPos := s.integ.scrubPos, scrubTimer := s.integ.scrubTimer } }
          .params [] ∧ t.integ = moved 10 t.integ ∧
        { t with ctrl := s.ctrl, notice := s.notice, port := s.port, integ := s.integ } = s)) ∧
  (∀ (s : State) (r : Reception) (f : Frame) (rd : Reading) (i : Fin 64), s.alive = true →
    s.mgmt.opState ≠ .parked → s.port.dnRx = .taking → classify r = .good f → f.dest = 1 → f.kind = .sample →
    readingsOf f.payload = some [rd] → s.KeyAt f.src.toNat rd.channel i → s.isFaulted (.channelMap i) = false →
    s.NoWrap →
    let k := s.intake.map[i].content.slot
    let sl := s.quantity.slots[k]
    let seconds := s.mgmt.params.content.escalation
    (s.NewDamage (.channelMap i) →
      ∃ t, exec (.dnArrival r) s = .next t ∧ t.tally = (s.countAll [.rxGood, .unmapped]).tally ∧
        s.RaisedFrom t .tableFault (.entry (.channelMap i)) seconds ∧ s.Joined t (.channelMap i) [] ∧
        { t with tally := s.tally, notice := s.notice, port := s.port, integ := s.integ, ctrl := s.ctrl } = s) ∧
    (s.NewDamage (.slotSetup k) → s.intake.dyn[i].lastTag ≠ some f.tag → sl.status ≠ .fault →
      ∃ t, exec (.dnArrival r) s = .next t ∧ t.tally = (s.countAll [.rxGood, .rejectState]).tally ∧
        t.quantity = { s.quantity with slots := s.quantity.slots.set k { sl with
          status := .fault, pendingJump := none, compA := ⟨sl.compA.isSet, 0⟩, compB := ⟨sl.compB.isSet, 0⟩ } } ∧
        t.intake.map = s.intake.map ∧ t.intake.dyn[i] = { s.intake.dyn[i] with lastTag := some f.tag } ∧
        s.Joined t (.slotSetup k) [.slot k ⟨.fault, sl.compA.isSet, sl.compB.isSet⟩] ∧
        (∃ n p, let told := { s with notice := n, port := p }
          s.RaisedFrom told .tableFault (.entry (.slotSetup k)) seconds ∧
          ((∃ role, s.ctrl.bindings.get role = some k) → told.RaisedFrom t .inputLost (.slot k) seconds) ∧
          ((∀ role, s.ctrl.bindings.get role ≠ some k) → t.notice = n ∧ t.port = p)) ∧
        { t with quantity := s.quantity, intake := s.intake, tally := s.tally, notice := s.notice, port := s.port,
                 integ := s.integ, ctrl := s.ctrl } = s))

/-! ### What every step keeps -/

/-- In every state a step leads to from one where it holds: SAFE in CONFIG, PARK in PARKING and PARKED, never PARK in
RUN. -/
def Obligations.TheModeFollowsTheOperatingState : Prop :=
  ∀ s t : State, s.ModeFollows → step s = .next t → t.ModeFollows

/-- The Fault List's capacity and distinctness, the frame queues' capacities and the arbiters' counters are kept; so is
that a slot whose setup is on the Fault List has FAULT for its own status, or EMPTY since an emptying, under the FAULT it
is seen with (log entry 26, DEDUCED). -/
def Obligations.ListsQueuesAndCountersStayBounded : Prop :=
  (∀ s t : State, s.FaultListSound → s.QueuesBounded → step s = .next t → t.FaultListSound ∧ t.QueuesBounded) ∧
  (∀ s t : State, s.FaultListSound → s.FaultedSlotsAcceptNothing → step s = .next t → t.FaultedSlotsAcceptNothing)

/-- CMQ, the DUE order, the ack timers and the halted flag stay in agreement with the delivery states. -/
def Obligations.TheCommandEngineStaysSound : Prop :=
  ∀ s t : State, s.cmd.Sound → step s = .next t → t.cmd.Sound

/-- The Timer Unit's timers, record, count and measurement stay coupled to the operating state and the doors, and the
debounces to the lines' levels. -/
def Obligations.TheTimersStaySound : Prop :=
  ∀ s t : State, s.TimersSound → s.DebouncesSound → step s = .next t → t.TimersSound ∧ t.DebouncesSound

/-- The state after reset satisfies what every step keeps. -/
def Obligations.TheResetStateIsSound : Prop :=
  State.reset.ModeFollows ∧ State.reset.FaultListSound ∧ State.reset.QueuesBounded ∧ State.reset.cmd.Sound ∧
    State.reset.TimersSound ∧ State.reset.DebouncesSound ∧ State.reset.FaultedSlotsAcceptNothing
end

