-- ==== Sys2Proof/Laws/State.lean ====
section
/-! SUPPORT. One lemma per field per block update: each is true by rfl and a simp rule, so that no proof unfolds an
update of State. -/

namespace Sys2Proof.Machine

/-! ### State.onPort -/

@[simp] theorem State.onPort_supplyUp (f : PortUnit → PortUnit) (s : State) : (s.onPort f).supplyUp = s.supplyUp := rfl
@[simp] theorem State.onPort_resetLow (f : PortUnit → PortUnit) (s : State) : (s.onPort f).resetLow = s.resetLow := rfl
@[simp] theorem State.onPort_draws (f : PortUnit → PortUnit) (s : State) : (s.onPort f).draws = s.draws := rfl
@[simp] theorem State.onPort_pending (f : PortUnit → PortUnit) (s : State) : (s.onPort f).pending = s.pending := rfl
@[simp] theorem State.onPort_port (f : PortUnit → PortUnit) (s : State) : (s.onPort f).port = f s.port := rfl
@[simp] theorem State.onPort_intake (f : PortUnit → PortUnit) (s : State) : (s.onPort f).intake = s.intake := rfl
@[simp] theorem State.onPort_quantity (f : PortUnit → PortUnit) (s : State) : (s.onPort f).quantity = s.quantity := rfl
@[simp] theorem State.onPort_ctrl (f : PortUnit → PortUnit) (s : State) : (s.onPort f).ctrl = s.ctrl := rfl
@[simp] theorem State.onPort_timer (f : PortUnit → PortUnit) (s : State) : (s.onPort f).timer = s.timer := rfl
@[simp] theorem State.onPort_cmd (f : PortUnit → PortUnit) (s : State) : (s.onPort f).cmd = s.cmd := rfl
@[simp] theorem State.onPort_mgmt (f : PortUnit → PortUnit) (s : State) : (s.onPort f).mgmt = s.mgmt := rfl
@[simp] theorem State.onPort_notice (f : PortUnit → PortUnit) (s : State) : (s.onPort f).notice = s.notice := rfl
@[simp] theorem State.onPort_tally (f : PortUnit → PortUnit) (s : State) : (s.onPort f).tally = s.tally := rfl
@[simp] theorem State.onPort_integ (f : PortUnit → PortUnit) (s : State) : (s.onPort f).integ = s.integ := rfl
@[simp] theorem State.onPort_park (f : PortUnit → PortUnit) (s : State) : (s.onPort f).park = s.park := rfl

/-! ### State.onIntake -/

@[simp] theorem State.onIntake_supplyUp (f : Intake → Intake) (s : State) : (s.onIntake f).supplyUp = s.supplyUp := rfl
@[simp] theorem State.onIntake_resetLow (f : Intake → Intake) (s : State) : (s.onIntake f).resetLow = s.resetLow := rfl
@[simp] theorem State.onIntake_draws (f : Intake → Intake) (s : State) : (s.onIntake f).draws = s.draws := rfl
@[simp] theorem State.onIntake_pending (f : Intake → Intake) (s : State) : (s.onIntake f).pending = s.pending := rfl
@[simp] theorem State.onIntake_port (f : Intake → Intake) (s : State) : (s.onIntake f).port = s.port := rfl
@[simp] theorem State.onIntake_intake (f : Intake → Intake) (s : State) : (s.onIntake f).intake = f s.intake := rfl
@[simp] theorem State.onIntake_quantity (f : Intake → Intake) (s : State) : (s.onIntake f).quantity = s.quantity := rfl
@[simp] theorem State.onIntake_ctrl (f : Intake → Intake) (s : State) : (s.onIntake f).ctrl = s.ctrl := rfl
@[simp] theorem State.onIntake_timer (f : Intake → Intake) (s : State) : (s.onIntake f).timer = s.timer := rfl
@[simp] theorem State.onIntake_cmd (f : Intake → Intake) (s : State) : (s.onIntake f).cmd = s.cmd := rfl
@[simp] theorem State.onIntake_mgmt (f : Intake → Intake) (s : State) : (s.onIntake f).mgmt = s.mgmt := rfl
@[simp] theorem State.onIntake_notice (f : Intake → Intake) (s : State) : (s.onIntake f).notice = s.notice := rfl
@[simp] theorem State.onIntake_tally (f : Intake → Intake) (s : State) : (s.onIntake f).tally = s.tally := rfl
@[simp] theorem State.onIntake_integ (f : Intake → Intake) (s : State) : (s.onIntake f).integ = s.integ := rfl
@[simp] theorem State.onIntake_park (f : Intake → Intake) (s : State) : (s.onIntake f).park = s.park := rfl

/-! ### State.onQuantity -/

@[simp] theorem State.onQuantity_supplyUp (f : QuantityTable → QuantityTable) (s : State) : (s.onQuantity f).supplyUp = s.supplyUp := rfl
@[simp] theorem State.onQuantity_resetLow (f : QuantityTable → QuantityTable) (s : State) : (s.onQuantity f).resetLow = s.resetLow := rfl
@[simp] theorem State.onQuantity_draws (f : QuantityTable → QuantityTable) (s : State) : (s.onQuantity f).draws = s.draws := rfl
@[simp] theorem State.onQuantity_pending (f : QuantityTable → QuantityTable) (s : State) : (s.onQuantity f).pending = s.pending := rfl
@[simp] theorem State.onQuantity_port (f : QuantityTable → QuantityTable) (s : State) : (s.onQuantity f).port = s.port := rfl
@[simp] theorem State.onQuantity_intake (f : QuantityTable → QuantityTable) (s : State) : (s.onQuantity f).intake = s.intake := rfl
@[simp] theorem State.onQuantity_quantity (f : QuantityTable → QuantityTable) (s : State) : (s.onQuantity f).quantity = f s.quantity := rfl
@[simp] theorem State.onQuantity_ctrl (f : QuantityTable → QuantityTable) (s : State) : (s.onQuantity f).ctrl = s.ctrl := rfl
@[simp] theorem State.onQuantity_timer (f : QuantityTable → QuantityTable) (s : State) : (s.onQuantity f).timer = s.timer := rfl
@[simp] theorem State.onQuantity_cmd (f : QuantityTable → QuantityTable) (s : State) : (s.onQuantity f).cmd = s.cmd := rfl
@[simp] theorem State.onQuantity_mgmt (f : QuantityTable → QuantityTable) (s : State) : (s.onQuantity f).mgmt = s.mgmt := rfl
@[simp] theorem State.onQuantity_notice (f : QuantityTable → QuantityTable) (s : State) : (s.onQuantity f).notice = s.notice := rfl
@[simp] theorem State.onQuantity_tally (f : QuantityTable → QuantityTable) (s : State) : (s.onQuantity f).tally = s.tally := rfl
@[simp] theorem State.onQuantity_integ (f : QuantityTable → QuantityTable) (s : State) : (s.onQuantity f).integ = s.integ := rfl
@[simp] theorem State.onQuantity_park (f : QuantityTable → QuantityTable) (s : State) : (s.onQuantity f).park = s.park := rfl

/-! ### State.onCtrl -/

@[simp] theorem State.onCtrl_supplyUp (f : Controller → Controller) (s : State) : (s.onCtrl f).supplyUp = s.supplyUp := rfl
@[simp] theorem State.onCtrl_resetLow (f : Controller → Controller) (s : State) : (s.onCtrl f).resetLow = s.resetLow := rfl
@[simp] theorem State.onCtrl_draws (f : Controller → Controller) (s : State) : (s.onCtrl f).draws = s.draws := rfl
@[simp] theorem State.onCtrl_pending (f : Controller → Controller) (s : State) : (s.onCtrl f).pending = s.pending := rfl
@[simp] theorem State.onCtrl_port (f : Controller → Controller) (s : State) : (s.onCtrl f).port = s.port := rfl
@[simp] theorem State.onCtrl_intake (f : Controller → Controller) (s : State) : (s.onCtrl f).intake = s.intake := rfl
@[simp] theorem State.onCtrl_quantity (f : Controller → Controller) (s : State) : (s.onCtrl f).quantity = s.quantity := rfl
@[simp] theorem State.onCtrl_ctrl (f : Controller → Controller) (s : State) : (s.onCtrl f).ctrl = f s.ctrl := rfl
@[simp] theorem State.onCtrl_timer (f : Controller → Controller) (s : State) : (s.onCtrl f).timer = s.timer := rfl
@[simp] theorem State.onCtrl_cmd (f : Controller → Controller) (s : State) : (s.onCtrl f).cmd = s.cmd := rfl
@[simp] theorem State.onCtrl_mgmt (f : Controller → Controller) (s : State) : (s.onCtrl f).mgmt = s.mgmt := rfl
@[simp] theorem State.onCtrl_notice (f : Controller → Controller) (s : State) : (s.onCtrl f).notice = s.notice := rfl
@[simp] theorem State.onCtrl_tally (f : Controller → Controller) (s : State) : (s.onCtrl f).tally = s.tally := rfl
@[simp] theorem State.onCtrl_integ (f : Controller → Controller) (s : State) : (s.onCtrl f).integ = s.integ := rfl
@[simp] theorem State.onCtrl_park (f : Controller → Controller) (s : State) : (s.onCtrl f).park = s.park := rfl

/-! ### State.onTimer -/

@[simp] theorem State.onTimer_supplyUp (f : TimerUnit → TimerUnit) (s : State) : (s.onTimer f).supplyUp = s.supplyUp := rfl
@[simp] theorem State.onTimer_resetLow (f : TimerUnit → TimerUnit) (s : State) : (s.onTimer f).resetLow = s.resetLow := rfl
@[simp] theorem State.onTimer_draws (f : TimerUnit → TimerUnit) (s : State) : (s.onTimer f).draws = s.draws := rfl
@[simp] theorem State.onTimer_pending (f : TimerUnit → TimerUnit) (s : State) : (s.onTimer f).pending = s.pending := rfl
@[simp] theorem State.onTimer_port (f : TimerUnit → TimerUnit) (s : State) : (s.onTimer f).port = s.port := rfl
@[simp] theorem State.onTimer_intake (f : TimerUnit → TimerUnit) (s : State) : (s.onTimer f).intake = s.intake := rfl
@[simp] theorem State.onTimer_quantity (f : TimerUnit → TimerUnit) (s : State) : (s.onTimer f).quantity = s.quantity := rfl
@[simp] theorem State.onTimer_ctrl (f : TimerUnit → TimerUnit) (s : State) : (s.onTimer f).ctrl = s.ctrl := rfl
@[simp] theorem State.onTimer_timer (f : TimerUnit → TimerUnit) (s : State) : (s.onTimer f).timer = f s.timer := rfl
@[simp] theorem State.onTimer_cmd (f : TimerUnit → TimerUnit) (s : State) : (s.onTimer f).cmd = s.cmd := rfl
@[simp] theorem State.onTimer_mgmt (f : TimerUnit → TimerUnit) (s : State) : (s.onTimer f).mgmt = s.mgmt := rfl
@[simp] theorem State.onTimer_notice (f : TimerUnit → TimerUnit) (s : State) : (s.onTimer f).notice = s.notice := rfl
@[simp] theorem State.onTimer_tally (f : TimerUnit → TimerUnit) (s : State) : (s.onTimer f).tally = s.tally := rfl
@[simp] theorem State.onTimer_integ (f : TimerUnit → TimerUnit) (s : State) : (s.onTimer f).integ = s.integ := rfl
@[simp] theorem State.onTimer_park (f : TimerUnit → TimerUnit) (s : State) : (s.onTimer f).park = s.park := rfl

/-! ### State.onCmd -/

@[simp] theorem State.onCmd_supplyUp (f : CommandEngine → CommandEngine) (s : State) : (s.onCmd f).supplyUp = s.supplyUp := rfl
@[simp] theorem State.onCmd_resetLow (f : CommandEngine → CommandEngine) (s : State) : (s.onCmd f).resetLow = s.resetLow := rfl
@[simp] theorem State.onCmd_draws (f : CommandEngine → CommandEngine) (s : State) : (s.onCmd f).draws = s.draws := rfl
@[simp] theorem State.onCmd_pending (f : CommandEngine → CommandEngine) (s : State) : (s.onCmd f).pending = s.pending := rfl
@[simp] theorem State.onCmd_port (f : CommandEngine → CommandEngine) (s : State) : (s.onCmd f).port = s.port := rfl
@[simp] theorem State.onCmd_intake (f : CommandEngine → CommandEngine) (s : State) : (s.onCmd f).intake = s.intake := rfl
@[simp] theorem State.onCmd_quantity (f : CommandEngine → CommandEngine) (s : State) : (s.onCmd f).quantity = s.quantity := rfl
@[simp] theorem State.onCmd_ctrl (f : CommandEngine → CommandEngine) (s : State) : (s.onCmd f).ctrl = s.ctrl := rfl
@[simp] theorem State.onCmd_timer (f : CommandEngine → CommandEngine) (s : State) : (s.onCmd f).timer = s.timer := rfl
@[simp] theorem State.onCmd_cmd (f : CommandEngine → CommandEngine) (s : State) : (s.onCmd f).cmd = f s.cmd := rfl
@[simp] theorem State.onCmd_mgmt (f : CommandEngine → CommandEngine) (s : State) : (s.onCmd f).mgmt = s.mgmt := rfl
@[simp] theorem State.onCmd_notice (f : CommandEngine → CommandEngine) (s : State) : (s.onCmd f).notice = s.notice := rfl
@[simp] theorem State.onCmd_tally (f : CommandEngine → CommandEngine) (s : State) : (s.onCmd f).tally = s.tally := rfl
@[simp] theorem State.onCmd_integ (f : CommandEngine → CommandEngine) (s : State) : (s.onCmd f).integ = s.integ := rfl
@[simp] theorem State.onCmd_park (f : CommandEngine → CommandEngine) (s : State) : (s.onCmd f).park = s.park := rfl

/-! ### State.onMgmt -/

@[simp] theorem State.onMgmt_supplyUp (f : Management → Management) (s : State) : (s.onMgmt f).supplyUp = s.supplyUp := rfl
@[simp] theorem State.onMgmt_resetLow (f : Management → Management) (s : State) : (s.onMgmt f).resetLow = s.resetLow := rfl
@[simp] theorem State.onMgmt_draws (f : Management → Management) (s : State) : (s.onMgmt f).draws = s.draws := rfl
@[simp] theorem State.onMgmt_pending (f : Management → Management) (s : State) : (s.onMgmt f).pending = s.pending := rfl
@[simp] theorem State.onMgmt_port (f : Management → Management) (s : State) : (s.onMgmt f).port = s.port := rfl
@[simp] theorem State.onMgmt_intake (f : Management → Management) (s : State) : (s.onMgmt f).intake = s.intake := rfl
@[simp] theorem State.onMgmt_quantity (f : Management → Management) (s : State) : (s.onMgmt f).quantity = s.quantity := rfl
@[simp] theorem State.onMgmt_ctrl (f : Management → Management) (s : State) : (s.onMgmt f).ctrl = s.ctrl := rfl
@[simp] theorem State.onMgmt_timer (f : Management → Management) (s : State) : (s.onMgmt f).timer = s.timer := rfl
@[simp] theorem State.onMgmt_cmd (f : Management → Management) (s : State) : (s.onMgmt f).cmd = s.cmd := rfl
@[simp] theorem State.onMgmt_mgmt (f : Management → Management) (s : State) : (s.onMgmt f).mgmt = f s.mgmt := rfl
@[simp] theorem State.onMgmt_notice (f : Management → Management) (s : State) : (s.onMgmt f).notice = s.notice := rfl
@[simp] theorem State.onMgmt_tally (f : Management → Management) (s : State) : (s.onMgmt f).tally = s.tally := rfl
@[simp] theorem State.onMgmt_integ (f : Management → Management) (s : State) : (s.onMgmt f).integ = s.integ := rfl
@[simp] theorem State.onMgmt_park (f : Management → Management) (s : State) : (s.onMgmt f).park = s.park := rfl

/-! ### State.onNotice -/

@[simp] theorem State.onNotice_supplyUp (f : NoticeUnit → NoticeUnit) (s : State) : (s.onNotice f).supplyUp = s.supplyUp := rfl
@[simp] theorem State.onNotice_resetLow (f : NoticeUnit → NoticeUnit) (s : State) : (s.onNotice f).resetLow = s.resetLow := rfl
@[simp] theorem State.onNotice_draws (f : NoticeUnit → NoticeUnit) (s : State) : (s.onNotice f).draws = s.draws := rfl
@[simp] theorem State.onNotice_pending (f : NoticeUnit → NoticeUnit) (s : State) : (s.onNotice f).pending = s.pending := rfl
@[simp] theorem State.onNotice_port (f : NoticeUnit → NoticeUnit) (s : State) : (s.onNotice f).port = s.port := rfl
@[simp] theorem State.onNotice_intake (f : NoticeUnit → NoticeUnit) (s : State) : (s.onNotice f).intake = s.intake := rfl
@[simp] theorem State.onNotice_quantity (f : NoticeUnit → NoticeUnit) (s : State) : (s.onNotice f).quantity = s.quantity := rfl
@[simp] theorem State.onNotice_ctrl (f : NoticeUnit → NoticeUnit) (s : State) : (s.onNotice f).ctrl = s.ctrl := rfl
@[simp] theorem State.onNotice_timer (f : NoticeUnit → NoticeUnit) (s : State) : (s.onNotice f).timer = s.timer := rfl
@[simp] theorem State.onNotice_cmd (f : NoticeUnit → NoticeUnit) (s : State) : (s.onNotice f).cmd = s.cmd := rfl
@[simp] theorem State.onNotice_mgmt (f : NoticeUnit → NoticeUnit) (s : State) : (s.onNotice f).mgmt = s.mgmt := rfl
@[simp] theorem State.onNotice_notice (f : NoticeUnit → NoticeUnit) (s : State) : (s.onNotice f).notice = f s.notice := rfl
@[simp] theorem State.onNotice_tally (f : NoticeUnit → NoticeUnit) (s : State) : (s.onNotice f).tally = s.tally := rfl
@[simp] theorem State.onNotice_integ (f : NoticeUnit → NoticeUnit) (s : State) : (s.onNotice f).integ = s.integ := rfl
@[simp] theorem State.onNotice_park (f : NoticeUnit → NoticeUnit) (s : State) : (s.onNotice f).park = s.park := rfl

/-! ### State.onTally -/

@[simp] theorem State.onTally_supplyUp (f : TallyUnit → TallyUnit) (s : State) : (s.onTally f).supplyUp = s.supplyUp := rfl
@[simp] theorem State.onTally_resetLow (f : TallyUnit → TallyUnit) (s : State) : (s.onTally f).resetLow = s.resetLow := rfl
@[simp] theorem State.onTally_draws (f : TallyUnit → TallyUnit) (s : State) : (s.onTally f).draws = s.draws := rfl
@[simp] theorem State.onTally_pending (f : TallyUnit → TallyUnit) (s : State) : (s.onTally f).pending = s.pending := rfl
@[simp] theorem State.onTally_port (f : TallyUnit → TallyUnit) (s : State) : (s.onTally f).port = s.port := rfl
@[simp] theorem State.onTally_intake (f : TallyUnit → TallyUnit) (s : State) : (s.onTally f).intake = s.intake := rfl
@[simp] theorem State.onTally_quantity (f : TallyUnit → TallyUnit) (s : State) : (s.onTally f).quantity = s.quantity := rfl
@[simp] theorem State.onTally_ctrl (f : TallyUnit → TallyUnit) (s : State) : (s.onTally f).ctrl = s.ctrl := rfl
@[simp] theorem State.onTally_timer (f : TallyUnit → TallyUnit) (s : State) : (s.onTally f).timer = s.timer := rfl
@[simp] theorem State.onTally_cmd (f : TallyUnit → TallyUnit) (s : State) : (s.onTally f).cmd = s.cmd := rfl
@[simp] theorem State.onTally_mgmt (f : TallyUnit → TallyUnit) (s : State) : (s.onTally f).mgmt = s.mgmt := rfl
@[simp] theorem State.onTally_notice (f : TallyUnit → TallyUnit) (s : State) : (s.onTally f).notice = s.notice := rfl
@[simp] theorem State.onTally_tally (f : TallyUnit → TallyUnit) (s : State) : (s.onTally f).tally = f s.tally := rfl
@[simp] theorem State.onTally_integ (f : TallyUnit → TallyUnit) (s : State) : (s.onTally f).integ = s.integ := rfl
@[simp] theorem State.onTally_park (f : TallyUnit → TallyUnit) (s : State) : (s.onTally f).park = s.park := rfl

/-! ### State.onInteg -/

@[simp] theorem State.onInteg_supplyUp (f : IntegrityUnit → IntegrityUnit) (s : State) : (s.onInteg f).supplyUp = s.supplyUp := rfl
@[simp] theorem State.onInteg_resetLow (f : IntegrityUnit → IntegrityUnit) (s : State) : (s.onInteg f).resetLow = s.resetLow := rfl
@[simp] theorem State.onInteg_draws (f : IntegrityUnit → IntegrityUnit) (s : State) : (s.onInteg f).draws = s.draws := rfl
@[simp] theorem State.onInteg_pending (f : IntegrityUnit → IntegrityUnit) (s : State) : (s.onInteg f).pending = s.pending := rfl
@[simp] theorem State.onInteg_port (f : IntegrityUnit → IntegrityUnit) (s : State) : (s.onInteg f).port = s.port := rfl
@[simp] theorem State.onInteg_intake (f : IntegrityUnit → IntegrityUnit) (s : State) : (s.onInteg f).intake = s.intake := rfl
@[simp] theorem State.onInteg_quantity (f : IntegrityUnit → IntegrityUnit) (s : State) : (s.onInteg f).quantity = s.quantity := rfl
@[simp] theorem State.onInteg_ctrl (f : IntegrityUnit → IntegrityUnit) (s : State) : (s.onInteg f).ctrl = s.ctrl := rfl
@[simp] theorem State.onInteg_timer (f : IntegrityUnit → IntegrityUnit) (s : State) : (s.onInteg f).timer = s.timer := rfl
@[simp] theorem State.onInteg_cmd (f : IntegrityUnit → IntegrityUnit) (s : State) : (s.onInteg f).cmd = s.cmd := rfl
@[simp] theorem State.onInteg_mgmt (f : IntegrityUnit → IntegrityUnit) (s : State) : (s.onInteg f).mgmt = s.mgmt := rfl
@[simp] theorem State.onInteg_notice (f : IntegrityUnit → IntegrityUnit) (s : State) : (s.onInteg f).notice = s.notice := rfl
@[simp] theorem State.onInteg_tally (f : IntegrityUnit → IntegrityUnit) (s : State) : (s.onInteg f).tally = s.tally := rfl
@[simp] theorem State.onInteg_integ (f : IntegrityUnit → IntegrityUnit) (s : State) : (s.onInteg f).integ = f s.integ := rfl
@[simp] theorem State.onInteg_park (f : IntegrityUnit → IntegrityUnit) (s : State) : (s.onInteg f).park = s.park := rfl

/-! ### State.onPark -/

@[simp] theorem State.onPark_supplyUp (f : ParkController → ParkController) (s : State) : (s.onPark f).supplyUp = s.supplyUp := rfl
@[simp] theorem State.onPark_resetLow (f : ParkController → ParkController) (s : State) : (s.onPark f).resetLow = s.resetLow := rfl
@[simp] theorem State.onPark_draws (f : ParkController → ParkController) (s : State) : (s.onPark f).draws = s.draws := rfl
@[simp] theorem State.onPark_pending (f : ParkController → ParkController) (s : State) : (s.onPark f).pending = s.pending := rfl
@[simp] theorem State.onPark_port (f : ParkController → ParkController) (s : State) : (s.onPark f).port = s.port := rfl
@[simp] theorem State.onPark_intake (f : ParkController → ParkController) (s : State) : (s.onPark f).intake = s.intake := rfl
@[simp] theorem State.onPark_quantity (f : ParkController → ParkController) (s : State) : (s.onPark f).quantity = s.quantity := rfl
@[simp] theorem State.onPark_ctrl (f : ParkController → ParkController) (s : State) : (s.onPark f).ctrl = s.ctrl := rfl
@[simp] theorem State.onPark_timer (f : ParkController → ParkController) (s : State) : (s.onPark f).timer = s.timer := rfl
@[simp] theorem State.onPark_cmd (f : ParkController → ParkController) (s : State) : (s.onPark f).cmd = s.cmd := rfl
@[simp] theorem State.onPark_mgmt (f : ParkController → ParkController) (s : State) : (s.onPark f).mgmt = s.mgmt := rfl
@[simp] theorem State.onPark_notice (f : ParkController → ParkController) (s : State) : (s.onPark f).notice = s.notice := rfl
@[simp] theorem State.onPark_tally (f : ParkController → ParkController) (s : State) : (s.onPark f).tally = s.tally := rfl
@[simp] theorem State.onPark_integ (f : ParkController → ParkController) (s : State) : (s.onPark f).integ = s.integ := rfl
@[simp] theorem State.onPark_park (f : ParkController → ParkController) (s : State) : (s.onPark f).park = f s.park := rfl

/-! ### State.setOpState -/

@[simp] theorem State.setOpState_supplyUp (x : OpState) (s : State) : (s.setOpState x).supplyUp = s.supplyUp := rfl
@[simp] theorem State.setOpState_resetLow (x : OpState) (s : State) : (s.setOpState x).resetLow = s.resetLow := rfl
@[simp] theorem State.setOpState_draws (x : OpState) (s : State) : (s.setOpState x).draws = s.draws := rfl
@[simp] theorem State.setOpState_pending (x : OpState) (s : State) : (s.setOpState x).pending = s.pending := rfl
@[simp] theorem State.setOpState_port (x : OpState) (s : State) : (s.setOpState x).port = s.port := rfl
@[simp] theorem State.setOpState_intake (x : OpState) (s : State) : (s.setOpState x).intake = s.intake := rfl
@[simp] theorem State.setOpState_quantity (x : OpState) (s : State) : (s.setOpState x).quantity = s.quantity := rfl
@[simp] theorem State.setOpState_ctrl (x : OpState) (s : State) : (s.setOpState x).ctrl = s.ctrl := rfl
@[simp] theorem State.setOpState_timer (x : OpState) (s : State) : (s.setOpState x).timer = s.timer := rfl
@[simp] theorem State.setOpState_cmd (x : OpState) (s : State) : (s.setOpState x).cmd = s.cmd := rfl
@[simp] theorem State.setOpState_notice (x : OpState) (s : State) : (s.setOpState x).notice = s.notice := rfl
@[simp] theorem State.setOpState_tally (x : OpState) (s : State) : (s.setOpState x).tally = s.tally := rfl
@[simp] theorem State.setOpState_integ (x : OpState) (s : State) : (s.setOpState x).integ = s.integ := rfl
@[simp] theorem State.setOpState_park (x : OpState) (s : State) : (s.setOpState x).park = s.park := rfl
@[simp] theorem State.setOpState_opState (x : OpState) (s : State) : (s.setOpState x).mgmt.opState = x := rfl
@[simp] theorem State.setOpState_params (x : OpState) (s : State) : (s.setOpState x).mgmt.params = s.mgmt.params := rfl

end Sys2Proof.Machine
end

