-- ==== Sys2Proof/Laws/Act.lean ====
section
/-! SUPPORT. How a property goes through the work of an event: the combinators of Act, the rule of an invariant, and
the rule that follows the value an event computes. -/

namespace Sys2Proof.Machine

/-! ### The raises an event owes -/

@[simp] theorem State.raiseOverflows_nil (s : State) : s.raiseOverflows [] = s := rfl

@[simp] theorem Event.settled_none (s : State) : (Event.mk s []).settled = s := rfl

/-- What every raise of TALLY_OVERFLOW keeps, the raises an event owes keep. -/
theorem State.raiseOverflows_keep {I : State → Prop}
    (h : ∀ (s : State) (d : Detail), I s → I (s.raiseRecord .tallyOverflow d)) (owed : List (Fin 4)) {s : State}
    (hs : I s) : I (s.raiseOverflows owed) := by
  unfold State.raiseOverflows
  generalize tallyIndexes.flatMap (fun i => owed.filter (· == i)) = is
  induction is generalizing s with
  | nil => exact hs
  | cons i is ih => exact ih (h s _ hs)

theorem Event.settled_keep {I : State → Prop}
    (h : ∀ (s : State) (d : Detail), I s → I (s.raiseRecord .tallyOverflow d)) {v : Event} (hv : I v.state) :
    I v.settled := State.raiseOverflows_keep h v.owed hv

/-- A sub-event changes the tallies alone. -/
@[simp] theorem Event.give_state (e : SubEvent) (v : Event) :
    (v.give e).state =
      v.state.onTally fun u =>
        { u with tallies := mapTable (fun t => t.add (e.amount v.state.ctrl.mode t)) u.tallies } := rfl

/-! ### The combinators -/

@[simp] theorem Act.after_pure {α : Type} (x : α) (s : State) : (pure x : Act α).after s = s := rfl

@[simp] theorem Act.after_upd (f : State → State) (s : State) : (upd f).after s = f s := rfl

@[simp] theorem Act.after_look {α : Type} (f : State → α) (s : State) : (look f).after s = s := rfl

theorem Act.pure_run {α : Type} (x : α) (v : Event) : (pure x : Act α) v = .ok x v := rfl

theorem Act.upd_run (f : State → State) (v : Event) : upd f v = .ok () { v with state := f v.state } := rfl

theorem Act.look_run {α : Type} (f : State → α) (v : Event) : look f v = .ok (f v.state) v := rfl

theorem Act.give_run (e : SubEvent) (v : Event) : give e v = .ok () (v.give e) := rfl

theorem Act.raiseOwed_run (v : Event) : raiseOwed v = .ok () ⟨v.settled, []⟩ := rfl

theorem Act.wipeNow_run {α : Type} (v : Event) : (wipeNow : Act α) v = .error .wiped ⟨v.settled.tableWipe, []⟩ := rfl

/-- Work followed by work: the second starts where the first went on to; a wipe in the first ends both. -/
theorem Act.bind_run {α β : Type} (a : Act α) (f : α → Act β) (v : Event) :
    (a >>= f) v =
      match a v with
      | .ok x w => f x w
      | .error e w => .error e w := by
  cases h : a v <;> simp only [bind, EStateM.bind, h]

theorem Act.map_run {α β : Type} (g : α → β) (a : Act α) (v : Event) :
    (g <$> a) v =
      match a v with
      | .ok x w => .ok (g x) w
      | .error e w => .error e w := by
  cases h : a v <;> simp only [Functor.map, EStateM.map, h]

theorem Act.bind_ok {α β : Type} {a : Act α} {f : α → Act β} {v w : Event} {x : α} (h : a v = .ok x w) :
    (a >>= f) v = f x w := by rw [Act.bind_run, h]

theorem Act.bind_error {α β : Type} {a : Act α} {f : α → Act β} {v w : Event} {e : Wiped} (h : a v = .error e w) :
    (a >>= f) v = .error e w := by rw [Act.bind_run, h]

theorem Act.after_ok {α : Type} {a : Act α} {s : State} {w : Event} {x : α} (h : a ⟨s, []⟩ = .ok x w) :
    a.after s = w.settled := by
  simp only [Act.after, h]

theorem Act.after_error {α : Type} {a : Act α} {s : State} {w : Event} {e : Wiped} (h : a ⟨s, []⟩ = .error e w) :
    a.after s = w.settled := by
  simp only [Act.after, h]

/-- A sub-event alone in its event. -/
@[simp] theorem Act.after_give (e : SubEvent) (s : State) : (give e).after s = s.count e := rfl

@[simp] theorem onlyIf_true (a : Act Unit) : onlyIf true a = a := rfl

@[simp] theorem onlyIf_false (a : Act Unit) : onlyIf false a = pure () := rfl

/-- A meaning that is an event of a running device answers a next state, whatever the state. -/
theorem live_next (a : Act Unit) (s : State) : ∃ t, live a s = .next t := ⟨_, rfl⟩

theorem live_alive {a : Act Unit} {s : State} (h : s.alive = true) : live a s = .next (a.after s) := by
  simp [live, h]

theorem live_not_alive {a : Act Unit} {s : State} (h : s.alive = false) : live a s = .next s := by
  simp [live, h]

/-! ### What work keeps -/

/-- A property of the state that work keeps, whether it goes on or ends in a wipe. -/
def Act.Keeps {α : Type} (I : State → Prop) (a : Act α) : Prop :=
  ∀ v : Event, I v.state →
    match a v with
    | .ok _ w => I w.state
    | .error _ w => I w.state

theorem Act.keeps_pure {α : Type} (I : State → Prop) (x : α) : Act.Keeps I (pure x : Act α) := fun _ h => h

theorem Act.keeps_look {α : Type} (I : State → Prop) (f : State → α) : Act.Keeps I (look f) := fun _ h => h

theorem Act.keeps_upd {I : State → Prop} {f : State → State} (h : ∀ s, I s → I (f s)) : Act.Keeps I (upd f) :=
  fun v hv => h v.state hv

theorem Act.keeps_give {I : State → Prop} (h : ∀ (s : State) (f : TallyUnit → TallyUnit), I s → I (s.onTally f))
    (e : SubEvent) : Act.Keeps I (give e) := fun v hv => by
  simpa only [Act.give_run, Event.give_state] using h v.state _ hv

theorem Act.keeps_raiseOwed {I : State → Prop}
    (h : ∀ (s : State) (d : Detail), I s → I (s.raiseRecord .tallyOverflow d)) : Act.Keeps I raiseOwed :=
  fun _ hv => Event.settled_keep h hv

theorem Act.keeps_wipeNow {α : Type} {I : State → Prop}
    (hr : ∀ (s : State) (d : Detail), I s → I (s.raiseRecord .tallyOverflow d)) (h : ∀ s, I s → I s.tableWipe) :
    Act.Keeps I (wipeNow : Act α) := fun v hv => h v.settled (Event.settled_keep hr hv)

theorem Act.keeps_bind {α β : Type} {I : State → Prop} {a : Act α} {f : α → Act β} (ha : Act.Keeps I a)
    (hf : ∀ x, Act.Keeps I (f x)) : Act.Keeps I (a >>= f) := by
  intro v hv
  have h := ha v hv
  cases e : a v with
  | ok x w =>
    rw [e] at h
    rw [Act.bind_ok e]
    exact hf x w h
  | error e' w =>
    rw [e] at h
    rw [Act.bind_error e]
    exact h

theorem Act.keeps_onlyIf {I : State → Prop} {a : Act Unit} (c : Bool) (h : Act.Keeps I a) :
    Act.Keeps I (onlyIf c a) := by
  cases c
  · exact Act.keeps_pure I ()
  · exact h

theorem Act.keeps_forAll {α : Type} {I : State → Prop} {f : α → Act Unit} (h : ∀ x, Act.Keeps I (f x))
    (xs : List α) : Act.Keeps I (forAll xs f) := by
  induction xs with
  | nil => exact Act.keeps_pure I ()
  | cons x xs ih => exact Act.keeps_bind (h x) fun _ => ih

/-- What the work of an event and the raises it owes keep, the event keeps. -/
theorem Act.keeps_after {α : Type} {I : State → Prop} {a : Act α}
    (hr : ∀ (s : State) (d : Detail), I s → I (s.raiseRecord .tallyOverflow d)) (h : Act.Keeps I a) {s : State}
    (hs : I s) : I (a.after s) := by
  have h := h ⟨s, []⟩ hs
  cases e : a ⟨s, []⟩ with
  | ok x w =>
    rw [e] at h
    rw [Act.after_ok e]
    exact Event.settled_keep hr h
  | error e' w =>
    rw [e] at h
    rw [Act.after_error e]
    exact Event.settled_keep hr h

theorem Act.keeps_live {I : State → Prop} {a : Act Unit}
    (hr : ∀ (s : State) (d : Detail), I s → I (s.raiseRecord .tallyOverflow d)) (h : Act.Keeps I a) {s t : State}
    (hs : I s) (e : live a s = .next t) : I t := by
  have e : (if s.alive then a.after s else s) = t := by
    simpa only [live, Host.Outcome.next.injEq] using e
  subst e
  split
  · exact Act.keeps_after hr h hs
  · exact hs

/-! ### What work answers -/

/-- From P, work that goes on leaves Q of its value and event, and work that ends in a wipe leaves E. -/
def Act.Triple {α : Type} (P : Event → Prop) (a : Act α) (Q : α → Event → Prop) (E : Event → Prop) : Prop :=
  ∀ v, P v →
    match a v with
    | .ok x w => Q x w
    | .error _ w => E w

theorem Act.triple_pure {α : Type} {Q : α → Event → Prop} {E : Event → Prop} (x : α) :
    Act.Triple (Q x) (pure x : Act α) Q E := fun _ h => h

theorem Act.triple_upd {Q : Unit → Event → Prop} {E : Event → Prop} (f : State → State) :
    Act.Triple (fun v => Q () { v with state := f v.state }) (upd f) Q E := fun _ h => h

theorem Act.triple_look {α : Type} {Q : α → Event → Prop} {E : Event → Prop} (f : State → α) :
    Act.Triple (fun v => Q (f v.state) v) (look f) Q E := fun _ h => h

theorem Act.triple_give {Q : Unit → Event → Prop} {E : Event → Prop} (e : SubEvent) :
    Act.Triple (fun v => Q () (v.give e)) (give e) Q E := fun _ h => h

theorem Act.triple_raiseOwed {Q : Unit → Event → Prop} {E : Event → Prop} :
    Act.Triple (fun v => Q () ⟨v.settled, []⟩) raiseOwed Q E := fun _ h => h

theorem Act.triple_bind {α β : Type} {P : Event → Prop} {a : Act α} {f : α → Act β} {M : α → Event → Prop}
    {Q : β → Event → Prop} {E : Event → Prop} (ha : Act.Triple P a M E) (hf : ∀ x, Act.Triple (M x) (f x) Q E) :
    Act.Triple P (a >>= f) Q E := by
  intro v hv
  have h := ha v hv
  cases e : a v with
  | ok x w =>
    rw [e] at h
    rw [Act.bind_ok e]
    exact hf x w h
  | error e' w =>
    rw [e] at h
    rw [Act.bind_error e]
    exact h

theorem Act.triple_mono {α : Type} {P P' : Event → Prop} {a : Act α} {Q Q' : α → Event → Prop}
    {E E' : Event → Prop} (h : Act.Triple P a Q E) (hp : ∀ v, P' v → P v) (hq : ∀ x v, Q x v → Q' x v)
    (he : ∀ v, E v → E' v) : Act.Triple P' a Q' E' := by
  intro v hv
  have h := h v (hp v hv)
  cases e : a v with
  | ok x w =>
    rw [e] at h
    exact hq x w h
  | error e' w =>
    rw [e] at h
    exact he w h

theorem Act.triple_after {α : Type} {P : Event → Prop} {a : Act α} {Q : State → Prop}
    (h : Act.Triple P a (fun _ v => Q v.settled) (fun v => Q v.settled)) {s : State} (hs : P ⟨s, []⟩) :
    Q (a.after s) := by
  have h := h ⟨s, []⟩ hs
  cases e : a ⟨s, []⟩ with
  | ok x w =>
    rw [e] at h
    rw [Act.after_ok e]
    exact h
  | error e' w =>
    rw [e] at h
    rw [Act.after_error e]
    exact h

end Sys2Proof.Machine
end

