-- ==== Sys2Proof/Laws/Ops.lean ====
section
/-! SUPPORT. The shared operations of Machine/Ops.lean: what each leaves unchanged, block by block, and what each does. -/

namespace Sys2Proof.Machine

open Sys2Proof

/-! ### setNotice: every block but notice -/

@[simp] theorem State.setNotice_supplyUp (k : NoticeKind) (r : NoticeRecord) (s : State) : (s.setNotice k r).supplyUp = s.supplyUp := rfl
@[simp] theorem State.setNotice_resetLow (k : NoticeKind) (r : NoticeRecord) (s : State) : (s.setNotice k r).resetLow = s.resetLow := rfl
@[simp] theorem State.setNotice_draws (k : NoticeKind) (r : NoticeRecord) (s : State) : (s.setNotice k r).draws = s.draws := rfl
@[simp] theorem State.setNotice_pending (k : NoticeKind) (r : NoticeRecord) (s : State) : (s.setNotice k r).pending = s.pending := rfl
@[simp] theorem State.setNotice_port (k : NoticeKind) (r : NoticeRecord) (s : State) : (s.setNotice k r).port = s.port := rfl
@[simp] theorem State.setNotice_intake (k : NoticeKind) (r : NoticeRecord) (s : State) : (s.setNotice k r).intake = s.intake := rfl
@[simp] theorem State.setNotice_quantity (k : NoticeKind) (r : NoticeRecord) (s : State) : (s.setNotice k r).quantity = s.quantity := rfl
@[simp] theorem State.setNotice_ctrl (k : NoticeKind) (r : NoticeRecord) (s : State) : (s.setNotice k r).ctrl = s.ctrl := rfl
@[simp] theorem State.setNotice_timer (k : NoticeKind) (r : NoticeRecord) (s : State) : (s.setNotice k r).timer = s.timer := rfl
@[simp] theorem State.setNotice_cmd (k : NoticeKind) (r : NoticeRecord) (s : State) : (s.setNotice k r).cmd = s.cmd := rfl
@[simp] theorem State.setNotice_mgmt (k : NoticeKind) (r : NoticeRecord) (s : State) : (s.setNotice k r).mgmt = s.mgmt := rfl
@[simp] theorem State.setNotice_tally (k : NoticeKind) (r : NoticeRecord) (s : State) : (s.setNotice k r).tally = s.tally := rfl
@[simp] theorem State.setNotice_integ (k : NoticeKind) (r : NoticeRecord) (s : State) : (s.setNotice k r).integ = s.integ := rfl
@[simp] theorem State.setNotice_park (k : NoticeKind) (r : NoticeRecord) (s : State) : (s.setNotice k r).park = s.park := rfl

/-! ### sendNotice: every block but notice, port -/

@[simp] theorem State.sendNotice_supplyUp (k : NoticeKind) (d : Detail) (s : State) : (s.sendNotice k d).supplyUp = s.supplyUp := rfl
@[simp] theorem State.sendNotice_resetLow (k : NoticeKind) (d : Detail) (s : State) : (s.sendNotice k d).resetLow = s.resetLow := rfl
@[simp] theorem State.sendNotice_draws (k : NoticeKind) (d : Detail) (s : State) : (s.sendNotice k d).draws = s.draws := rfl
@[simp] theorem State.sendNotice_pending (k : NoticeKind) (d : Detail) (s : State) : (s.sendNotice k d).pending = s.pending := rfl
@[simp] theorem State.sendNotice_intake (k : NoticeKind) (d : Detail) (s : State) : (s.sendNotice k d).intake = s.intake := rfl
@[simp] theorem State.sendNotice_quantity (k : NoticeKind) (d : Detail) (s : State) : (s.sendNotice k d).quantity = s.quantity := rfl
@[simp] theorem State.sendNotice_ctrl (k : NoticeKind) (d : Detail) (s : State) : (s.sendNotice k d).ctrl = s.ctrl := rfl
@[simp] theorem State.sendNotice_timer (k : NoticeKind) (d : Detail) (s : State) : (s.sendNotice k d).timer = s.timer := rfl
@[simp] theorem State.sendNotice_cmd (k : NoticeKind) (d : Detail) (s : State) : (s.sendNotice k d).cmd = s.cmd := rfl
@[simp] theorem State.sendNotice_mgmt (k : NoticeKind) (d : Detail) (s : State) : (s.sendNotice k d).mgmt = s.mgmt := rfl
@[simp] theorem State.sendNotice_tally (k : NoticeKind) (d : Detail) (s : State) : (s.sendNotice k d).tally = s.tally := rfl
@[simp] theorem State.sendNotice_integ (k : NoticeKind) (d : Detail) (s : State) : (s.sendNotice k d).integ = s.integ := rfl
@[simp] theorem State.sendNotice_park (k : NoticeKind) (d : Detail) (s : State) : (s.sendNotice k d).park = s.park := rfl

/-! ### raiseRecord: every block but notice, port -/

@[simp] theorem State.raiseRecord_supplyUp (k : NoticeKind) (d : Detail) (s : State) : (s.raiseRecord k d).supplyUp = s.supplyUp := by
  simp only [State.raiseRecord]; split <;> rfl
@[simp] theorem State.raiseRecord_resetLow (k : NoticeKind) (d : Detail) (s : State) : (s.raiseRecord k d).resetLow = s.resetLow := by
  simp only [State.raiseRecord]; split <;> rfl
@[simp] theorem State.raiseRecord_draws (k : NoticeKind) (d : Detail) (s : State) : (s.raiseRecord k d).draws = s.draws := by
  simp only [State.raiseRecord]; split <;> rfl
@[simp] theorem State.raiseRecord_pending (k : NoticeKind) (d : Detail) (s : State) : (s.raiseRecord k d).pending = s.pending := by
  simp only [State.raiseRecord]; split <;> rfl
@[simp] theorem State.raiseRecord_intake (k : NoticeKind) (d : Detail) (s : State) : (s.raiseRecord k d).intake = s.intake := by
  simp only [State.raiseRecord]; split <;> rfl
@[simp] theorem State.raiseRecord_quantity (k : NoticeKind) (d : Detail) (s : State) : (s.raiseRecord k d).quantity = s.quantity := by
  simp only [State.raiseRecord]; split <;> rfl
@[simp] theorem State.raiseRecord_ctrl (k : NoticeKind) (d : Detail) (s : State) : (s.raiseRecord k d).ctrl = s.ctrl := by
  simp only [State.raiseRecord]; split <;> rfl
@[simp] theorem State.raiseRecord_timer (k : NoticeKind) (d : Detail) (s : State) : (s.raiseRecord k d).timer = s.timer := by
  simp only [State.raiseRecord]; split <;> rfl
@[simp] theorem State.raiseRecord_cmd (k : NoticeKind) (d : Detail) (s : State) : (s.raiseRecord k d).cmd = s.cmd := by
  simp only [State.raiseRecord]; split <;> rfl
@[simp] theorem State.raiseRecord_mgmt (k : NoticeKind) (d : Detail) (s : State) : (s.raiseRecord k d).mgmt = s.mgmt := by
  simp only [State.raiseRecord]; split <;> rfl
@[simp] theorem State.raiseRecord_tally (k : NoticeKind) (d : Detail) (s : State) : (s.raiseRecord k d).tally = s.tally := by
  simp only [State.raiseRecord]; split <;> rfl
@[simp] theorem State.raiseRecord_integ (k : NoticeKind) (d : Detail) (s : State) : (s.raiseRecord k d).integ = s.integ := by
  simp only [State.raiseRecord]; split <;> rfl
@[simp] theorem State.raiseRecord_park (k : NoticeKind) (d : Detail) (s : State) : (s.raiseRecord k d).park = s.park := by
  simp only [State.raiseRecord]; split <;> rfl

/-! ### startEscalation: every block but notice -/

@[simp] theorem State.startEscalation_supplyUp (k : NoticeKind) (n : Nat) (s : State) : (s.startEscalation k n).supplyUp = s.supplyUp := by
  simp only [State.startEscalation]; split <;> rfl
@[simp] theorem State.startEscalation_resetLow (k : NoticeKind) (n : Nat) (s : State) : (s.startEscalation k n).resetLow = s.resetLow := by
  simp only [State.startEscalation]; split <;> rfl
@[simp] theorem State.startEscalation_draws (k : NoticeKind) (n : Nat) (s : State) : (s.startEscalation k n).draws = s.draws := by
  simp only [State.startEscalation]; split <;> rfl
@[simp] theorem State.startEscalation_pending (k : NoticeKind) (n : Nat) (s : State) : (s.startEscalation k n).pending = s.pending := by
  simp only [State.startEscalation]; split <;> rfl
@[simp] theorem State.startEscalation_port (k : NoticeKind) (n : Nat) (s : State) : (s.startEscalation k n).port = s.port := by
  simp only [State.startEscalation]; split <;> rfl
@[simp] theorem State.startEscalation_intake (k : NoticeKind) (n : Nat) (s : State) : (s.startEscalation k n).intake = s.intake := by
  simp only [State.startEscalation]; split <;> rfl
@[simp] theorem State.startEscalation_quantity (k : NoticeKind) (n : Nat) (s : State) : (s.startEscalation k n).quantity = s.quantity := by
  simp only [State.startEscalation]; split <;> rfl
@[simp] theorem State.startEscalation_ctrl (k : NoticeKind) (n : Nat) (s : State) : (s.startEscalation k n).ctrl = s.ctrl := by
  simp only [State.startEscalation]; split <;> rfl
@[simp] theorem State.startEscalation_timer (k : NoticeKind) (n : Nat) (s : State) : (s.startEscalation k n).timer = s.timer := by
  simp only [State.startEscalation]; split <;> rfl
@[simp] theorem State.startEscalation_cmd (k : NoticeKind) (n : Nat) (s : State) : (s.startEscalation k n).cmd = s.cmd := by
  simp only [State.startEscalation]; split <;> rfl
@[simp] theorem State.startEscalation_mgmt (k : NoticeKind) (n : Nat) (s : State) : (s.startEscalation k n).mgmt = s.mgmt := by
  simp only [State.startEscalation]; split <;> rfl
@[simp] theorem State.startEscalation_tally (k : NoticeKind) (n : Nat) (s : State) : (s.startEscalation k n).tally = s.tally := by
  simp only [State.startEscalation]; split <;> rfl
@[simp] theorem State.startEscalation_integ (k : NoticeKind) (n : Nat) (s : State) : (s.startEscalation k n).integ = s.integ := by
  simp only [State.startEscalation]; split <;> rfl
@[simp] theorem State.startEscalation_park (k : NoticeKind) (n : Nat) (s : State) : (s.startEscalation k n).park = s.park := by
  simp only [State.startEscalation]; split <;> rfl

/-! ### raiseWith: every block but notice, port -/

@[simp] theorem State.raiseWith_supplyUp (n : Nat) (k : NoticeKind) (d : Detail) (s : State) : (s.raiseWith n k d).supplyUp = s.supplyUp := by
  simp only [State.raiseWith]; split <;> simp
@[simp] theorem State.raiseWith_resetLow (n : Nat) (k : NoticeKind) (d : Detail) (s : State) : (s.raiseWith n k d).resetLow = s.resetLow := by
  simp only [State.raiseWith]; split <;> simp
@[simp] theorem State.raiseWith_draws (n : Nat) (k : NoticeKind) (d : Detail) (s : State) : (s.raiseWith n k d).draws = s.draws := by
  simp only [State.raiseWith]; split <;> simp
@[simp] theorem State.raiseWith_pending (n : Nat) (k : NoticeKind) (d : Detail) (s : State) : (s.raiseWith n k d).pending = s.pending := by
  simp only [State.raiseWith]; split <;> simp
@[simp] theorem State.raiseWith_intake (n : Nat) (k : NoticeKind) (d : Detail) (s : State) : (s.raiseWith n k d).intake = s.intake := by
  simp only [State.raiseWith]; split <;> simp
@[simp] theorem State.raiseWith_quantity (n : Nat) (k : NoticeKind) (d : Detail) (s : State) : (s.raiseWith n k d).quantity = s.quantity := by
  simp only [State.raiseWith]; split <;> simp
@[simp] theorem State.raiseWith_ctrl (n : Nat) (k : NoticeKind) (d : Detail) (s : State) : (s.raiseWith n k d).ctrl = s.ctrl := by
  simp only [State.raiseWith]; split <;> simp
@[simp] theorem State.raiseWith_timer (n : Nat) (k : NoticeKind) (d : Detail) (s : State) : (s.raiseWith n k d).timer = s.timer := by
  simp only [State.raiseWith]; split <;> simp
@[simp] theorem State.raiseWith_cmd (n : Nat) (k : NoticeKind) (d : Detail) (s : State) : (s.raiseWith n k d).cmd = s.cmd := by
  simp only [State.raiseWith]; split <;> simp
@[simp] theorem State.raiseWith_mgmt (n : Nat) (k : NoticeKind) (d : Detail) (s : State) : (s.raiseWith n k d).mgmt = s.mgmt := by
  simp only [State.raiseWith]; split <;> simp
@[simp] theorem State.raiseWith_tally (n : Nat) (k : NoticeKind) (d : Detail) (s : State) : (s.raiseWith n k d).tally = s.tally := by
  simp only [State.raiseWith]; split <;> simp
@[simp] theorem State.raiseWith_integ (n : Nat) (k : NoticeKind) (d : Detail) (s : State) : (s.raiseWith n k d).integ = s.integ := by
  simp only [State.raiseWith]; split <;> simp
@[simp] theorem State.raiseWith_park (n : Nat) (k : NoticeKind) (d : Detail) (s : State) : (s.raiseWith n k d).park = s.park := by
  simp only [State.raiseWith]; split <;> simp

/-! ### The Port Unit through a raise: RPQ alone can change -/

@[simp] theorem State.sendNotice_ptq (k : NoticeKind) (d : Detail) (s : State) :
    (s.sendNotice k d).port.ptq = s.port.ptq := rfl
@[simp] theorem State.sendNotice_fwq (k : NoticeKind) (d : Detail) (s : State) :
    (s.sendNotice k d).port.fwq = s.port.fwq := rfl
@[simp] theorem State.sendNotice_dnShareCount (k : NoticeKind) (d : Detail) (s : State) :
    (s.sendNotice k d).port.dnShareCount = s.port.dnShareCount := rfl
@[simp] theorem State.sendNotice_upRunCount (k : NoticeKind) (d : Detail) (s : State) :
    (s.sendNotice k d).port.upRunCount = s.port.upRunCount := rfl
@[simp] theorem State.sendNotice_dnTx (k : NoticeKind) (d : Detail) (s : State) :
    (s.sendNotice k d).port.dnTx = s.port.dnTx := rfl
@[simp] theorem State.sendNotice_upTx (k : NoticeKind) (d : Detail) (s : State) :
    (s.sendNotice k d).port.upTx = s.port.upTx := rfl
@[simp] theorem State.sendNotice_upRx (k : NoticeKind) (d : Detail) (s : State) :
    (s.sendNotice k d).port.upRx = s.port.upRx := rfl
@[simp] theorem State.sendNotice_dnRx (k : NoticeKind) (d : Detail) (s : State) :
    (s.sendNotice k d).port.dnRx = s.port.dnRx := rfl
@[simp] theorem State.raiseRecord_ptq (k : NoticeKind) (d : Detail) (s : State) :
    (s.raiseRecord k d).port.ptq = s.port.ptq := by
  simp only [State.raiseRecord]; split <;> rfl
@[simp] theorem State.raiseRecord_fwq (k : NoticeKind) (d : Detail) (s : State) :
    (s.raiseRecord k d).port.fwq = s.port.fwq := by
  simp only [State.raiseRecord]; split <;> rfl
@[simp] theorem State.raiseRecord_dnShareCount (k : NoticeKind) (d : Detail) (s : State) :
    (s.raiseRecord k d).port.dnShareCount = s.port.dnShareCount := by
  simp only [State.raiseRecord]; split <;> rfl
@[simp] theorem State.raiseRecord_upRunCount (k : NoticeKind) (d : Detail) (s : State) :
    (s.raiseRecord k d).port.upRunCount = s.port.upRunCount := by
  simp only [State.raiseRecord]; split <;> rfl
@[simp] theorem State.raiseRecord_dnTx (k : NoticeKind) (d : Detail) (s : State) :
    (s.raiseRecord k d).port.dnTx = s.port.dnTx := by
  simp only [State.raiseRecord]; split <;> rfl
@[simp] theorem State.raiseRecord_upTx (k : NoticeKind) (d : Detail) (s : State) :
    (s.raiseRecord k d).port.upTx = s.port.upTx := by
  simp only [State.raiseRecord]; split <;> rfl
@[simp] theorem State.raiseRecord_upRx (k : NoticeKind) (d : Detail) (s : State) :
    (s.raiseRecord k d).port.upRx = s.port.upRx := by
  simp only [State.raiseRecord]; split <;> rfl
@[simp] theorem State.raiseRecord_dnRx (k : NoticeKind) (d : Detail) (s : State) :
    (s.raiseRecord k d).port.dnRx = s.port.dnRx := by
  simp only [State.raiseRecord]; split <;> rfl

/-! ### The raises an event owes: every block but notice, and RPQ of port -/

/-- What no raise of TALLY_OVERFLOW changes, the raises an event owes leave as it was. -/
theorem State.raiseOverflows_of {β : Type} (p : State → β)
    (h : ∀ (s : State) (d : Detail), p (s.raiseRecord .tallyOverflow d) = p s) (owed : List (Fin 4)) (s : State) :
    p (s.raiseOverflows owed) = p s :=
  State.raiseOverflows_keep (I := fun t => p t = p s) (fun t d e => (h t d).trans e) owed rfl

@[simp] theorem State.raiseOverflows_supplyUp (o : List (Fin 4)) (s : State) : (s.raiseOverflows o).supplyUp = s.supplyUp :=
  State.raiseOverflows_of (·.supplyUp) (fun _ _ => State.raiseRecord_supplyUp ..) o s
@[simp] theorem State.raiseOverflows_resetLow (o : List (Fin 4)) (s : State) : (s.raiseOverflows o).resetLow = s.resetLow :=
  State.raiseOverflows_of (·.resetLow) (fun _ _ => State.raiseRecord_resetLow ..) o s
@[simp] theorem State.raiseOverflows_draws (o : List (Fin 4)) (s : State) : (s.raiseOverflows o).draws = s.draws :=
  State.raiseOverflows_of (·.draws) (fun _ _ => State.raiseRecord_draws ..) o s
@[simp] theorem State.raiseOverflows_pending (o : List (Fin 4)) (s : State) : (s.raiseOverflows o).pending = s.pending :=
  State.raiseOverflows_of (·.pending) (fun _ _ => State.raiseRecord_pending ..) o s
@[simp] theorem State.raiseOverflows_intake (o : List (Fin 4)) (s : State) : (s.raiseOverflows o).intake = s.intake :=
  State.raiseOverflows_of (·.intake) (fun _ _ => State.raiseRecord_intake ..) o s
@[simp] theorem State.raiseOverflows_quantity (o : List (Fin 4)) (s : State) : (s.raiseOverflows o).quantity = s.quantity :=
  State.raiseOverflows_of (·.quantity) (fun _ _ => State.raiseRecord_quantity ..) o s
@[simp] theorem State.raiseOverflows_ctrl (o : List (Fin 4)) (s : State) : (s.raiseOverflows o).ctrl = s.ctrl :=
  State.raiseOverflows_of (·.ctrl) (fun _ _ => State.raiseRecord_ctrl ..) o s
@[simp] theorem State.raiseOverflows_timer (o : List (Fin 4)) (s : State) : (s.raiseOverflows o).timer = s.timer :=
  State.raiseOverflows_of (·.timer) (fun _ _ => State.raiseRecord_timer ..) o s
@[simp] theorem State.raiseOverflows_cmd (o : List (Fin 4)) (s : State) : (s.raiseOverflows o).cmd = s.cmd :=
  State.raiseOverflows_of (·.cmd) (fun _ _ => State.raiseRecord_cmd ..) o s
@[simp] theorem State.raiseOverflows_mgmt (o : List (Fin 4)) (s : State) : (s.raiseOverflows o).mgmt = s.mgmt :=
  State.raiseOverflows_of (·.mgmt) (fun _ _ => State.raiseRecord_mgmt ..) o s
@[simp] theorem State.raiseOverflows_integ (o : List (Fin 4)) (s : State) : (s.raiseOverflows o).integ = s.integ :=
  State.raiseOverflows_of (·.integ) (fun _ _ => State.raiseRecord_integ ..) o s
@[simp] theorem State.raiseOverflows_park (o : List (Fin 4)) (s : State) : (s.raiseOverflows o).park = s.park :=
  State.raiseOverflows_of (·.park) (fun _ _ => State.raiseRecord_park ..) o s
@[simp] theorem State.raiseOverflows_tally (o : List (Fin 4)) (s : State) : (s.raiseOverflows o).tally = s.tally :=
  State.raiseOverflows_of (·.tally) (fun _ _ => State.raiseRecord_tally ..) o s
@[simp] theorem State.raiseOverflows_ptq (o : List (Fin 4)) (s : State) : (s.raiseOverflows o).port.ptq = s.port.ptq :=
  State.raiseOverflows_of (·.port.ptq) (fun _ _ => State.raiseRecord_ptq ..) o s
@[simp] theorem State.raiseOverflows_fwq (o : List (Fin 4)) (s : State) : (s.raiseOverflows o).port.fwq = s.port.fwq :=
  State.raiseOverflows_of (·.port.fwq) (fun _ _ => State.raiseRecord_fwq ..) o s
@[simp] theorem State.raiseOverflows_dnShareCount (o : List (Fin 4)) (s : State) : (s.raiseOverflows o).port.dnShareCount = s.port.dnShareCount :=
  State.raiseOverflows_of (·.port.dnShareCount) (fun _ _ => State.raiseRecord_dnShareCount ..) o s
@[simp] theorem State.raiseOverflows_upRunCount (o : List (Fin 4)) (s : State) : (s.raiseOverflows o).port.upRunCount = s.port.upRunCount :=
  State.raiseOverflows_of (·.port.upRunCount) (fun _ _ => State.raiseRecord_upRunCount ..) o s
@[simp] theorem State.raiseOverflows_dnTx (o : List (Fin 4)) (s : State) : (s.raiseOverflows o).port.dnTx = s.port.dnTx :=
  State.raiseOverflows_of (·.port.dnTx) (fun _ _ => State.raiseRecord_dnTx ..) o s
@[simp] theorem State.raiseOverflows_upTx (o : List (Fin 4)) (s : State) : (s.raiseOverflows o).port.upTx = s.port.upTx :=
  State.raiseOverflows_of (·.port.upTx) (fun _ _ => State.raiseRecord_upTx ..) o s
@[simp] theorem State.raiseOverflows_upRx (o : List (Fin 4)) (s : State) : (s.raiseOverflows o).port.upRx = s.port.upRx :=
  State.raiseOverflows_of (·.port.upRx) (fun _ _ => State.raiseRecord_upRx ..) o s
@[simp] theorem State.raiseOverflows_dnRx (o : List (Fin 4)) (s : State) : (s.raiseOverflows o).port.dnRx = s.port.dnRx :=
  State.raiseOverflows_of (·.port.dnRx) (fun _ _ => State.raiseRecord_dnRx ..) o s

/-! ### Sub-events counted: every block but notice and tally, and RPQ of port -/

/-- What neither a count nor a raise of TALLY_OVERFLOW changes, sub-events leave as it was. -/
theorem State.countAll_of {β : Type} (p : State → β)
    (h : ∀ (s : State) (d : Detail), p (s.raiseRecord .tallyOverflow d) = p s)
    (ht : ∀ (s : State) (f : TallyUnit → TallyUnit), p (s.onTally f) = p s) (es : List SubEvent) (s : State) :
    p (s.countAll es) = p s := by
  have hg : ∀ v : Event, p (es.foldl (fun v e => v.give e) v).state = p v.state := by
    induction es with
    | nil => exact fun _ => rfl
    | cons e es ih =>
      intro v
      simp only [List.foldl_cons, ih, Event.give_state, ht]
  exact (State.raiseOverflows_of p h _ _).trans (hg ⟨s, []⟩)

@[simp] theorem State.countAll_supplyUp (es : List SubEvent) (s : State) : (s.countAll es).supplyUp = s.supplyUp :=
  State.countAll_of (·.supplyUp) (fun _ _ => State.raiseRecord_supplyUp ..) (fun _ _ => rfl) es s
@[simp] theorem State.countAll_resetLow (es : List SubEvent) (s : State) : (s.countAll es).resetLow = s.resetLow :=
  State.countAll_of (·.resetLow) (fun _ _ => State.raiseRecord_resetLow ..) (fun _ _ => rfl) es s
@[simp] theorem State.countAll_draws (es : List SubEvent) (s : State) : (s.countAll es).draws = s.draws :=
  State.countAll_of (·.draws) (fun _ _ => State.raiseRecord_draws ..) (fun _ _ => rfl) es s
@[simp] theorem State.countAll_pending (es : List SubEvent) (s : State) : (s.countAll es).pending = s.pending :=
  State.countAll_of (·.pending) (fun _ _ => State.raiseRecord_pending ..) (fun _ _ => rfl) es s
@[simp] theorem State.countAll_intake (es : List SubEvent) (s : State) : (s.countAll es).intake = s.intake :=
  State.countAll_of (·.intake) (fun _ _ => State.raiseRecord_intake ..) (fun _ _ => rfl) es s
@[simp] theorem State.countAll_quantity (es : List SubEvent) (s : State) : (s.countAll es).quantity = s.quantity :=
  State.countAll_of (·.quantity) (fun _ _ => State.raiseRecord_quantity ..) (fun _ _ => rfl) es s
@[simp] theorem State.countAll_ctrl (es : List SubEvent) (s : State) : (s.countAll es).ctrl = s.ctrl :=
  State.countAll_of (·.ctrl) (fun _ _ => State.raiseRecord_ctrl ..) (fun _ _ => rfl) es s
@[simp] theorem State.countAll_timer (es : List SubEvent) (s : State) : (s.countAll es).timer = s.timer :=
  State.countAll_of (·.timer) (fun _ _ => State.raiseRecord_timer ..) (fun _ _ => rfl) es s
@[simp] theorem State.countAll_cmd (es : List SubEvent) (s : State) : (s.countAll es).cmd = s.cmd :=
  State.countAll_of (·.cmd) (fun _ _ => State.raiseRecord_cmd ..) (fun _ _ => rfl) es s
@[simp] theorem State.countAll_mgmt (es : List SubEvent) (s : State) : (s.countAll es).mgmt = s.mgmt :=
  State.countAll_of (·.mgmt) (fun _ _ => State.raiseRecord_mgmt ..) (fun _ _ => rfl) es s
@[simp] theorem State.countAll_integ (es : List SubEvent) (s : State) : (s.countAll es).integ = s.integ :=
  State.countAll_of (·.integ) (fun _ _ => State.raiseRecord_integ ..) (fun _ _ => rfl) es s
@[simp] theorem State.countAll_park (es : List SubEvent) (s : State) : (s.countAll es).park = s.park :=
  State.countAll_of (·.park) (fun _ _ => State.raiseRecord_park ..) (fun _ _ => rfl) es s
@[simp] theorem State.countAll_ptq (es : List SubEvent) (s : State) : (s.countAll es).port.ptq = s.port.ptq :=
  State.countAll_of (·.port.ptq) (fun _ _ => State.raiseRecord_ptq ..) (fun _ _ => rfl) es s
@[simp] theorem State.countAll_fwq (es : List SubEvent) (s : State) : (s.countAll es).port.fwq = s.port.fwq :=
  State.countAll_of (·.port.fwq) (fun _ _ => State.raiseRecord_fwq ..) (fun _ _ => rfl) es s
@[simp] theorem State.countAll_dnShareCount (es : List SubEvent) (s : State) : (s.countAll es).port.dnShareCount = s.port.dnShareCount :=
  State.countAll_of (·.port.dnShareCount) (fun _ _ => State.raiseRecord_dnShareCount ..) (fun _ _ => rfl) es s
@[simp] theorem State.countAll_upRunCount (es : List SubEvent) (s : State) : (s.countAll es).port.upRunCount = s.port.upRunCount :=
  State.countAll_of (·.port.upRunCount) (fun _ _ => State.raiseRecord_upRunCount ..) (fun _ _ => rfl) es s
@[simp] theorem State.countAll_dnTx (es : List SubEvent) (s : State) : (s.countAll es).port.dnTx = s.port.dnTx :=
  State.countAll_of (·.port.dnTx) (fun _ _ => State.raiseRecord_dnTx ..) (fun _ _ => rfl) es s
@[simp] theorem State.countAll_upTx (es : List SubEvent) (s : State) : (s.countAll es).port.upTx = s.port.upTx :=
  State.countAll_of (·.port.upTx) (fun _ _ => State.raiseRecord_upTx ..) (fun _ _ => rfl) es s
@[simp] theorem State.countAll_upRx (es : List SubEvent) (s : State) : (s.countAll es).port.upRx = s.port.upRx :=
  State.countAll_of (·.port.upRx) (fun _ _ => State.raiseRecord_upRx ..) (fun _ _ => rfl) es s
@[simp] theorem State.countAll_dnRx (es : List SubEvent) (s : State) : (s.countAll es).port.dnRx = s.port.dnRx :=
  State.countAll_of (·.port.dnRx) (fun _ _ => State.raiseRecord_dnRx ..) (fun _ _ => rfl) es s

/-- The tallies after sub-events: each adds what R166 says under the current mode. -/
theorem State.countAll_tally (es : List SubEvent) (s : State) :
    (s.countAll es).tally =
      es.foldl (fun u e => { u with tallies := mapTable (fun t => t.add (e.amount s.ctrl.mode t)) u.tallies })
        s.tally := by
  have hg : ∀ v : Event, v.state.ctrl.mode = s.ctrl.mode → (es.foldl (fun v e => v.give e) v).state.tally =
      es.foldl (fun u e => { u with tallies := mapTable (fun t => t.add (e.amount s.ctrl.mode t)) u.tallies })
        v.state.tally := by
    induction es with
    | nil => exact fun _ _ => rfl
    | cons e es ih =>
      intro v hv
      simp only [List.foldl_cons]
      rw [ih _ (by simpa using hv)]
      simp only [Event.give_state, State.onTally_tally, hv]
  exact (State.raiseOverflows_tally _ _).trans (hg ⟨s, []⟩ rfl)

@[simp] theorem State.count_supplyUp (e : SubEvent) (s : State) : (s.count e).supplyUp = s.supplyUp := State.countAll_supplyUp [e] s
@[simp] theorem State.count_resetLow (e : SubEvent) (s : State) : (s.count e).resetLow = s.resetLow := State.countAll_resetLow [e] s
@[simp] theorem State.count_draws (e : SubEvent) (s : State) : (s.count e).draws = s.draws := State.countAll_draws [e] s
@[simp] theorem State.count_pending (e : SubEvent) (s : State) : (s.count e).pending = s.pending := State.countAll_pending [e] s
@[simp] theorem State.count_intake (e : SubEvent) (s : State) : (s.count e).intake = s.intake := State.countAll_intake [e] s
@[simp] theorem State.count_quantity (e : SubEvent) (s : State) : (s.count e).quantity = s.quantity := State.countAll_quantity [e] s
@[simp] theorem State.count_ctrl (e : SubEvent) (s : State) : (s.count e).ctrl = s.ctrl := State.countAll_ctrl [e] s
@[simp] theorem State.count_timer (e : SubEvent) (s : State) : (s.count e).timer = s.timer := State.countAll_timer [e] s
@[simp] theorem State.count_cmd (e : SubEvent) (s : State) : (s.count e).cmd = s.cmd := State.countAll_cmd [e] s
@[simp] theorem State.count_mgmt (e : SubEvent) (s : State) : (s.count e).mgmt = s.mgmt := State.countAll_mgmt [e] s
@[simp] theorem State.count_integ (e : SubEvent) (s : State) : (s.count e).integ = s.integ := State.countAll_integ [e] s
@[simp] theorem State.count_park (e : SubEvent) (s : State) : (s.count e).park = s.park := State.countAll_park [e] s
@[simp] theorem State.count_ptq (e : SubEvent) (s : State) : (s.count e).port.ptq = s.port.ptq :=
  State.countAll_ptq [e] s
@[simp] theorem State.count_fwq (e : SubEvent) (s : State) : (s.count e).port.fwq = s.port.fwq :=
  State.countAll_fwq [e] s
@[simp] theorem State.count_dnShareCount (e : SubEvent) (s : State) : (s.count e).port.dnShareCount = s.port.dnShareCount :=
  State.countAll_dnShareCount [e] s
@[simp] theorem State.count_upRunCount (e : SubEvent) (s : State) : (s.count e).port.upRunCount = s.port.upRunCount :=
  State.countAll_upRunCount [e] s
@[simp] theorem State.count_dnTx (e : SubEvent) (s : State) : (s.count e).port.dnTx = s.port.dnTx :=
  State.countAll_dnTx [e] s
@[simp] theorem State.count_upTx (e : SubEvent) (s : State) : (s.count e).port.upTx = s.port.upTx :=
  State.countAll_upTx [e] s
@[simp] theorem State.count_upRx (e : SubEvent) (s : State) : (s.count e).port.upRx = s.port.upRx :=
  State.countAll_upRx [e] s
@[simp] theorem State.count_dnRx (e : SubEvent) (s : State) : (s.count e).port.dnRx = s.port.dnRx :=
  State.countAll_dnRx [e] s

/-- The tallies after one sub-event (R166). -/
theorem State.count_tally (e : SubEvent) (s : State) :
    (s.count e).tally =
      { s.tally with tallies := mapTable (fun t => t.add (e.amount s.ctrl.mode t)) s.tally.tallies } :=
  State.countAll_tally [e] s

/-! ### Frame queues -/

/-- An offer leaves the queue as it was or puts the frame at its end. -/
theorem offer_spec (n : Nat) (q : List Frame) (f : Frame) :
    (q.length < n ∧ offer n q f = q ++ [f]) ∨ (n ≤ q.length ∧ offer n q f = q) := by
  unfold offer
  split
  · exact .inl ⟨by assumption, rfl⟩
  · exact .inr ⟨by omega, rfl⟩

/-- An offer never takes a queue past its capacity. -/
theorem offer_length {n : Nat} {q : List Frame} {f : Frame} (h : q.length ≤ n) : (offer n q f).length ≤ n := by
  rcases offer_spec n q f with ⟨hl, e⟩ | ⟨_, e⟩
  · rw [e, List.length_append]
    simpa using hl
  · rw [e]
    exact h

theorem offer_of_room {n : Nat} {q : List Frame} (h : q.length < n) (f : Frame) : offer n q f = q ++ [f] := by
  simp [offer, h]

theorem offer_of_full {n : Nat} {q : List Frame} (h : n ≤ q.length) (f : Frame) : offer n q f = q := by
  simp [offer, Nat.not_lt.mpr h]

/-! ### Offers of passing frames (R128) -/

/-- With room in PTQ the offered frame joins it. -/
theorem State.offerPtq_room {s : State} (h : s.port.ptq.length < ptqCapacity) (f : Frame) :
    s.offerPtq f = s.onPort fun p => { p with ptq := p.ptq ++ [f] } := by
  simp [State.offerPtq, Machine.offerPtq, Act.after, Act.bind_run, Act.look_run, Act.upd_run, h, State.onPort, offer]

/-- At a full PTQ the offered frame is lost: PT_DROP, then QUEUE_DROP. -/
theorem State.offerPtq_full {s : State} (h : ptqCapacity ≤ s.port.ptq.length) (f : Frame) :
    s.offerPtq f = (s.count .ptDrop).raiseRecord .queueDrop (.queue .ptq) := by
  simp [State.offerPtq, Machine.offerPtq, Act.after, Act.bind_run, Act.look_run, Act.upd_run, Act.give_run,
    Act.raiseOwed_run, dropFrame, Nat.not_lt.mpr h, State.count, State.countAll]

/-- With room in FWQ the offered frame joins it. -/
theorem State.offerFwq_room {s : State} (h : s.port.fwq.length < fwqCapacity) (f : Frame) :
    s.offerFwq f = s.onPort fun p => { p with fwq := p.fwq ++ [f] } := by
  simp [State.offerFwq, Machine.offerFwq, Act.after, Act.bind_run, Act.look_run, Act.upd_run, h, State.onPort, offer]

/-- At a full FWQ the offered frame is lost: FQ_DROP, then QUEUE_DROP. -/
theorem State.offerFwq_full {s : State} (h : fwqCapacity ≤ s.port.fwq.length) (f : Frame) :
    s.offerFwq f = (s.count .fqDrop).raiseRecord .queueDrop (.queue .fwq) := by
  simp [State.offerFwq, Machine.offerFwq, Act.after, Act.bind_run, Act.look_run, Act.upd_run, Act.give_run,
    Act.raiseOwed_run, dropFrame, Nat.not_lt.mpr h, State.count, State.countAll]

/-! ### report: every block but ctrl -/

@[simp] theorem State.report_supplyUp (r : Report) (s : State) : (s.report r).supplyUp = s.supplyUp := rfl
@[simp] theorem State.report_resetLow (r : Report) (s : State) : (s.report r).resetLow = s.resetLow := rfl
@[simp] theorem State.report_draws (r : Report) (s : State) : (s.report r).draws = s.draws := rfl
@[simp] theorem State.report_pending (r : Report) (s : State) : (s.report r).pending = s.pending := rfl
@[simp] theorem State.report_port (r : Report) (s : State) : (s.report r).port = s.port := rfl
@[simp] theorem State.report_intake (r : Report) (s : State) : (s.report r).intake = s.intake := rfl
@[simp] theorem State.report_quantity (r : Report) (s : State) : (s.report r).quantity = s.quantity := rfl
@[simp] theorem State.report_timer (r : Report) (s : State) : (s.report r).timer = s.timer := rfl
@[simp] theorem State.report_cmd (r : Report) (s : State) : (s.report r).cmd = s.cmd := rfl
@[simp] theorem State.report_mgmt (r : Report) (s : State) : (s.report r).mgmt = s.mgmt := rfl
@[simp] theorem State.report_notice (r : Report) (s : State) : (s.report r).notice = s.notice := rfl
@[simp] theorem State.report_tally (r : Report) (s : State) : (s.report r).tally = s.tally := rfl
@[simp] theorem State.report_integ (r : Report) (s : State) : (s.report r).integ = s.integ := rfl
@[simp] theorem State.report_park (r : Report) (s : State) : (s.report r).park = s.park := rfl

/-! ### reportTimers: every block but ctrl -/

@[simp] theorem State.reportTimers_supplyUp  (s : State) : (s.reportTimers).supplyUp = s.supplyUp := rfl
@[simp] theorem State.reportTimers_resetLow  (s : State) : (s.reportTimers).resetLow = s.resetLow := rfl
@[simp] theorem State.reportTimers_draws  (s : State) : (s.reportTimers).draws = s.draws := rfl
@[simp] theorem State.reportTimers_pending  (s : State) : (s.reportTimers).pending = s.pending := rfl
@[simp] theorem State.reportTimers_port  (s : State) : (s.reportTimers).port = s.port := rfl
@[simp] theorem State.reportTimers_intake  (s : State) : (s.reportTimers).intake = s.intake := rfl
@[simp] theorem State.reportTimers_quantity  (s : State) : (s.reportTimers).quantity = s.quantity := rfl
@[simp] theorem State.reportTimers_timer  (s : State) : (s.reportTimers).timer = s.timer := rfl
@[simp] theorem State.reportTimers_cmd  (s : State) : (s.reportTimers).cmd = s.cmd := rfl
@[simp] theorem State.reportTimers_mgmt  (s : State) : (s.reportTimers).mgmt = s.mgmt := rfl
@[simp] theorem State.reportTimers_notice  (s : State) : (s.reportTimers).notice = s.notice := rfl
@[simp] theorem State.reportTimers_tally  (s : State) : (s.reportTimers).tally = s.tally := rfl
@[simp] theorem State.reportTimers_integ  (s : State) : (s.reportTimers).integ = s.integ := rfl
@[simp] theorem State.reportTimers_park  (s : State) : (s.reportTimers).park = s.park := rfl

/-! ### reportSlot: every block but ctrl -/

@[simp] theorem State.reportSlot_supplyUp (i : Fin 32) (s : State) : (s.reportSlot i).supplyUp = s.supplyUp := rfl
@[simp] theorem State.reportSlot_resetLow (i : Fin 32) (s : State) : (s.reportSlot i).resetLow = s.resetLow := rfl
@[simp] theorem State.reportSlot_draws (i : Fin 32) (s : State) : (s.reportSlot i).draws = s.draws := rfl
@[simp] theorem State.reportSlot_pending (i : Fin 32) (s : State) : (s.reportSlot i).pending = s.pending := rfl
@[simp] theorem State.reportSlot_port (i : Fin 32) (s : State) : (s.reportSlot i).port = s.port := rfl
@[simp] theorem State.reportSlot_intake (i : Fin 32) (s : State) : (s.reportSlot i).intake = s.intake := rfl
@[simp] theorem State.reportSlot_quantity (i : Fin 32) (s : State) : (s.reportSlot i).quantity = s.quantity := rfl
@[simp] theorem State.reportSlot_timer (i : Fin 32) (s : State) : (s.reportSlot i).timer = s.timer := rfl
@[simp] theorem State.reportSlot_cmd (i : Fin 32) (s : State) : (s.reportSlot i).cmd = s.cmd := rfl
@[simp] theorem State.reportSlot_mgmt (i : Fin 32) (s : State) : (s.reportSlot i).mgmt = s.mgmt := rfl
@[simp] theorem State.reportSlot_notice (i : Fin 32) (s : State) : (s.reportSlot i).notice = s.notice := rfl
@[simp] theorem State.reportSlot_tally (i : Fin 32) (s : State) : (s.reportSlot i).tally = s.tally := rfl
@[simp] theorem State.reportSlot_integ (i : Fin 32) (s : State) : (s.reportSlot i).integ = s.integ := rfl
@[simp] theorem State.reportSlot_park (i : Fin 32) (s : State) : (s.reportSlot i).park = s.park := rfl

/-! ### handOver: every block but timer -/

@[simp] theorem State.handOver_supplyUp (h : Handover) (s : State) : (s.handOver h).supplyUp = s.supplyUp := by
  simp only [State.handOver]; split <;> rfl
@[simp] theorem State.handOver_resetLow (h : Handover) (s : State) : (s.handOver h).resetLow = s.resetLow := by
  simp only [State.handOver]; split <;> rfl
@[simp] theorem State.handOver_draws (h : Handover) (s : State) : (s.handOver h).draws = s.draws := by
  simp only [State.handOver]; split <;> rfl
@[simp] theorem State.handOver_pending (h : Handover) (s : State) : (s.handOver h).pending = s.pending := by
  simp only [State.handOver]; split <;> rfl
@[simp] theorem State.handOver_port (h : Handover) (s : State) : (s.handOver h).port = s.port := by
  simp only [State.handOver]; split <;> rfl
@[simp] theorem State.handOver_intake (h : Handover) (s : State) : (s.handOver h).intake = s.intake := by
  simp only [State.handOver]; split <;> rfl
@[simp] theorem State.handOver_quantity (h : Handover) (s : State) : (s.handOver h).quantity = s.quantity := by
  simp only [State.handOver]; split <;> rfl
@[simp] theorem State.handOver_ctrl (h : Handover) (s : State) : (s.handOver h).ctrl = s.ctrl := by
  simp only [State.handOver]; split <;> rfl
@[simp] theorem State.handOver_cmd (h : Handover) (s : State) : (s.handOver h).cmd = s.cmd := by
  simp only [State.handOver]; split <;> rfl
@[simp] theorem State.handOver_mgmt (h : Handover) (s : State) : (s.handOver h).mgmt = s.mgmt := by
  simp only [State.handOver]; split <;> rfl
@[simp] theorem State.handOver_notice (h : Handover) (s : State) : (s.handOver h).notice = s.notice := by
  simp only [State.handOver]; split <;> rfl
@[simp] theorem State.handOver_tally (h : Handover) (s : State) : (s.handOver h).tally = s.tally := by
  simp only [State.handOver]; split <;> rfl
@[simp] theorem State.handOver_integ (h : Handover) (s : State) : (s.handOver h).integ = s.integ := by
  simp only [State.handOver]; split <;> rfl
@[simp] theorem State.handOver_park (h : Handover) (s : State) : (s.handOver h).park = s.park := by
  simp only [State.handOver]; split <;> rfl

/-! ### setFlips: every block but intake, quantity, ctrl, timer, cmd, mgmt -/

@[simp] theorem State.setFlips_supplyUp (e : EntryId) (c : List Nat) (s : State) : (s.setFlips e c).supplyUp = s.supplyUp := by
  cases e <;> rfl
@[simp] theorem State.setFlips_resetLow (e : EntryId) (c : List Nat) (s : State) : (s.setFlips e c).resetLow = s.resetLow := by
  cases e <;> rfl
@[simp] theorem State.setFlips_draws (e : EntryId) (c : List Nat) (s : State) : (s.setFlips e c).draws = s.draws := by
  cases e <;> rfl
@[simp] theorem State.setFlips_pending (e : EntryId) (c : List Nat) (s : State) : (s.setFlips e c).pending = s.pending := by
  cases e <;> rfl
@[simp] theorem State.setFlips_port (e : EntryId) (c : List Nat) (s : State) : (s.setFlips e c).port = s.port := by
  cases e <;> rfl
@[simp] theorem State.setFlips_notice (e : EntryId) (c : List Nat) (s : State) : (s.setFlips e c).notice = s.notice := by
  cases e <;> rfl
@[simp] theorem State.setFlips_tally (e : EntryId) (c : List Nat) (s : State) : (s.setFlips e c).tally = s.tally := by
  cases e <;> rfl
@[simp] theorem State.setFlips_integ (e : EntryId) (c : List Nat) (s : State) : (s.setFlips e c).integ = s.integ := by
  cases e <;> rfl
@[simp] theorem State.setFlips_park (e : EntryId) (c : List Nat) (s : State) : (s.setFlips e c).park = s.park := by
  cases e <;> rfl

/-! ### correct: every block but intake, quantity, ctrl, timer, cmd, mgmt, integ, notice, port -/

@[simp] theorem State.correct_supplyUp (e : EntryId) (s : State) : (s.correct e).supplyUp = s.supplyUp := by
  simp [State.correct]
@[simp] theorem State.correct_resetLow (e : EntryId) (s : State) : (s.correct e).resetLow = s.resetLow := by
  simp [State.correct]
@[simp] theorem State.correct_draws (e : EntryId) (s : State) : (s.correct e).draws = s.draws := by
  simp [State.correct]
@[simp] theorem State.correct_pending (e : EntryId) (s : State) : (s.correct e).pending = s.pending := by
  simp [State.correct]
@[simp] theorem State.correct_tally (e : EntryId) (s : State) : (s.correct e).tally = s.tally := by
  simp [State.correct]
@[simp] theorem State.correct_park (e : EntryId) (s : State) : (s.correct e).park = s.park := by
  simp [State.correct]

/-! ### reportSetup: every block but ctrl -/

@[simp] theorem State.reportSetup_supplyUp (e : EntryId) (s : State) : (s.reportSetup e).supplyUp = s.supplyUp := by
  cases e <;> rfl
@[simp] theorem State.reportSetup_resetLow (e : EntryId) (s : State) : (s.reportSetup e).resetLow = s.resetLow := by
  cases e <;> rfl
@[simp] theorem State.reportSetup_draws (e : EntryId) (s : State) : (s.reportSetup e).draws = s.draws := by
  cases e <;> rfl
@[simp] theorem State.reportSetup_pending (e : EntryId) (s : State) : (s.reportSetup e).pending = s.pending := by
  cases e <;> rfl
@[simp] theorem State.reportSetup_port (e : EntryId) (s : State) : (s.reportSetup e).port = s.port := by
  cases e <;> rfl
@[simp] theorem State.reportSetup_intake (e : EntryId) (s : State) : (s.reportSetup e).intake = s.intake := by
  cases e <;> rfl
@[simp] theorem State.reportSetup_quantity (e : EntryId) (s : State) : (s.reportSetup e).quantity = s.quantity := by
  cases e <;> rfl
@[simp] theorem State.reportSetup_timer (e : EntryId) (s : State) : (s.reportSetup e).timer = s.timer := by
  cases e <;> rfl
@[simp] theorem State.reportSetup_cmd (e : EntryId) (s : State) : (s.reportSetup e).cmd = s.cmd := by
  cases e <;> rfl
@[simp] theorem State.reportSetup_mgmt (e : EntryId) (s : State) : (s.reportSetup e).mgmt = s.mgmt := by
  cases e <;> rfl
@[simp] theorem State.reportSetup_notice (e : EntryId) (s : State) : (s.reportSetup e).notice = s.notice := by
  cases e <;> rfl
@[simp] theorem State.reportSetup_tally (e : EntryId) (s : State) : (s.reportSetup e).tally = s.tally := by
  cases e <;> rfl
@[simp] theorem State.reportSetup_integ (e : EntryId) (s : State) : (s.reportSetup e).integ = s.integ := by
  cases e <;> rfl
@[simp] theorem State.reportSetup_park (e : EntryId) (s : State) : (s.reportSetup e).park = s.park := by
  cases e <;> rfl

/-! ### joinFaultList: every block but integ, ctrl -/

@[simp] theorem State.joinFaultList_supplyUp (e : EntryId) (s : State) : (s.joinFaultList e).supplyUp = s.supplyUp := by
  simp only [State.joinFaultList]; split <;> simp
@[simp] theorem State.joinFaultList_resetLow (e : EntryId) (s : State) : (s.joinFaultList e).resetLow = s.resetLow := by
  simp only [State.joinFaultList]; split <;> simp
@[simp] theorem State.joinFaultList_draws (e : EntryId) (s : State) : (s.joinFaultList e).draws = s.draws := by
  simp only [State.joinFaultList]; split <;> simp
@[simp] theorem State.joinFaultList_pending (e : EntryId) (s : State) : (s.joinFaultList e).pending = s.pending := by
  simp only [State.joinFaultList]; split <;> simp
@[simp] theorem State.joinFaultList_port (e : EntryId) (s : State) : (s.joinFaultList e).port = s.port := by
  simp only [State.joinFaultList]; split <;> simp
@[simp] theorem State.joinFaultList_intake (e : EntryId) (s : State) : (s.joinFaultList e).intake = s.intake := by
  simp only [State.joinFaultList]; split <;> simp
@[simp] theorem State.joinFaultList_quantity (e : EntryId) (s : State) : (s.joinFaultList e).quantity = s.quantity := by
  simp only [State.joinFaultList]; split <;> simp
@[simp] theorem State.joinFaultList_timer (e : EntryId) (s : State) : (s.joinFaultList e).timer = s.timer := by
  simp only [State.joinFaultList]; split <;> simp
@[simp] theorem State.joinFaultList_cmd (e : EntryId) (s : State) : (s.joinFaultList e).cmd = s.cmd := by
  simp only [State.joinFaultList]; split <;> simp
@[simp] theorem State.joinFaultList_mgmt (e : EntryId) (s : State) : (s.joinFaultList e).mgmt = s.mgmt := by
  simp only [State.joinFaultList]; split <;> simp
@[simp] theorem State.joinFaultList_notice (e : EntryId) (s : State) : (s.joinFaultList e).notice = s.notice := by
  simp only [State.joinFaultList]; split <;> simp
@[simp] theorem State.joinFaultList_tally (e : EntryId) (s : State) : (s.joinFaultList e).tally = s.tally := by
  simp only [State.joinFaultList]; split <;> simp
@[simp] theorem State.joinFaultList_park (e : EntryId) (s : State) : (s.joinFaultList e).park = s.park := by
  simp only [State.joinFaultList]; split <;> simp

/-! ### rewritten: every block but integ, ctrl -/

@[simp] theorem State.rewritten_supplyUp (e : EntryId) (s : State) : (s.rewritten e).supplyUp = s.supplyUp := by
  simp only [State.rewritten]; split <;> [(split <;> rfl); rfl]
@[simp] theorem State.rewritten_resetLow (e : EntryId) (s : State) : (s.rewritten e).resetLow = s.resetLow := by
  simp only [State.rewritten]; split <;> [(split <;> rfl); rfl]
@[simp] theorem State.rewritten_draws (e : EntryId) (s : State) : (s.rewritten e).draws = s.draws := by
  simp only [State.rewritten]; split <;> [(split <;> rfl); rfl]
@[simp] theorem State.rewritten_pending (e : EntryId) (s : State) : (s.rewritten e).pending = s.pending := by
  simp only [State.rewritten]; split <;> [(split <;> rfl); rfl]
@[simp] theorem State.rewritten_port (e : EntryId) (s : State) : (s.rewritten e).port = s.port := by
  simp only [State.rewritten]; split <;> [(split <;> rfl); rfl]
@[simp] theorem State.rewritten_intake (e : EntryId) (s : State) : (s.rewritten e).intake = s.intake := by
  simp only [State.rewritten]; split <;> [(split <;> rfl); rfl]
@[simp] theorem State.rewritten_quantity (e : EntryId) (s : State) : (s.rewritten e).quantity = s.quantity := by
  simp only [State.rewritten]; split <;> [(split <;> rfl); rfl]
@[simp] theorem State.rewritten_timer (e : EntryId) (s : State) : (s.rewritten e).timer = s.timer := by
  simp only [State.rewritten]; split <;> [(split <;> rfl); rfl]
@[simp] theorem State.rewritten_cmd (e : EntryId) (s : State) : (s.rewritten e).cmd = s.cmd := by
  simp only [State.rewritten]; split <;> [(split <;> rfl); rfl]
@[simp] theorem State.rewritten_mgmt (e : EntryId) (s : State) : (s.rewritten e).mgmt = s.mgmt := by
  simp only [State.rewritten]; split <;> [(split <;> rfl); rfl]
@[simp] theorem State.rewritten_notice (e : EntryId) (s : State) : (s.rewritten e).notice = s.notice := by
  simp only [State.rewritten]; split <;> [(split <;> rfl); rfl]
@[simp] theorem State.rewritten_tally (e : EntryId) (s : State) : (s.rewritten e).tally = s.tally := by
  simp only [State.rewritten]; split <;> [(split <;> rfl); rfl]
@[simp] theorem State.rewritten_park (e : EntryId) (s : State) : (s.rewritten e).park = s.park := by
  simp only [State.rewritten]; split <;> [(split <;> rfl); rfl]

/-! ### startWith: every block but park, notice, port -/

@[simp] theorem State.startWith_supplyUp (c : StartCause) (s : State) : (s.startWith c).supplyUp = s.supplyUp := by
  simp [State.startWith]
@[simp] theorem State.startWith_resetLow (c : StartCause) (s : State) : (s.startWith c).resetLow = s.resetLow := by
  simp [State.startWith]
@[simp] theorem State.startWith_draws (c : StartCause) (s : State) : (s.startWith c).draws = s.draws := by
  simp [State.startWith]
@[simp] theorem State.startWith_pending (c : StartCause) (s : State) : (s.startWith c).pending = s.pending := by
  simp [State.startWith]
@[simp] theorem State.startWith_intake (c : StartCause) (s : State) : (s.startWith c).intake = s.intake := by
  simp [State.startWith]
@[simp] theorem State.startWith_quantity (c : StartCause) (s : State) : (s.startWith c).quantity = s.quantity := by
  simp [State.startWith]
@[simp] theorem State.startWith_ctrl (c : StartCause) (s : State) : (s.startWith c).ctrl = s.ctrl := by
  simp [State.startWith]
@[simp] theorem State.startWith_timer (c : StartCause) (s : State) : (s.startWith c).timer = s.timer := by
  simp [State.startWith]
@[simp] theorem State.startWith_cmd (c : StartCause) (s : State) : (s.startWith c).cmd = s.cmd := by
  simp [State.startWith]
@[simp] theorem State.startWith_mgmt (c : StartCause) (s : State) : (s.startWith c).mgmt = s.mgmt := by
  simp [State.startWith]
@[simp] theorem State.startWith_tally (c : StartCause) (s : State) : (s.startWith c).tally = s.tally := by
  simp [State.startWith]
@[simp] theorem State.startWith_integ (c : StartCause) (s : State) : (s.startWith c).integ = s.integ := by
  simp [State.startWith]

/-! ### Operating state, mode and damage through the operations -/

@[simp] theorem State.report_mode (r : Report) (s : State) : (s.report r).ctrl.mode = s.ctrl.mode := rfl

@[simp] theorem State.report_records (r : Report) (s : State) : (s.report r).ctrl.records = s.ctrl.records := rfl

@[simp] theorem State.reportSetup_mode (e : EntryId) (s : State) : (s.reportSetup e).ctrl.mode = s.ctrl.mode := by
  cases e <;> rfl

@[simp] theorem State.reportSetup_records (e : EntryId) (s : State) :
    (s.reportSetup e).ctrl.records = s.ctrl.records := by
  cases e <;> rfl

@[simp] theorem State.joinFaultList_mode (e : EntryId) (s : State) : (s.joinFaultList e).ctrl.mode = s.ctrl.mode := by
  simp only [State.joinFaultList]; split <;> simp

@[simp] theorem State.rewritten_mode (e : EntryId) (s : State) : (s.rewritten e).ctrl.mode = s.ctrl.mode := by
  simp only [State.rewritten]; split <;> [(split <;> rfl); rfl]

@[simp] theorem State.setFlips_mode (e : EntryId) (c : List Nat) (s : State) : (s.setFlips e c).ctrl.mode = s.ctrl.mode := by
  cases e <;> rfl

@[simp] theorem State.setFlips_opState (e : EntryId) (c : List Nat) (s : State) :
    (s.setFlips e c).mgmt.opState = s.mgmt.opState := by
  cases e <;> rfl

@[simp] theorem State.correct_mode (e : EntryId) (s : State) : (s.correct e).ctrl.mode = s.ctrl.mode := by
  simp [State.correct]

@[simp] theorem State.correct_opState (e : EntryId) (s : State) : (s.correct e).mgmt.opState = s.mgmt.opState := by
  simp [State.correct]

/-- Joining the Fault List puts the entry at its end. -/
@[simp] theorem State.joinFaultList_faultList (e : EntryId) (s : State) :
    (s.joinFaultList e).integ.faultList = s.integ.faultList ++ [e] := by
  simp only [State.joinFaultList]; split <;> simp

/-- A rewritten entry is off the Fault List; the others keep their order. -/
@[simp] theorem State.rewritten_faultList (e : EntryId) (s : State) :
    (s.rewritten e).integ.faultList = s.integ.faultList.erase e := by
  by_cases h : e ∈ s.integ.faultList
  · by_cases h2 : s.integ.faultList.erase e = [] <;> simp [State.rewritten, State.isFaulted, h, h2]
  · simp [State.rewritten, State.isFaulted, h, List.erase_of_not_mem h]

/-! ### The table wipe -/

@[simp] theorem State.tableWipe_opState (s : State) : s.tableWipe.mgmt.opState = .config := by simp [State.tableWipe, PowerOn.management]

@[simp] theorem State.tableWipe_mode (s : State) : s.tableWipe.ctrl.mode = .safe := by simp [State.tableWipe, PowerOn.controller]

@[simp] theorem State.tableWipe_faultList (s : State) : s.tableWipe.integ.faultList = [] := by
  simp [State.tableWipe, PowerOn.integrity]

@[simp] theorem State.tableWipe_pending (s : State) : s.tableWipe.pending = s.pending := by simp [State.tableWipe]

@[simp] theorem State.tableWipe_supplyUp (s : State) : s.tableWipe.supplyUp = s.supplyUp := by simp [State.tableWipe]

@[simp] theorem State.tableWipe_resetLow (s : State) : s.tableWipe.resetLow = s.resetLow := by simp [State.tableWipe]

@[simp] theorem State.tableWipe_draws (s : State) : s.tableWipe.draws = s.draws := by simp [State.tableWipe]

@[simp] theorem State.tableWipe_timer (s : State) : s.tableWipe.timer = PowerOn.timerUnit s.timer.doors := by
  simp [State.tableWipe]

@[simp] theorem State.tableWipe_cmd (s : State) :
    s.tableWipe.cmd = { PowerOn.commandEngine with tagCounter := s.cmd.tagCounter } := by simp [State.tableWipe]

/-! ### Checked reads -/

/-- An entry that reads good: off the Fault List, with no flipped cell. -/
def State.Good (s : State) (e : EntryId) : Prop := s.isFaulted e = false ∧ s.flips e = []

theorem checkParams_good {v : Event} (h : v.state.Good .params) : checkParams v = .ok .good v := by
  simp [checkParams, Act.bind_run, Act.look_run, Act.pure_run, h.1, h.2]

theorem checkEntry_good {v : Event} {e : EntryId} (h : v.state.Good e) : checkEntry e v = .ok .good v := by
  by_cases he : e = .params
  · subst he
    simp [checkEntry, Act.bind_run, Act.look_run, h.1, checkParams_good h]
  · simp [checkEntry, Act.bind_run, Act.look_run, Act.pure_run, h.1, h.2, he]

theorem checkEntry_faulted {v : Event} {e : EntryId} (h : v.state.isFaulted e = true) :
    checkEntry e v = .ok .faulted v := by
  simp [checkEntry, Act.bind_run, Act.look_run, Act.pure_run, h]

theorem checkParams_faulted {v : Event} (h : v.state.isFaulted .params = true) : checkParams v = .ok .faulted v := by
  simp [checkParams, Act.bind_run, Act.look_run, Act.pure_run, h]

/-- One flipped cell is corrected, and the read goes on as good (R178). -/
theorem checkEntry_corrected {v : Event} {e : EntryId} (h : v.state.isFaulted e = false)
    (hf : (v.state.flips e).length = 1) : checkEntry e v = .ok .good { v with state := v.state.correct e } := by
  by_cases he : e = .params
  · subst he
    simp [checkEntry, checkParams, Act.bind_run, Act.look_run, Act.map_run, Act.upd_run, h, hf]
  · simp [checkEntry, Act.bind_run, Act.look_run, Act.map_run, Act.upd_run, h, hf, he]

/-- Two flipped cells with the Fault List full: the event ends in the table wipe (R182). -/
theorem checkEntry_ninth {v : Event} {e : EntryId} (h : v.state.isFaulted e = false)
    (hf : 2 ≤ (v.state.flips e).length) (hl : faultListCapacity ≤ v.state.integ.faultList.length) :
    checkEntry e v = .error .wiped ⟨v.settled.tableWipe, []⟩ := by
  obtain ⟨n, hn⟩ : ∃ n, (v.state.flips e).length = n + 2 := ⟨(v.state.flips e).length - 2, by omega⟩
  by_cases he : e = .params
  · subst he
    simp [checkEntry, checkParams, Act.bind_run, Act.look_run, h, hn, hl, wipeNow]
  · simp [checkEntry, Act.bind_run, Act.look_run, h, hn, hl, he, wipeNow]

theorem readParams_good {v : Event} (h : v.state.Good .params) :
    readParams v = .ok v.state.mgmt.params.content v := by
  simp [readParams, Act.bind_run, Act.look_run, checkParams_good h]

/-- While the parameters entry is faulted every field reads as its power-on value (R147). -/
theorem readParams_faulted {v : Event} (h : v.state.isFaulted .params = true) :
    readParams v = .ok PowerOn.params v := by
  simp [readParams, Act.bind_run, Act.pure_run, checkParams_faulted h]

/-- A raise that opens no pending period of an escalating kind is the record's raise alone (R155). -/
theorem raise_plain {v : Event} {k : NoticeKind} (d : Detail)
    (h : (!(v.state.noticeRecord k).pending && k.escalating) = false) :
    raise k d v = .ok () { v with state := v.state.raiseRecord k d } := by
  simp [raise, Act.bind_run, Act.look_run, Act.upd_run, Act.pure_run, h]

/-- A raise, the parameters entry reading good (R155). -/
theorem raise_good {v : Event} {k : NoticeKind} (d : Detail) (h : v.state.Good .params) :
    raise k d v =
      .ok () { v with state := v.state.raiseWith v.state.mgmt.params.content.escalation k d } := by
  have hg : (Event.mk (v.state.raiseRecord k d) v.owed).state.Good .params := by
    simpa [State.Good, State.isFaulted, State.flips] using h
  cases hc : (!(v.state.noticeRecord k).pending && k.escalating)
  · simp [raise, Act.bind_run, Act.look_run, Act.upd_run, Act.pure_run, State.raiseWith, hc]
  · simp [raise, Act.bind_run, Act.look_run, Act.upd_run, State.raiseWith, hc, readParams_good hg]

/-- What a property must survive for a checked read to keep it. -/
structure ReadSafe (I : State → Prop) : Prop where
  correct : ∀ s e, I s → I (s.correct e)
  join : ∀ s e, I s → s.isFaulted e = false → s.integ.faultList.length < faultListCapacity → I (s.joinFaultList e)
  raise : ∀ s k d, I s → I (s.raiseRecord k d)
  escalate : ∀ s k n, I s → I (s.startEscalation k n)
  wipe : ∀ s, I s → I s.tableWipe

theorem ReadSafe.overflow {I : State → Prop} (h : ReadSafe I) (s : State) (d : Detail) (hs : I s) :
    I (s.raiseRecord .tallyOverflow d) := h.raise s _ d hs

theorem ReadSafe.raiseWith {I : State → Prop} (h : ReadSafe I) (s : State) (n : Nat) (k : NoticeKind) (d : Detail)
    (hs : I s) : I (s.raiseWith n k d) := by
  simp only [State.raiseWith]
  split
  · exact h.escalate _ _ _ (h.raise _ _ _ hs)
  · exact h.raise _ _ _ hs

theorem ReadSafe.wipeNow {α : Type} {I : State → Prop} (h : ReadSafe I) : Act.Keeps I (Machine.wipeNow : Act α) :=
  Act.keeps_wipeNow h.overflow h.wipe

theorem ReadSafe.checkParams {I : State → Prop} (h : ReadSafe I) : Act.Keeps I checkParams := by
  intro v hv
  cases hf : v.state.isFaulted .params
  · match hl : (v.state.flips .params).length with
    | 0 => simpa [Machine.checkParams, Act.bind_run, Act.look_run, Act.pure_run, hf, hl] using hv
    | 1 =>
      simpa [Machine.checkParams, Act.bind_run, Act.look_run, Act.map_run, Act.upd_run, hf, hl] using
        h.correct _ _ hv
    | n + 2 =>
      by_cases hc : faultListCapacity ≤ v.state.integ.faultList.length
      · simpa [Machine.checkParams, Act.bind_run, Act.look_run, hf, hl, hc] using
          h.wipeNow (α := ReadResult) v hv
      · simpa [Machine.checkParams, Act.bind_run, Act.look_run, Act.map_run, Act.upd_run, hf, hl, hc] using
          h.raiseWith _ _ _ _ (h.join _ _ hv hf (by omega))
  · simpa [Machine.checkParams, Act.bind_run, Act.look_run, Act.pure_run, hf] using hv

theorem ReadSafe.readParams {I : State → Prop} (h : ReadSafe I) : Act.Keeps I readParams :=
  Act.keeps_bind h.checkParams fun r => by
    cases r
    · exact Act.keeps_look I _
    · exact Act.keeps_pure I _
    · exact Act.keeps_pure I _

theorem ReadSafe.raiseAct {I : State → Prop} (h : ReadSafe I) (k : NoticeKind) (d : Detail) :
    Act.Keeps I (Machine.raise k d) :=
  Act.keeps_bind (Act.keeps_look I _) fun _ =>
    Act.keeps_bind (Act.keeps_upd fun s hs => h.raise s k d hs) fun _ =>
      Act.keeps_onlyIf _ (Act.keeps_bind h.readParams fun _ => Act.keeps_upd fun s hs => h.escalate s k _ hs)

/-- A checked read of any entry keeps what corrections, joins, raises and the wipe keep (R177 to R182). -/
theorem ReadSafe.checkEntry {I : State → Prop} (h : ReadSafe I) (e : EntryId) : Act.Keeps I (checkEntry e) := by
  intro v hv
  by_cases he : e = .params
  · subst he
    cases hf : v.state.isFaulted .params
    · simpa [Machine.checkEntry, Act.bind_run, Act.look_run, hf] using h.checkParams v hv
    · simpa [Machine.checkEntry, Act.bind_run, Act.look_run, Act.pure_run, hf] using hv
  · cases hf : v.state.isFaulted e
    · match hl : (v.state.flips e).length with
      | 0 => simpa [Machine.checkEntry, Act.bind_run, Act.look_run, Act.pure_run, hf, he, hl] using hv
      | 1 =>
        simpa [Machine.checkEntry, Act.bind_run, Act.look_run, Act.map_run, Act.upd_run, hf, he, hl] using
          h.correct _ _ hv
      | n + 2 =>
        by_cases hc : faultListCapacity ≤ v.state.integ.faultList.length
        · simpa [Machine.checkEntry, Act.bind_run, Act.look_run, hf, he, hl, hc] using
            h.wipeNow (α := ReadResult) v hv
        · have hj := h.join v.state e hv hf (by omega)
          have hr := Act.keeps_bind (h.raiseAct .tableFault (.entry e)) (fun _ => Act.keeps_pure I ReadResult.newlyFaulted)
            ⟨v.state.joinFaultList e, v.owed⟩ hj
          simpa [Machine.checkEntry, Act.bind_run, Act.look_run, Act.map_run, Act.pure_run, Act.upd_run, hf, he, hl, hc] using hr
    · simpa [Machine.checkEntry, Act.bind_run, Act.look_run, Act.pure_run, hf, he] using hv

end Sys2Proof.Machine
end

