-- ==== Sys2Proof/Laws/AirPath.lean ====
section
/-! SUPPORT. The emptying of the slots, and the reports the Controller takes before a change of the operating state. -/

namespace Sys2Proof.Machine

open Sys2Proof

/-! ### Tables built entry by entry -/

@[simp] theorem buildTable_get {α : Type} (n : Nat) (f : Fin n → α) (i : Fin n) : (buildTable n f)[i] = f i := by
  simp [buildTable]

@[simp] theorem mapTable_get {α β : Type} {n : Nat} (f : α → β) (v : Vector α n) (i : Fin n) :
    (mapTable f v)[i] = f v[i] := by
  simp [mapTable]

/-! ### The emptying of the slots (R53) -/

@[simp] theorem emptiedSlot_status (timer : Option Nat) : (emptiedSlot timer).status = .empty := rfl

@[simp] theorem emptiedSlot_staleTimer (timer : Option Nat) : (emptiedSlot timer).staleTimer = timer := rfl

/-- Apart from its timer an emptied slot is as at power-on. -/
theorem emptiedSlot_rest (timer : Option Nat) : { emptiedSlot timer with staleTimer := none } = PowerOn.slot := rfl

@[simp] theorem QuantityTable.emptyAll_get (timers : Fin 32 → Option Nat) (q : QuantityTable) (i : Fin 32) :
    (q.emptyAll timers).slots[i] = emptiedSlot (timers i) := by
  simp only [QuantityTable.emptyAll, buildTable_get]

@[simp] theorem QuantityTable.emptyAll_setups (timers : Fin 32 → Option Nat) (q : QuantityTable) :
    (q.emptyAll timers).setups = q.setups := rfl

/-- A good setup starts its slot's stale timer by its own limit. -/
theorem State.staleStart_good {s : State} {i : Fin 32} (h : s.isFaulted (.slotSetup i) = false) :
    s.staleStart i = s.quantity.setups[i].content.staleStart := by
  simp [State.staleStart, h]

/-- A faulted setup starts it too, by some limit of 1 to 255 s. -/
theorem State.staleStart_faulted {s : State} {i : Fin 32} (h : s.isFaulted (.slotSetup i) = true) :
    ∃ n, 1 ≤ n ∧ n ≤ 255 ∧ s.staleStart i = some (n * 1000) :=
  ⟨(Config.freeStaleLimit (s.draws + i.val)).val + 1, by omega, by omega, by simp [State.staleStart, h, Config.msPerSecond]⟩

/-! ### A slot as its readers have it (R180; log entry 26) -/

/-- A slot with a good setup is seen as it stands. -/
theorem State.slotSeen_good {s : State} {i : Fin 32} (h : s.isFaulted (.slotSetup i) = false) :
    s.slotSeen i = s.quantity.slots[i] := by
  simp [State.slotSeen, h]

/-- A slot with a faulted setup is seen FAULT, whatever its own status. -/
theorem State.slotSeen_faulted {s : State} {i : Fin 32} (h : s.isFaulted (.slotSetup i) = true) :
    s.slotSeen i = { s.quantity.slots[i] with status := .fault } := by
  simp [State.slotSeen, h]

/-- But for the status a slot is seen as it stands. -/
theorem State.slotSeen_rest (s : State) (i : Fin 32) :
    { s.slotSeen i with status := s.quantity.slots[i].status } = s.quantity.slots[i] := by
  unfold State.slotSeen; split <;> rfl

@[simp] theorem State.slotViews_get (s : State) (i : Fin 32) : s.slotViews[i] = (s.slotSeen i).view :=
  buildTable_get 32 _ i

/-- The emptying changes the slots alone. -/
theorem State.emptySlots_only (timers : Fin 32 → Option Nat) (s : State) :
    { s.emptySlots timers with quantity := { (s.emptySlots timers).quantity with slots := s.quantity.slots } } = s := rfl

/-- After the emptying every slot's own status is EMPTY. -/
@[simp] theorem State.emptySlots_status (timers : Fin 32 → Option Nat) (s : State) (i : Fin 32) :
    (s.emptySlots timers).quantity.slots[i].status = .empty :=
  congrArg Slot.status (QuantityTable.emptyAll_get _ _ i)

/-- The emptying makes no faulted setup good and no good one faulted. -/
@[simp] theorem State.emptySlots_isFaulted (timers : Fin 32 → Option Nat) (s : State) (e : EntryId) :
    (s.emptySlots timers).isFaulted e = s.isFaulted e := rfl

/-- After the emptying a slot with a good setup is seen EMPTY. -/
theorem State.emptySlots_seen_good (timers : Fin 32 → Option Nat) {s : State} {i : Fin 32}
    (h : s.isFaulted (.slotSetup i) = false) : (s.emptySlots timers).slotSeen i = emptiedSlot (timers i) :=
  (State.slotSeen_good (s := s.emptySlots timers) h).trans (QuantityTable.emptyAll_get _ _ i)

/-- After the emptying a slot with a faulted setup is still seen FAULT. -/
theorem State.emptySlots_seen_faulted (timers : Fin 32 → Option Nat) {s : State} {i : Fin 32}
    (h : s.isFaulted (.slotSetup i) = true) : ((s.emptySlots timers).slotSeen i).status = .fault := by
  rw [State.slotSeen_faulted (s := s.emptySlots timers) h]

/-- A wake leaves a slot as it was but for its age and its timer. -/
@[simp] theorem State.wakeSlots_get (s : State) (i : Fin 32) :
    s.wakeSlots.quantity.slots[i] = { s.quantity.slots[i] with age := 0, agePart := 0, staleTimer := s.staleStart i } :=
  buildTable_get 32 _ i

/-! ### Waiting reports (R2, R14; log entry 7) -/

@[simp] theorem takeOldest_zero (v : Event) : takeOldest 0 v = .ok () v := rfl

/-- The oldest report is taken as CONTROLLER_REPORT takes it, then the rest. -/
theorem takeOldest_succ {v : Event} {r : Report} {rs : List Report} (h : v.state.ctrl.reports = r :: rs) (n : Nat) :
    takeOldest (n + 1) v =
      (takeReport r >>= fun _ => takeOldest n)
        { v with state := v.state.onCtrl fun c => { c with reports := rs } } := by
  simp only [takeOldest, Act.bind_run, Act.look_run, Act.upd_run, h, List.head?_cons, State.onCtrl, List.tail_cons]

/-- With no report waiting nothing is taken. -/
theorem takeWaiting_none {v : Event} (h : v.state.ctrl.reports = []) : takeWaiting v = .ok () v := by
  simp only [takeWaiting, Act.bind_run, Act.look_run, h, List.length_nil, takeOldest_zero]

/-- A waiting report is taken, and as many more as waited with it. -/
theorem takeWaiting_cons {v : Event} {r : Report} {rs : List Report} (h : v.state.ctrl.reports = r :: rs) :
    takeWaiting v =
      (takeReport r >>= fun _ => takeOldest rs.length)
        { v with state := v.state.onCtrl fun c => { c with reports := rs } } := by
  simp only [takeWaiting, Act.bind_run, Act.look_run, h, List.length_cons, takeOldest_succ h]

/-- With no report waiting a change of the operating state is its work and one choice of the mode. -/
theorem changeOpState_quiet {v : Event} (o : OpState) (work : Act Unit) (h : v.state.ctrl.reports = []) :
    changeOpState o work v = (work >>= fun _ => opStateChanged) { v with state := v.state.setOpState o } := by
  simp only [changeOpState, Act.bind_run, Act.upd_run, takeWaiting_none h]

end Sys2Proof.Machine
end

