-- ==== Sys2Proof/Tests/Slice0.lean ====
section
/-! SUPPORT. Tests: ill-formed commands refused, worked examples of the manual, and for every statement that has
hypotheses a state and operands that meet them. -/

namespace Sys2Proof.Tests

open Sys2Proof Sys2Proof.Machine

/-! The tests are elaborated one after another: at once, they take more threads than the limit on memory lets start. -/
set_option Elab.async false

/-! ### Helpers -/

/-- What a field of the next state is; `d` for a stop, of which there is none. -/
def seen {α : Type} (d : α) (f : State → α) : Host.Outcome State Fault Refusal → α
  | .next t => f t
  | .fault _ => d
  | .refused _ => d

/-- The state after reset in another operating state and mode. -/
def at_ (o : OpState) (m : Mode) : State :=
  (State.reset.setOpState o).onCtrl fun c => { c with mode := m }

/-- Both receivers taking frames. -/
def heard (s : State) : State := s.onPort fun p => { p with upRx := .taking, dnRx := .taking }

/-- A frame as a sender builds it. -/
def sent (dest src : Byte) (k : FrameKind) (tag : Byte) (payload : List Byte) : Frame :=
  let f : Frame := ⟨dest, src, k, tag, payload, 0⟩
  { f with check := checkOf f.covered }

/-- A frame as it is received. -/
def took (f : Frame) : Reception := ⟨f.wire, false⟩

/-- Nothing on the lines. -/
def idle : LinesBusy := ⟨false, false⟩

/-- The state has the power-on tables and an empty Fault List. -/
theorem undamaged_of {s : State} (hf : s.integ.faultList = []) (hm : ∀ i : Fin 64, s.intake.map[i].flipped = [])
    (hq : ∀ i : Fin 32, s.quantity.setups[i].flipped = []) (hr : ∀ i : Fin 7, s.ctrl.records[i].flipped = [])
    (hb : ∀ i : Fin 4, s.timer.bins[i].flipped = []) (ha : ∀ a, (s.cmd.entries.get a).flipped = [])
    (hp : s.mgmt.params.flipped = []) : s.Undamaged := by
  refine ⟨hf, fun e => ?_⟩
  cases e with
  | channelMap i => exact hm i
  | slotSetup i => exact hq i
  | modeRecord i => exact hr i
  | recovery i => exact hb i
  | actuator a => exact ha a
  | params => exact hp

/-- The tables of a state stand as after reset. -/
theorem undamaged_like {s : State} (hf : s.integ.faultList = []) (hm : s.intake.map = State.reset.intake.map)
    (hq : s.quantity.setups = State.reset.quantity.setups) (hr : s.ctrl.records = State.reset.ctrl.records)
    (hb : s.timer.bins = State.reset.timer.bins) (ha : s.cmd.entries = State.reset.cmd.entries)
    (hp : s.mgmt.params.flipped = []) : s.Undamaged := by
  refine undamaged_of hf ?_ ?_ ?_ ?_ ?_ hp
  · rw [hm]; decide +kernel
  · rw [hq]; decide +kernel
  · rw [hr]; decide +kernel
  · rw [hb]; decide +kernel
  · rw [ha]; intro a; cases a <;> rfl

theorem undamaged_reset : State.reset.Undamaged := undamaged_like rfl rfl rfl rfl rfl rfl rfl

theorem undamaged_at (o : OpState) (m : Mode) : (at_ o m).Undamaged := undamaged_like rfl rfl rfl rfl rfl rfl rfl

/-! ### Ill-formed commands are refused -/

theorem test_wf_source_one_refused : (Instr.readFaults ⟨.up, false, 1, 0⟩).wf = false := by decide
theorem test_wf_source_63_refused : (Instr.readFaults ⟨.up, false, 63, 0⟩).wf = false := by decide
theorem test_wf_source_62_allowed : (Instr.readFaults ⟨.up, false, 62, 0⟩).wf = true := by decide
theorem test_wf_broadcast_on_dn_refused : (Instr.reset ⟨.dn, true, 0, 0⟩).wf = false := by decide
theorem test_wf_state_part_three_refused : (Instr.readState (gateway 0) 3).wf = false := by decide
theorem test_wf_slot_part_two_refused : (Instr.readSlot (gateway 0) 2 0).wf = false := by decide
theorem test_wf_empty_dn_reception_refused : (Instr.dnArrival ⟨[], false⟩).wf = false := by decide
theorem test_wf_empty_up_reception_refused : (Instr.upArrival ⟨[], true⟩ idle).wf = false := by decide
theorem test_wf_gateway_request_allowed : (Instr.park (gateway 7) 1440).wf = true := by decide

/-! ### Worked examples of the manual -/

/-- The table of R61. -/
theorem test_scaling_rows :
    scale 1234 384 (-20) = 1831 ∧ scale (-7) 100 0 = -2 ∧ scale 3 85 0 = 0 ∧ scale 200 (-256) 100 = -100 ∧
      scale 30000 512 5000 = 32767 ∧ scale (-32768) (-32768) 0 = 32767 := by decide +kernel

/-- The table of R80. -/
theorem test_recovery_lookup_rows :
    let bins : List RecoveryBin := [⟨0, 60⟩, ⟨20, 180⟩, ⟨45, 300⟩, ⟨20, 240⟩]
    [0, 19, 20, 44, 45, 1023].map (fun m => (pickBin m bins).map (·.length)) =
      [some 60, some 60, some 180, some 180, some 300, some 300] ∧
    pickBin 19 [⟨0, 0⟩, ⟨20, 180⟩] = none := by decide +kernel

/-- One byte short of a frame, a length that does not match, an unknown kind, and a good frame (R122). -/
theorem test_classification :
    classify ⟨[1, 0, 4, 0, 1, 1], false⟩ = .checkError ∧
      classify (took { sent 1 0 .manage 9 [29] with check := 0 }) = .checkError ∧
      classify (took (sent 1 0 .ack 9 [1, 4])) = .malformed ∧
      classify (took (sent 1 0 .manage 9 [29])) = .good (sent 1 0 .manage 9 [29]) := by decide +kernel

/-- A PARK of 480 minutes as its bytes (R197). -/
theorem test_park_request_bytes :
    decodeRequest (gateway 3) 31 [0x01, 0xE0] = .known (.park (gateway 3) 480) ∧
      decodeRequest (gateway 3) 31 [0x01] = .badLength .no ∧ decodeRequest (gateway 3) 33 [] = .unknown ∧
      decodeRequest (gateway 3) 129 [] = .known (.readState (gateway 3) 2) ∧
      decodeRequest (gateway 3) 193 [] = .unknown := by decide +kernel

/-- The precedence of R13, from the bottom up. -/
theorem test_precedence :
    let c := PowerOn.controller
    precedence c false = .shield ∧
      precedence { c with conditions := { c.conditions with dirtyOut := false } } false = .fresh ∧
      precedence { c with timerView := ⟨false, false, true, false, false⟩ } false = .purge ∧
      precedence { c with timerView := ⟨false, false, true, false, false⟩ } true = .demist ∧
      precedence { c with timerView := ⟨false, false, true, true, false⟩ } true = .recover ∧
      precedence { c with timerView := ⟨false, false, true, true, true⟩ } true = .manual ∧
      precedence { c with timerView := ⟨false, true, true, true, true⟩ } true = .door ∧
      precedence { c with timerView := ⟨true, true, true, true, true⟩, causes := ⟨false, true⟩ } true = .safe := by
  decide

/-- ENTER_RUN after reset names the first failing check; the reply is RPQ's second frame (R145). -/
theorem test_enter_run_fails_after_reset :
    seen [] (fun t => t.port.rpq.map (·.payload)) (exec (.enterRun (gateway 5)) State.reset) =
      [[0, 0, 0], [10, 18, 1]] := by decide +kernel

/-- A first millisecond passes on an empty queue (log entry 1). -/
theorem test_idle_step_ticks :
    seen (none, none) (fun t => (t.tally.interval, t.integ.scrubTimer)) (step State.reset) = (some 999, some 99) := by
  decide +kernel

/-- The scrub timer at 0 is taken by an idle step (R183). -/
theorem test_idle_step_takes_the_scrub_expiry :
    seen (0, none) (fun t => (t.integ.scrubPos, t.integ.scrubTimer))
      (step (State.reset.onInteg fun u => { u with scrubTimer := some 0 })) = (1, some 100) := by decide +kernel

/-- Two damaged places in the parameters entry: faulted, noticed, and read as the power-on values (R147, R179). -/
theorem test_damage_in_two_places_faults :
    seen ([], none) (fun t => (t.integ.faultList, (t.noticeRecord .tableFault).detail))
      (exec (.readParam (gateway 0) 3) (State.reset.setFlips .params [4, 9])) = ([.params], some (.entry .params)) := by
  decide +kernel

/-! ### The hypotheses of the statements can be met -/

theorem witness_PowerOnSequenceRunsAtBothResets :
    State.reset.resetLow = false ∧ State.reset.supplyUp = true := by decide

theorem witness_NothingRunsWithoutSupplyOrInReset :
    ({ State.reset with supplyUp := false } : State).alive = false ∧
      ({ State.reset with resetLow := true } : State).alive = false := by decide

theorem witness_WellBuiltFramesAreJudgedGood :
    let f := sent 63 0 .manage 1 (List.replicate 24 7)
    f.dest.toNat ≤ 63 ∧ f.src ≠ 1 ∧ f.src.toNat ≤ 62 ∧ f.payload.length ≤ 24 ∧ payloadOk f.kind f.payload = true ∧
      f.check = checkOf f.covered ∧ ({ f with check := f.check + 1 } : Frame).check ≠ checkOf f.covered := by
  decide +kernel

theorem witness_RequestsAreReadBackFromTheirBytes :
    requestForm (.readState (gateway 1) 2) = some (gateway 1, 1, 2, []) ∧
      (Instr.readState (gateway 1) 2).partOk = true := by decide +kernel

theorem witness_DnArrivalsAreCountedAndDisposedOf :
    let s := heard State.reset
    s.alive = true ∧ s.mgmt.opState ≠ .parked ∧ s.port.dnRx = .taking ∧ (at_ .parked .park).mgmt.opState = .parked ∧
      State.reset.port.dnRx = .waitingIdle ∧
      classify ⟨[1], false⟩ = .checkError ∧ classify (took (sent 1 0 .ack 9 [1, 4])) = .malformed ∧
      classify (took (sent 2 5 .ack 9 [1, 0])) = .good (sent 2 5 .ack 9 [1, 0]) ∧
      classify (took (sent 62 5 .ack 9 [1, 0])) = .good (sent 62 5 .ack 9 [1, 0]) ∧
      classify (took (sent 1 5 .cmd 9 [1])) = .good (sent 1 5 .cmd 9 [1]) ∧
      classify (took (sent 0 5 .notice 9 [1, 0, 0])) = .good (sent 0 5 .notice 9 [1, 0, 0]) ∧
      classify (took (sent 63 5 .cmd 9 [1])) = .good (sent 63 5 .cmd 9 [1]) := by decide +kernel

theorem witness_UpArrivalsAreCountedAndDisposedOf :
    let s := heard State.reset
    s.alive = true ∧ s.mgmt.opState ≠ .parked ∧ s.port.upRx = .taking ∧
      classify (took (sent 0 0 .ack 9 [1, 0])) = .good (sent 0 0 .ack 9 [1, 0]) ∧
      classify (took (sent 1 0 .cmd 9 [1])) = .good (sent 1 0 .cmd 9 [1]) ∧
      classify (took (sent 2 0 .manage 9 [1])) = .good (sent 2 0 .manage 9 [1]) ∧
      classify (took (sent 63 0 .notice 9 [1, 0, 0])) = .good (sent 63 0 .notice 9 [1, 0, 0]) := by decide +kernel

/-- The FLAP fitted at node 4. -/
def flapAt4 (s : State) : State :=
  s.onCmd fun c => { c with entries := { c.entries with flap := ⟨⟨true, 4⟩, []⟩ } }

theorem undamaged_flapAt4 (o : OpState) (m : Mode) : (flapAt4 (heard (at_ o m))).Undamaged := by
  refine undamaged_of rfl ?_ ?_ ?_ ?_ ?_ rfl
  · exact fun i => (undamaged_at o m).2 (.channelMap i)
  · exact fun i => (undamaged_at o m).2 (.slotSetup i)
  · exact fun i => (undamaged_at o m).2 (.modeRecord i)
  · exact fun i => (undamaged_at o m).2 (.recovery i)
  · intro a; cases a <;> rfl

theorem witness_GatewayCommandsForOwnedNodesAreAnsweredOwned :
    let s := flapAt4 (heard (at_ .run .shield))
    s.Undamaged ∧ s.alive = true ∧ s.mgmt.opState ≠ .parked ∧ s.mgmt.opState ≠ .config ∧ s.port.upRx = .taking ∧
      s.cmd.entries.flap.content = ⟨true, 4⟩ ∧
      classify (took (sent 4 0 .cmd 9 [1])) = .good (sent 4 0 .cmd 9 [1]) ∧
      classify (took (sent 63 0 .cmd 9 [1])) = .good (sent 63 0 .cmd 9 [1]) ∧
      classify (took (sent 5 0 .cmd 9 [1])) = .good (sent 5 0 .cmd 9 [1]) ∧
      (∀ a, (s.cmd.entries.get a).content.present = true → (s.cmd.entries.get a).content.node ≠ 5) := by
  refine ⟨undamaged_flapAt4 _ _, ?_, ?_, ?_, ?_, ?_, ?_, ?_, ?_, ?_⟩
  all_goals first
    | decide +kernel
    | (intro a; cases a <;> decide +kernel)

/-- Every queue full. -/
def packed (s : State) : State :=
  s.onPort fun p =>
    { p with ptq := List.replicate 8 PowerOn.startFrame, fwq := List.replicate 16 PowerOn.startFrame,
             rpq := List.replicate 8 PowerOn.startFrame }

theorem witness_FullQueuesDropTheFrameWithANotice :
    State.reset.port.ptq.length < 8 ∧ State.reset.port.fwq.length < 16 ∧ 8 ≤ (packed State.reset).port.ptq.length ∧
      16 ≤ (packed State.reset).port.fwq.length := by decide +kernel

theorem undamaged_heard (o : OpState) (m : Mode) : (heard (at_ o m)).Undamaged :=
  undamaged_like rfl rfl rfl rfl rfl rfl rfl

theorem witness_UnmappedSamplesAreForwarded :
    let s := heard (at_ .config .safe)
    let f := sent 0 5 .sample 9 [1, 0, 0, 7]
    s.Undamaged ∧ s.alive = true ∧ s.mgmt.opState ≠ .parked ∧ s.port.dnRx = .taking ∧
      (∀ i : Fin 64, s.intake.map[i].content.valid = false) ∧ s.mgmt.params.content.unmappedAction = .pass ∧
      inWindow s.mgmt.params.content f.src.toNat = true ∧ classify (took f) = .good f ∧ s.port.fwq.length < 16 := by
  refine ⟨undamaged_heard _ _, ?_⟩
  decide +kernel

/-- Entry 3 of the map takes (5, 1) to slot 2, a MONITOR slot; DN heard. -/
def mapped : State :=
  ((heard (at_ .config .safe)).onIntake fun u =>
    { u with map := u.map.set 3 ⟨⟨true, 5, 1, 2, 256, 0, .drop⟩, []⟩ }).onQuantity fun q =>
      { q with setups := q.setups.set 2 ⟨{ PowerOn.slotSetup with kind := .monitor }, []⟩ }

theorem undamaged_mapped : mapped.Undamaged := by
  refine undamaged_of rfl ?_ ?_ ?_ ?_ ?_ rfl
  · decide +kernel
  · decide +kernel
  · decide +kernel
  · decide +kernel
  · intro a; cases a <;> rfl

theorem witness_AcceptedReadingsReachTheirSlot :
    let f := sent 1 5 .sample 9 [1, 0, 0, 7]
    mapped.Undamaged ∧ mapped.alive = true ∧ mapped.mgmt.opState ≠ .parked ∧
      mapped.SampleArrives (.dnArrival (took f)) f false ∧ readingsOf f.payload = some [⟨1, .ok, 7⟩] ∧
      mapped.intake.map[(3 : Fin 64)].content = ⟨true, 5, 1, 2, 256, 0, .drop⟩ ∧
      (∀ j : Fin 64, j ≠ 3 → mapped.intake.map[j].content.valid = false) ∧
      mapped.intake.dyn[(3 : Fin 64)].lastTag ≠ some f.tag ∧
      mapped.quantity.setups[(2 : Fin 32)].content.kind ≠ .unused ∧
      judge mapped.quantity.setups[(2 : Fin 32)].content mapped.quantity.slots[(2 : Fin 32)] (scale 7 256 0) =
        .accepted := by
  refine ⟨undamaged_mapped, rfl, by decide, ⟨rfl, _, by decide +kernel, .inl ⟨rfl, rfl, rfl, rfl⟩⟩, ?_⟩
  decide +kernel

theorem witness_ScalingTruncatesTowardZeroAndClamps :
    ((0 : Int) ≤ 3 * 85 ∧ (256 : Int) * 0 ≤ 3 * 85 ∧ (3 : Int) * 85 < 256 * 0 + 256) ∧
      ((-7 : Int) * 100 < 0 ∧ (-7 : Int) * 100 ≤ 256 * (-2) ∧ (256 : Int) * (-2) - 256 < (-7) * 100) ∧
      (32767 : Int) < ((30000 : Int) * 512).tdiv 256 + 5000 ∧ ((-30000 : Int) * 512).tdiv 256 + 0 < -32768 := by
  decide +kernel

theorem witness_ComparatorsSetAtTheConfirmCount :
    let c : CompSetup := ⟨.above, 1200, 1000, 2⟩
    1 ≤ c.confirm ∧ (∀ x ∈ [(1200 : Int), 1300], c.qualifies false x = true) ∧
      [(1200 : Int)].length < c.confirm ∧ [(1200 : Int), 1300].length = c.confirm := by decide +kernel

/-- FLAP at node 4 with a command of tag 9 in a phase. -/
def sending (o : OpState) (m : Mode) (ph : Phase) (attempts : Nat) : State :=
  (flapAt4 (heard (at_ o m))).onDelivery .flap fun d =>
    { d with outstanding := some ⟨9, 20, attempts, ph, false⟩,
             ackTimer := if ph = .waiting then some 0 else none }

theorem undamaged_sending (o : OpState) (m : Mode) (ph : Phase) (n : Nat) : (sending o m ph n).Undamaged := by
  refine undamaged_of rfl ?_ ?_ ?_ ?_ ?_ rfl
  · exact fun i => (undamaged_flapAt4 o m).2 (.channelMap i)
  · exact fun i => (undamaged_flapAt4 o m).2 (.slotSetup i)
  · exact fun i => (undamaged_flapAt4 o m).2 (.modeRecord i)
  · exact fun i => (undamaged_flapAt4 o m).2 (.recovery i)
  · exact fun a => (undamaged_flapAt4 o m).2 (.actuator a)

theorem witness_MatchingAcksCompleteTheCommand :
    let s := sending .run .shield .waiting 1
    let f := sent 1 4 .ack 9 [20, 2]
    s.Undamaged ∧ s.alive = true ∧ s.mgmt.opState ≠ .parked ∧ s.port.dnRx = .taking ∧ classify (took f) = .good f ∧
      ackOf f.payload = some ⟨20, .jammed⟩ ∧ s.cmd.entries.flap.content = ⟨true, 4⟩ ∧
      (s.cmd.delivery.get .flap).outstanding = some ⟨9, 20, 1, .waiting, false⟩ ∧
      (∀ b, b ≠ .flap → (s.cmd.delivery.get b).outstanding = none) := by
  refine ⟨undamaged_sending _ _ _ _, ?_, ?_, ?_, ?_, ?_, ?_, ?_, ?_⟩
  all_goals first
    | decide +kernel
    | (intro b hb; cases b <;> first | exact absurd rfl hb | decide +kernel)

/-- FLAP at node 4 with a pending value and no command. -/
def queued : State := (flapAt4 (heard (at_ .run .shield))).onCmd (·.queueValue .flap 20)

theorem undamaged_queued : queued.Undamaged := by
  refine undamaged_of rfl ?_ ?_ ?_ ?_ ?_ rfl
  · exact fun i => (undamaged_flapAt4 .run .shield).2 (.channelMap i)
  · exact fun i => (undamaged_flapAt4 .run .shield).2 (.slotSetup i)
  · exact fun i => (undamaged_flapAt4 .run .shield).2 (.modeRecord i)
  · exact fun i => (undamaged_flapAt4 .run .shield).2 (.recovery i)
  · exact fun a => (undamaged_flapAt4 .run .shield).2 (.actuator a)

theorem witness_DnGrantsFollowTheShare :
    queued.Undamaged ∧ queued.alive = true ∧ queued.port.dnTx = none ∧ queued.cmd.offered = some .flap ∧
      queued.cmd.entries.flap.content.present = true ∧ queued.port.ptq = [] ∧
      (queued.cmd.delivery.get .flap).outstanding = none ∧
      (queued.cmd.delivery.get .flap).pendingValue = some 20 ∧
      (packed queued).port.ptq = PowerOn.startFrame :: List.replicate 7 PowerOn.startFrame ∧
      (packed queued).mgmt.params.content.dnShare ≠ 0 ∧
      (packed queued).port.dnShareCount < (packed queued).mgmt.params.content.dnShare ∧
      ((sending .run .shield .due 2).onCmd fun c => { c with due := [.flap] }).cmd.offered = some .flap := by
  refine ⟨undamaged_queued, ?_⟩
  decide +kernel

theorem witness_DnTransmissionEndsCountAndQueue :
    let f := PowerOn.startFrame
    let s := (sending .run .shield .onLine 1).onPort fun p => { p with dnTx := some ⟨.command .flap, f⟩ }
    s.Undamaged ∧ s.alive = true ∧ s.port.dnTx = some ⟨.command .flap, f⟩ ∧
      (s.cmd.delivery.get .flap).outstanding = some ⟨9, 20, 1, .onLine, false⟩ ∧
      (s.cmd.delivery.get .blower).outstanding = none ∧
      ((packed s).onPort fun p => { p with dnTx := some ⟨.ptqHead, f⟩ }).port.dnTx = some ⟨.ptqHead, f⟩ := by
  refine ⟨undamaged_sending _ _ _ _, ?_⟩
  decide +kernel

theorem witness_UpArbiterAndReceiversFollowTheLine :
    let s := packed State.reset
    let f := PowerOn.startFrame
    s.alive = true ∧ s.port.upTx = none ∧ s.port.rpq = f :: List.replicate 7 f ∧
      s.port.fwq = f :: List.replicate 15 f ∧ s.port.upRunCount < 4 ∧
      4 ≤ (s.onPort fun p => { p with upRunCount := 4 }).port.upRunCount ∧
      (s.onPort fun p => { p with upTx := some ⟨.rpq, true, f⟩ }).port.upTx = some ⟨.rpq, true, f⟩ := by
  decide +kernel

/-- RPQ empty. -/
def roomy (s : State) : State := s.onPort fun p => { p with rpq := [] }

theorem takesRequest_at (m : Mode) : (roomy (at_ .run m)).TakesRequest :=
  ⟨rfl, fun h => OpState.noConfusion h, Nat.zero_lt_succ 7⟩

theorem witness_RequestsWithoutReplyRoomAreDropped :
    (Instr.readFaults (gateway 3)).origin? = some (gateway 3) ∧ (packed State.reset).alive = true ∧
      (packed State.reset).mgmt.opState ≠ .parked ∧ 8 ≤ (packed State.reset).port.rpq.length ∧
      (at_ .parked .park).mgmt.opState = .parked ∧
      (Instr.readFaults ⟨.up, false, 5, 3⟩).origin? = some ⟨.up, false, 5, 3⟩ := by decide +kernel

theorem witness_RequestsWithoutAClassAreRefused :
    requestForm (.readFaults ⟨.up, false, 5, 3⟩) = some (⟨.up, false, 5, 3⟩, 29, 0, []) ∧
      requestForm (.readFaults ⟨.up, true, 5, 3⟩) = some (⟨.up, true, 5, 3⟩, 29, 0, []) ∧ State.reset.alive = true ∧
      State.reset.mgmt.opState ≠ .parked ∧ State.reset.port.rpq.length < 8 := by decide +kernel

theorem witness_RequestsOutsideTheirStatesAreRefused :
    requestForm (.resume (gateway 3)) = some (gateway 3, 30, 0, []) ∧ (at_ .parking .park).TakesRequest ∧
      (at_ .parking .park).mgmt.opState = .parking ∧ 30 ∉ [1, 2, 3, 4, 9, 11, 13, 15, 23, 26, 29, 32] ∧
      requestForm (.park (gateway 3) 480) = some (gateway 3, 31, 0, [1, 224]) ∧ State.reset.TakesRequest ∧
      State.reset.mgmt.opState = .config ∧ requestForm (.clearMap (gateway 3) 7) = some (gateway 3, 6, 0, [7]) ∧
      requestForm (.writeParam (gateway 3) 11 3) = some (gateway 3, 16, 0, [11, 0, 3]) ∧
      (roomy (at_ .run .shield)).TakesRequest ∧ (roomy (at_ .run .shield)).mgmt.opState = .run ∧
      requestForm (.enterRun (toEveryNode 3)) = some (toEveryNode 3, 18, 0, []) :=
  ⟨rfl, ⟨rfl, by decide, by decide⟩, rfl, by decide, by decide, ⟨rfl, by decide, by decide⟩, rfl, rfl, by decide,
    takesRequest_at _, rfl, rfl⟩

theorem takesRequest_reset : State.reset.TakesRequest := ⟨rfl, by decide, by decide⟩

theorem witness_UnprotectedReadsAnswerWhatIsHeld :
    State.reset.TakesRequest ∧ (31 : Byte).toNat = (31 : Fin 32).val ∧ 32 ≤ (32 : Byte).toNat ∧
      (3 : Byte).toNat = (3 : Fin 4).val ∧ 4 ≤ (4 : Byte).toNat := ⟨takesRequest_reset, by decide⟩

theorem witness_ProtectedReadsAnswerTheGoodEntry :
    State.reset.TakesRequest ∧ State.reset.Undamaged ∧ (63 : Byte).toNat = (63 : Fin 64).val ∧
      64 ≤ (64 : Byte).toNat ∧ (6 : Byte).toNat = (6 : Fin 7).val ∧ 9 ≤ (9 : Byte).toNat ∧
      (3 : Byte).toNat = Actuator.demist.index ∧ (21 : Byte).toNat < 22 ∧ 22 ≤ (22 : Byte).toNat :=
  ⟨takesRequest_reset, undamaged_reset, by decide⟩

/-- Writes in CONFIG: MapWrites, WriteSlot, WriteRecovery, WriteActuator and the CONFIG clause of WriteParam. -/
theorem witness_writes_in_config :
    State.reset.TakesRequest ∧ State.reset.Undamaged ∧ State.reset.mgmt.opState = .config :=
  ⟨takesRequest_reset, undamaged_reset, rfl⟩

theorem takesRequest_mapped : mapped.TakesRequest := ⟨rfl, by decide, by decide⟩

theorem witness_MapWritesStoreTheEntry :
    mapped.TakesRequest ∧ mapped.Undamaged ∧ mapped.mgmt.opState = .config ∧
      mapped.intake.map[(3 : Fin 64)].content = ⟨true, 5, 1, 2, 256, 0, .drop⟩ ∧
      (∀ j : Fin 64, ¬(mapped.intake.map[j].content.valid = true ∧ mapped.intake.map[j].content.source = 62)) ∧
      (63 : Byte).toNat = (63 : Fin 64).val ∧ 2 ≤ (2 : Byte).toNat ∧ (16 : Byte).toNat ≤ 16 ∧
      64 ≤ (64 : Byte).toNat := by
  refine ⟨takesRequest_mapped, undamaged_mapped, ?_⟩
  decide +kernel

theorem witness_WriteSlotStoresAndEmptiesTheSlot :
    let s := State.reset.onCtrl fun c => { c with bindings := { c.bindings with outPm := some 3 } }
    s.TakesRequest ∧ s.Undamaged ∧ s.mgmt.opState = .config ∧ SlotKind.ofCode 2 = some (.role .outPm) ∧
      SlotKind.ofCode 3 = some (.role .outGas) ∧ Smoothing.ofCode 0 = some .none ∧
      s.ctrl.bindings.get .outPm = some 3 ∧ s.ctrl.bindings.get .outGas = none ∧
      (0 : Word16).toInt ≤ (0 : Word16).toInt ∧ (32767 : Word16).toNat ≤ 32767 ∧ 1 ≤ (1 : Byte).toNat :=
  ⟨⟨rfl, by decide, by decide⟩, undamaged_like rfl rfl rfl rfl rfl rfl rfl, by decide +kernel⟩

theorem witness_WriteComparatorStoresTheSetup :
    State.reset.TakesRequest ∧ State.reset.Undamaged ∧ State.reset.mgmt.opState = .config ∧
      Direction.ofCode 1 = some .above ∧ Direction.ofCode 2 = some .below ∧ Direction.ofCode 0 = some .off ∧
      (15 : Byte).toNat ≤ 15 ∧ (5 : Word16).toInt ≤ (5 : Word16).toInt ∧ 2 ≤ (2 : Byte).toNat :=
  ⟨takesRequest_reset, undamaged_reset, rfl, by decide⟩

theorem witness_WriteParamStoresOneParameter :
    State.reset.TakesRequest ∧ State.reset.Undamaged ∧ State.reset.mgmt.opState = .config ∧
      (roomy (at_ .run .shield)).TakesRequest ∧ paramInRange 5 600 = true ∧ paramInRange 5 601 = false ∧
      paramInRange 1 4 = true ∧ (PowerOn.params.write 1 4).windowAligned = true ∧
      (({ PowerOn.params with windowSize := 4 } : Params).write 0 2).windowAligned = false :=
  ⟨takesRequest_reset, undamaged_reset, rfl, takesRequest_at _, by decide +kernel⟩

theorem witness_WriteModeStoresTheRecord :
    let s := roomy (at_ .run .door)
    s.TakesRequest ∧ s.Undamaged ∧ s.mgmt.opState = .run ∧ s.ctrl.mode = .door ∧ (3 : Byte).toNat = Mode.door.code ∧
      Mode.door.recordIndex = some 3 ∧ (6 : Byte).toNat = Mode.manual.code ∧ s.ctrl.mode ≠ .manual ∧
      (100 : Byte).toNat ≤ 100 ∧ (15 : Byte).toNat ≤ 15 ∧ 7 ≤ (7 : Byte).toNat :=
  ⟨takesRequest_at _, undamaged_like rfl rfl rfl rfl rfl rfl rfl, by decide +kernel⟩

theorem witness_WriteRecoveryStoresTheBin :
    State.reset.TakesRequest ∧ State.reset.mgmt.opState = .config ∧ (3 : Byte).toNat = (3 : Fin 4).val ∧
      (1023 : Word16).toNat ≤ 1023 ∧ (600 : Word16).toNat ≤ 600 ∧ 4 ≤ (4 : Byte).toNat ∧
      1023 < (1024 : Word16).toNat := ⟨takesRequest_reset, by decide⟩

theorem witness_WriteActuatorStoresAndSendsAfresh :
    State.reset.TakesRequest ∧ State.reset.mgmt.opState = .config ∧ (3 : Byte).toNat = Actuator.demist.index ∧
      2 ≤ (2 : Byte).toNat ∧ (62 : Byte).toNat ≤ 62 := ⟨takesRequest_reset, by decide⟩

theorem witness_NoticeRequestsChangeTheNamedKinds :
    State.reset.TakesRequest ∧ State.reset.mgmt.opState = .config ∧ 2 ^ 14 ≤ (0x4000 : Word16).toNat ∧
      (0x3FFF : Word16).toNat < 2 ^ 14 := ⟨takesRequest_reset, by decide⟩

theorem witness_TallyRequestsSetControlOrValue :
    State.reset.TakesRequest ∧ State.reset.mgmt.opState = .config ∧ (3 : Byte).toNat = (3 : Fin 4).val ∧
      TallyGroup.ofCode 4 = some .dose ∧ (3 : Byte).toNat < 2 ^ TallyGroup.dose.width ∧
      (0x1FF : Word16).toNat < 2 ^ 9 ∧ (7 : Byte).toNat < 8 ∧ 4 ≤ (4 : Byte).toNat :=
  ⟨takesRequest_reset, by decide⟩

theorem witness_EnterConfigStopsTheAirPath :
    let s := roomy (at_ .run .shield)
    s.TakesRequest ∧ s.Undamaged ∧ s.mgmt.opState = .run ∧ s.ctrl.reports = [] ∧ s.ctrl.mode ≠ .safe ∧
      (roomy (at_ .run .safe)).ctrl.mode = .safe :=
  ⟨takesRequest_at _, undamaged_like rfl rfl rfl rfl rfl rfl rfl, by decide⟩

/-- Commissioned: OUT_PM and CAB_CO2 bound, FLAP and BLOWER fitted. -/
def commissioned : State :=
  (State.reset.onCtrl fun c => { c with bindings := { c.bindings with outPm := some 0, cabCo2 := some 1 } }).onCmd fun c =>
    { c with entries := { c.entries with flap := ⟨⟨true, 4⟩, []⟩, blower := ⟨⟨true, 5⟩, []⟩ } }

theorem undamaged_commissioned : commissioned.Undamaged := by
  refine undamaged_of rfl ?_ ?_ ?_ ?_ ?_ rfl
  · exact fun i => undamaged_reset.2 (.channelMap i)
  · exact fun i => undamaged_reset.2 (.slotSetup i)
  · exact fun i => undamaged_reset.2 (.modeRecord i)
  · exact fun i => undamaged_reset.2 (.recovery i)
  · intro a; cases a <;> rfl

theorem witness_EnterRunValidatesAndChoosesTheMode :
    commissioned.TakesRequest ∧ commissioned.Undamaged ∧ commissioned.mgmt.opState = .config ∧
      commissioned.ctrl.mode = .safe ∧ commissioned.ctrl.reports = [] ∧
      commissioned.timer.measurement = ⟨0, false, 0⟩ ∧ State.reset.ctrl.bindings.outPm = none ∧
      commissioned.ctrl.bindings.outPm ≠ none ∧ commissioned.ctrl.bindings.cabCo2 ≠ none ∧
      (∀ i : Fin 64, commissioned.intake.map[i].content.valid = false) ∧
      commissioned.cmd.entries.flap.content.present = true ∧ commissioned.cmd.entries.blower.content.present = true :=
  ⟨⟨rfl, by decide, by decide⟩, undamaged_commissioned, by decide +kernel⟩

/-- A door open, as the Timer Unit holds it. -/
def ajar (s : State) : State := s.onDoor .door1 fun _ => ⟨true, true, none⟩

theorem witness_PurgeRequestsStartAndStopThePurge :
    let s := (roomy (at_ .run .shield)).onTimer fun t => { t with heldMode := .shield }
    s.TakesRequest ∧ s.Undamaged ∧ s.mgmt.opState = .run ∧ s.timer.heldMode ≠ .safe ∧
      s.mgmt.params.content.enablesPurge = true ∧ s.timer.doorOpen = false ∧ (ajar s).timer.doorOpen = true ∧
      (roomy (at_ .run .safe)).timer.heldMode = .safe ∧ s.timer.purge = none :=
  ⟨⟨rfl, by decide, by decide⟩, undamaged_like rfl rfl rfl rfl rfl rfl rfl, by decide⟩

theorem witness_OverrideRequestsSetAndCancelTheOverride :
    let s := roomy (at_ .run .shield)
    s.TakesRequest ∧ s.mgmt.opState = .run ∧ s.timer.heldSevere = false ∧ s.ctrl.mode ≠ .manual ∧
      (15 : Byte).toNat ≤ 15 ∧ 30 ≤ (30 : Word16).toNat ∧ (3600 : Word16).toNat ≤ 3600 ∧
      (29 : Word16).toNat < 30 ∧ (s.onTimer fun t => { t with heldSevere := true }).timer.heldSevere = true :=
  ⟨takesRequest_at _, by decide⟩

theorem witness_ResumeQueuesTheActuatorsOffTarget :
    let s := State.reset.onCmd fun c => { c with halted := true }
    s.TakesRequest ∧ s.Undamaged ∧ s.mgmt.opState = .config ∧ s.cmd.halted = true ∧ s.cmd.cmq = [] ∧
      (∀ a, (s.cmd.delivery.get a).pendingValue = none) ∧ State.reset.cmd.halted = false :=
  ⟨⟨rfl, by decide, by decide⟩, undamaged_like rfl rfl rfl rfl rfl rfl rfl, rfl, rfl, rfl,
    fun a => by cases a <;> rfl, rfl⟩

theorem witness_ParkEntersParking :
    let s := roomy (at_ .run .shield)
    s.TakesRequest ∧ s.Undamaged ∧ s.mgmt.opState = .run ∧ s.timer.doorOpen = false ∧ s.ctrl.reports = [] ∧
      s.ctrl.mode ≠ .park ∧ (1440 : Word16).toNat ≤ 1440 ∧ 1440 < (1441 : Word16).toNat ∧
      (ajar s).timer.doorOpen = true ∧ s.cmd.quiet = true :=
  ⟨takesRequest_at _, undamaged_like rfl rfl rfl rfl rfl rfl rfl, by decide⟩

theorem witness_ResetPerformsTheLinkReset :
    (packed (at_ .parking .park)).alive = true ∧ (packed (at_ .parking .park)).mgmt.opState ≠ .parked ∧
      (packed (at_ .parking .park)).Undamaged :=
  ⟨rfl, by decide, undamaged_like rfl rfl rfl rfl rfl rfl rfl⟩

theorem witness_AckTimersResendOrAbandon :
    let s := sending .run .shield .waiting 4
    s.alive = true ∧ s.Undamaged ∧ (s.cmd.delivery.get .flap).outstanding = some ⟨9, 20, 4, .waiting, false⟩ ∧
      s.mgmt.params.content.retryLimit + 1 ≤ 4 ∧ 3 < s.mgmt.params.content.retryLimit + 1 ∧
      s.mgmt.params.content.timeoutAction = .abandon ∧ s.mgmt.params.content.failurePolicy = .continue_ ∧
      (s.cmd.delivery.get .blower).outstanding = none :=
  ⟨rfl, undamaged_sending _ _ _ _, by decide⟩

/-- TIMEOUT_ACTION PERSIST or FAILURE_POLICY FLUSH. -/
def withPolicy (ta : TimeoutAction) (fp : FailurePolicy) (s : State) : State :=
  s.onMgmt fun m =>
    { m with params := ⟨{ m.params.content with timeoutAction := ta, failurePolicy := fp }, []⟩ }

theorem witness_FlushEmptiesAndHaltsTheQueue :
    let s := withPolicy .abandon .flush (sending .run .shield .waiting 4)
    s.alive = true ∧ s.Undamaged ∧ (s.cmd.delivery.get .flap).outstanding = some ⟨9, 20, 4, .waiting, false⟩ ∧
      s.mgmt.params.content.retryLimit + 1 ≤ 4 ∧ s.mgmt.params.content.timeoutAction = .abandon ∧
      s.mgmt.params.content.failurePolicy = .flush ∧
      (withPolicy .persist .continue_ s).mgmt.params.content.timeoutAction = .persist := by
  have h := undamaged_sending .run .shield .waiting 4
  refine ⟨rfl, undamaged_of rfl ?_ ?_ ?_ ?_ ?_ rfl, by decide⟩
  · exact fun i => h.2 (.channelMap i)
  · exact fun i => h.2 (.slotSetup i)
  · exact fun i => h.2 (.modeRecord i)
  · exact fun i => h.2 (.recovery i)
  · exact fun a => h.2 (.actuator a)

/-- Slot 2 with its stale timer run out. -/
def staleSlot (st : SlotStatus) : State :=
  State.reset.onSlot 2 fun sl => { sl with status := st, staleTimer := some 0 }

theorem witness_StaleTimersMakeTheirSlotsStale :
    (staleSlot .fresh).alive = true ∧ (staleSlot .fresh).Undamaged ∧
      (staleSlot .fresh).quantity.slots[(2 : Fin 32)].staleTimer.isSome = true ∧
      (staleSlot .fresh).quantity.slots[(2 : Fin 32)].status ≠ .fault ∧
      (staleSlot .fault).quantity.slots[(2 : Fin 32)].status = .fault ∧
      (staleSlot .fresh).quantity.slots[(1 : Fin 32)].staleTimer = none ∧
      (∀ r, (staleSlot .fresh).ctrl.bindings.get r ≠ some 2) ∧
      commissioned.ctrl.bindings.get .outPm = some 0 := by
  refine ⟨rfl, undamaged_like rfl rfl rfl rfl rfl rfl rfl, ?_, ?_, ?_, ?_, ?_, ?_⟩
  all_goals first
    | decide +kernel
    | (intro r; cases r <;> decide +kernel)

/-- RUN with every Timer Unit timer run out and a FRESH override. -/
def timing (stuffy co2High : Bool) (count : Nat) : State :=
  (at_ .run .shield).onTimer fun t =>
    { t with recovery := some 0, purge := some 0, gap := some 0, purgeCount := count, overrideTimer := some 0,
             overrideRecord := some ⟨.fresh, 3, 30, .panel⟩, heldMode := .purge, heldStuffy := stuffy,
             heldCo2High := co2High }

theorem undamaged_timing (a b : Bool) (n : Nat) : (timing a b n).Undamaged :=
  undamaged_like rfl rfl rfl rfl rfl rfl rfl

theorem witness_RecoveryAndOverrideTimersExpire :
    (timing true false 0).alive = true ∧ (timing true false 0).timer.recovery.isSome = true ∧
      (timing true false 0).timer.overrideTimer.isSome = true ∧ State.reset.timer.recovery = none := by decide

theorem witness_PurgeAndGapTimersExpire :
    (timing true false 2).Undamaged ∧ (timing true false 2).alive = true ∧
      (timing true false 2).timer.purge.isSome = true ∧
      (timing true false 2).mgmt.params.content.purgeLimit ≤ (timing true false 2).timer.purgeCount + 1 ∧
      (timing true false 1).timer.purgeCount + 1 < (timing true false 1).mgmt.params.content.purgeLimit ∧
      (timing true true 1).timer.heldMode ≠ .shield ∧ (timing false false 1).timer.heldStuffy = false ∧
      (timing true false 1).timer.gap.isSome = true ∧ (timing true false 1).mgmt.opState = .run ∧
      (timing true false 1).timer.doorOpen = false ∧
      (timing true false 1).mgmt.params.content.enablesPurge = true :=
  ⟨undamaged_timing _ _ _, by decide⟩

/-- RUN in SHIELD with one hand-over waiting. -/
def handed (h : Handover) (stuffy : Bool) (purge gap : Option Nat) : State :=
  (at_ .run .shield).onTimer fun t =>
    { t with handovers := [h], heldMode := .shield, heldStuffy := stuffy, purge := purge, gap := gap }

theorem witness_HandoversStartAndStopThePurge :
    let s := handed ⟨none, some true, none, none⟩ false none none
    s.Undamaged ∧ s.alive = true ∧ s.timer.handovers = [⟨none, some true, none, none⟩] ∧ s.timer.heldMode = .shield ∧
      s.mgmt.opState = .run ∧ s.timer.doorOpen = false ∧ s.timer.purge = none ∧
      s.mgmt.params.content.enablesPurge = true ∧ s.timer.purgeCount < s.mgmt.params.content.purgeLimit ∧
      (handed ⟨some .shield, none, none, none⟩ true none (some 5)).timer.gap.isSome = true ∧
      (handed ⟨none, none, some true, none⟩ true (some 5) none).timer.purge.isSome = true ∧
      (handed ⟨none, none, some true, none⟩ true (some 5) none).mgmt.params.content.severeStop = true ∧
      State.reset.timer.handovers = [] :=
  ⟨undamaged_like rfl rfl rfl rfl rfl rfl rfl, by decide⟩

/-- RUN in SHIELD with one report waiting. -/
def reported (r : Report) : State := (at_ .run .shield).report r

theorem witness_ReportsDeriveTheConditionsAndTheMode :
    let r : Report := .timers ⟨true, false, false, false, false⟩
    (reported r).Undamaged ∧ (reported r).alive = true ∧ (reported r).ModeFollows ∧
      ((reported r).ctrl.reports.find? fun x => x.source == .timerUnit) = some r ∧
      (∀ x ∈ (reported r).ctrl.reports, x.source ≠ .quantityTable) :=
  ⟨undamaged_like rfl rfl rfl rfl rfl rfl rfl, rfl, fun h => Mode.noConfusion h, rfl, by decide⟩

/-- A door line that has held a level for its debounce time. -/
def settled (o : OpState) (m : Mode) (isOpen low : Bool) : State :=
  (at_ o m).onDoor .door1 fun _ => ⟨low, isOpen, some 0⟩

theorem undamaged_settled (o : OpState) (m : Mode) (a b : Bool) : (settled o m a b).Undamaged :=
  undamaged_like rfl rfl rfl rfl rfl rfl rfl

theorem witness_DoorsAreDebouncedMeasuredAndFollowed :
    (settled .run .shield false true).Undamaged ∧ (settled .run .shield false true).alive = true ∧
      ((settled .run .shield false true).timer.doors.get .door1).debounce.isSome = true ∧
      (settled .run .shield false true).timer.doorOpen = false ∧ (settled .run .door true false).timer.doorOpen = true ∧
      ((settled .run .door true false).onDoor .door1 fun l =>
        { l with isOpen := l.rawLow, debounce := none }).timer.doorOpen = false ∧
      (settled .config .safe false true).mgmt.opState = .config ∧
      (settled .parking .park true false).mgmt.opState = .parking ∧
      pickBin 20 [⟨0, 60⟩, ⟨20, 180⟩] = some ⟨20, 180⟩ ∧ PowerOn.params.enablesRecover = true :=
  ⟨undamaged_settled _ _ _ _, by decide +kernel⟩

theorem witness_ParkingCompletesOrIsCancelled :
    let s := (at_ .parking .park).onCmd fun c => { c with completion := true }
    s.alive = true ∧ s.Undamaged ∧ s.cmd.completion = true ∧ s.cmd.quiet = true ∧ s.mgmt.opState = .parking ∧
      s.ctrl.mode = .park ∧ s.ctrl.reports = [] ∧ State.reset.cmd.completion = false ∧
      ((settled .parking .park false true).timer.doors.get .door1).rawLow = true ∧
      (settled .parking .park false true).ctrl.reports = [] :=
  ⟨rfl, undamaged_like rfl rfl rfl rfl rfl rfl rfl, by decide⟩

theorem witness_WakesReturnTheDeviceToRun :
    let s := (heard (settled .parked .park false true)).onPark fun k =>
      { k with wakeTimer := some 0, armed := ⟨true, true⟩ }
    let f := sent 1 0 .manage 9 [32]
    s.alive = true ∧ s.Undamaged ∧ s.mgmt.opState = .parked ∧ s.ctrl.mode = .park ∧ s.ctrl.reports = [] ∧
      s.park.wakeTimer.isSome = true ∧ s.port.upRx = .taking ∧ classify (took f) = .good f ∧ f.dest = 1 ∧
      f.kind = .manage ∧ (s.timer.doors.get .door1).debounce.isSome = true ∧
      (s.timer.doors.get .door1).rawLow = true ∧ s.park.armed.get .door1 = true ∧
      s.mgmt.params.content.wakesOn .door1 = true ∧ (at_ .parked .park).park.armed.get .door1 = false ∧
      ((settled .parked .park true false).timer.doors.get .door1).rawLow = false ∧
      (at_ .parked .park).park.wakeTimer = none :=
  ⟨rfl, undamaged_like rfl rfl rfl rfl rfl rfl rfl, by decide +kernel⟩

theorem witness_PrecleanExpiryEntersParking :
    let s := (at_ .run .shield).onPark fun k => { k with preclean := some 0 }
    s.alive = true ∧ s.Undamaged ∧ s.park.preclean.isSome = true ∧ s.ctrl.reports = [] ∧ s.ctrl.mode ≠ .park ∧
      (s.noticeRecord .modeChange).masked = true ∧ State.reset.park.preclean = none :=
  ⟨rfl, undamaged_like rfl rfl rfl rfl rfl rfl rfl, by decide +kernel⟩

/-- TABLE_FAULT pending with its escalation timer run out, and a panel's node or none. -/
def escalating (node : Nat) : State :=
  (State.reset.setNotice .tableFault ⟨true, false, some .wiped, 1, false, some 0⟩).onMgmt fun m =>
    { m with params := ⟨{ m.params.content with panelNode := node }, []⟩ }

theorem witness_EscalationMarksTheKindAndTellsThePanel :
    (escalating 9).alive = true ∧ (escalating 9).Undamaged ∧
      ((escalating 9).noticeRecord .tableFault).escalationTimer.isSome = true ∧
      ((escalating 9).noticeRecord .tableFault).detail = some .wiped ∧ (escalating 9).mgmt.opState ≠ .parked ∧
      (escalating 9).mgmt.params.content.panelNode ≠ 0 ∧ (escalating 0).mgmt.params.content.panelNode = 0 ∧
      (State.reset.noticeRecord .tableFault).escalationTimer = none :=
  ⟨rfl, undamaged_like rfl rfl rfl rfl rfl rfl rfl, by decide +kernel⟩

/-- A MODE_TIME tally counting every second at its top value. -/
def fullTally : Tally := ⟨0xFFFFFFFF, .modeTime, 1, 0x1FF, true, false, false⟩

theorem witness_IntervalExpiryAddsToTheTallies :
    let s := State.reset.onTally fun u => { u with tallies := u.tallies.set 3 fullTally }
    s.alive = true ∧ s.tally.interval.isSome = true ∧ s.tally.tallies[(3 : Fin 4)].notify = true ∧
      2 ^ 32 ≤ s.tally.tallies[(3 : Fin 4)].value.toNat + s.perSecond s.tally.tallies[(3 : Fin 4)] ∧
      (∀ i : Fin 4, State.reset.tally.tallies[i].notify = false) ∧ fullTally.filter.getLsbD s.ctrl.mode.code = true ∧
      fullTally.group = .modeTime ∧ fullTally.mask.getLsbD 0 = true ∧ fullTally.mask.getLsbD 1 = false ∧
      s.cmd.delivery.flap.reported = none ∧ s.usableValue .outPm = none := by decide +kernel

/-- The scrub timer run out at a position whose entry has some flipped cells. -/
def scrubbing (cells : List Nat) (faults : List EntryId) : State :=
  (State.reset.setFlips (.recovery 2) cells).onInteg fun u =>
    { u with scrubPos := 105, scrubTimer := some 0, faultList := faults }

theorem witness_ScrubStepsCheckTheEntryAtTheirPosition :
    let s := scrubbing [1, 2] []
    s.alive = true ∧ s.isFaulted .params = false ∧ s.flips .params = [] ∧ s.integ.scrubTimer.isSome = true ∧
      s.mgmt.params.content.scrubInterval ≠ 0 ∧ EntryId.atScrubPos s.integ.scrubPos = .recovery 2 ∧
      s.isFaulted (.recovery 2) = false ∧ 2 ≤ (s.flips (.recovery 2)).length ∧ s.integ.faultList.length < 8 ∧
      ((scrubbing [1] []).flips (.recovery 2)).length = 1 ∧ (scrubbing [] []).flips (.recovery 2) = [] ∧
      8 ≤ (scrubbing [1, 2] ((List.finRange 64).take 8 |>.map .channelMap)).integ.faultList.length ∧
      EntryId.atScrubPos 110 = .actuator .demist ∧ EntryId.atScrubPos 111 = .params := by decide +kernel

theorem witness_ScrubStepOthersGood : ∀ x, x ≠ .recovery 2 → (scrubbing [1, 2] []).flips x = [] := by
  have h := undamaged_reset.2
  intro x hx
  cases x with
  | channelMap i => exact h (.channelMap i)
  | slotSetup i => exact h (.slotSetup i)
  | modeRecord i => exact h (.modeRecord i)
  | recovery i => revert i; decide +kernel
  | actuator a => exact h (.actuator a)
  | params => rfl

/-- The premises of the statements about every step hold in a state of RUN with a door about to be seen open, where
a step leads on. -/
theorem witness_TheModeFollowsTheOperatingState :
    (settled .run .shield false true).ModeFollows ∧ ∃ t, step (settled .run .shield false true) = .next t :=
  ⟨fun h => Mode.noConfusion h, _, rfl⟩

theorem witness_ListsQueuesAndCountersStayBounded :
    (packed (scrubbing [] [.params])).FaultListSound ∧ (packed (scrubbing [] [.params])).QueuesBounded ∧
      ∃ t, step (packed (scrubbing [] [.params])) = .next t :=
  ⟨⟨by decide, by decide⟩, ⟨by decide, by decide, by decide, by decide, by decide⟩, _, rfl⟩

theorem witness_TheCommandEngineStaysSound :
    (sending .run .shield .waiting 1).cmd.Sound ∧ ∃ t, step (sending .run .shield .waiting 1) = .next t := by
  refine ⟨⟨List.nodup_nil, List.nodup_nil, ?_, ?_, ?_, ?_⟩, _, rfl⟩
  · intro a; cases a <;> decide
  · intro a; cases a <;> simp [sending, flapAt4, heard, at_, State.onDelivery, State.onCmd, State.onPort, State.onCtrl,
      State.setOpState, State.onMgmt, CommandEngine.onDelivery, PerActuator.set, State.reset, PowerOn.commandEngine,
      PowerOn.deliveriesSafe, PowerOn.deliverySafe, PowerOn.delivery, PerActuator.get]
  · intro a; cases a <;> simp [sending, flapAt4, heard, at_, State.onDelivery, State.onCmd, State.onPort, State.onCtrl,
      State.setOpState, State.onMgmt, CommandEngine.onDelivery, PerActuator.set, State.reset, PowerOn.commandEngine,
      PowerOn.deliveriesSafe, PowerOn.deliverySafe, PowerOn.delivery, PerActuator.get]
  · intro h; exact absurd h (by decide)

theorem witness_TheTimersStaySound :
    (settled .run .shield false true).TimersSound ∧ (settled .run .shield false true).DebouncesSound ∧
      ∃ t, step (settled .run .shield false true) = .next t := by
  refine ⟨⟨fun h => absurd rfl h, fun h => absurd h (by decide), rfl, by decide⟩, fun _ d => ?_, _, rfl⟩
  cases d <;> rfl

/-! ### Each clause's hypotheses can be met -/

/-- Every table reads good. -/
def tablesGood (s : State) : Bool :=
  s.integ.faultList.isEmpty && (List.finRange 64).all (fun i => s.intake.map[i].flipped.isEmpty) &&
    (List.finRange 32).all (fun i => s.quantity.setups[i].flipped.isEmpty) &&
    (List.finRange 7).all (fun i => s.ctrl.records[i].flipped.isEmpty) &&
    (List.finRange 4).all (fun i => s.timer.bins[i].flipped.isEmpty) &&
    Actuator.all.all (fun a => (s.cmd.entries.get a).flipped.isEmpty) && s.mgmt.params.flipped.isEmpty

theorem undamaged_of_good {s : State} (h : tablesGood s = true) : s.Undamaged := by
  simp only [tablesGood, Bool.and_eq_true, List.all_eq_true, List.isEmpty_iff, List.mem_finRange, forall_const] at h
  obtain ⟨⟨⟨⟨⟨⟨hf, hm⟩, hq⟩, hr⟩, hb⟩, ha⟩, hp⟩ := h
  exact undamaged_of hf hm hq hr hb (fun a => ha a (by cases a <;> simp [Actuator.all])) hp

/-- The parameters, changed. -/
def withParams (f : Params → Params) (s : State) : State :=
  s.onMgmt fun m => { m with params := ⟨f m.params.content, []⟩ }

/-- The panel at node 9. -/
def panelled (s : State) : State := withParams (fun p => { p with panelNode := 9 }) s

theorem timers_of_reset_not_out : ∀ i, State.reset.timerOf i ≠ some 0 := by
  intro i
  cases i with
  | debounceEnd d b => cases d <;> simp only [State.timerOf] <;> split <;> decide
  | ackTimerExpiry a => cases a <;> decide
  | parkWakeTimerExpiry b => simp only [State.timerOf]; split <;> decide
  | staleTimerExpiry j => revert j; decide +kernel
  | escalationTimerExpiry k => cases k <;> decide +kernel
  | _ => simp [State.timerOf, State.reset, PowerOn.timerUnit, PowerOn.parkController, PowerOn.tallyUnit,
      PowerOn.integrity, PowerOn.scrubMs, PowerOn.params, Config.msPerSecond]

theorem witness_EveryCommandAnswersANextStateAndKeepsTheQueue :
    State.reset.pending = [] ∧ State.reset.alive = true ∧ State.reset.timer.handovers = [] ∧
      State.reset.ctrl.reports = [] ∧ State.reset.cmd.completion = false ∧
      (∀ i, State.reset.timerOf i ≠ some 0) ∧ ({ State.reset with supplyUp := false } : State).alive = false ∧
      (handed ⟨none, some true, none, none⟩ false none none).timer.handovers ≠ [] ∧
      (reported (.faultList true)).ctrl.reports = [.faultList true] ∧
      (State.reset.onCmd fun c => { c with completion := true }).cmd.completion = true :=
  ⟨rfl, rfl, rfl, rfl, rfl, timers_of_reset_not_out, by decide, by decide, by decide, rfl⟩

/-- Two timers that have run out at once: the purge timer's place is before the scrub timer's. -/
theorem witness_expiry_order :
    let s := (State.reset.onTimer fun t => { t with purge := some 0 }).onInteg fun u => { u with scrubTimer := some 0 }
    s.timerOf .purgeTimerExpiry = some 0 ∧ s.timerOf .scrubIntervalExpiry = some 0 ∧
      expiryRank .purgeTimerExpiry ≤ expiryRank .scrubIntervalExpiry ∧ s.timerOf .intervalTimerExpiry = some 1000 := by
  decide

/-- Frames of R122's table, each MALFORMED for one reason, and the bounds beside them good. -/
theorem witness_malformed_frames :
    let f := fun (dest src kind len : Byte) (p : List Byte) =>
      (⟨dest :: src :: kind :: 3 :: len :: p ++ word16Bytes (checkOf (dest :: src :: kind :: 3 :: len :: p)), false⟩ : Reception)
    classify (f 63 62 4 1 [29]) = .good ⟨63, 62, .manage, 3, [29], checkOf [63, 62, 4, 3, 1, 29]⟩ ∧
      classify (f 64 0 4 1 [29]) = .malformed ∧ classify (f 1 1 4 1 [29]) = .malformed ∧
      classify (f 1 63 4 1 [29]) = .malformed ∧ classify (f 1 0 0 1 [29]) = .malformed ∧
      classify (f 1 0 7 1 [29]) = .malformed ∧ classify (f 1 0 4 2 [29]) = .malformed ∧
      classify (f 1 0 4 25 (List.replicate 24 7)) = .malformed ∧ classify (f 1 0 3 2 [1, 4]) = .malformed ∧
      classify (f 1 0 1 4 [16, 0, 0, 0]) = .malformed ∧ classify ⟨List.replicate 6 0, false⟩ = .checkError ∧
      classify ⟨List.replicate 32 0, false⟩ = .malformed := by decide +kernel

/-- MANAGE frames at both ports, and the queues full. -/
theorem witness_arrivals_at_the_responder :
    let s := heard State.reset
    let q := fun (dest src : Byte) (p : List Byte) => sent dest src .manage 9 p
    s.NoWrap ∧ (packed s).NoWrap ∧ classify (took (q 1 5 [29])) = .good (q 1 5 [29]) ∧
      classify (took (q 1 0 [29])) = .good (q 1 0 [29]) ∧ classify (took (q 63 0 [32])) = .good (q 63 0 [32]) ∧
      classify (took (q 1 0 [33])) = .good (q 1 0 [33]) ∧ classify (took (q 1 0 [29, 7])) = .good (q 1 0 [29, 7]) ∧
      decodeRequest ⟨.dn, false, 5, 9⟩ 29 [] = .known (.readFaults ⟨.dn, false, 5, 9⟩) ∧
      decodeRequest ⟨.up, false, 0, 9⟩ 29 [] = .known (.readFaults ⟨.up, false, 0, 9⟩) ∧
      decodeRequest ⟨.up, true, 0, 9⟩ 32 [] = .known (.reset ⟨.up, true, 0, 9⟩) ∧
      decodeRequest ⟨.up, false, 0, 9⟩ 33 [] = .unknown ∧
      decodeRequest ⟨.up, false, 0, 9⟩ 29 [7] = .badLength .no ∧ s.port.ptq.length < 8 ∧ s.port.fwq.length < 16 ∧
      8 ≤ (packed s).port.ptq.length ∧ 16 ≤ (packed s).port.fwq.length ∧ s.port.rpq.length < 8 := by
  refine ⟨by unfold State.NoWrap; decide +kernel, by unfold State.NoWrap; decide +kernel, ?_⟩
  decide +kernel

/-- A Sample Window of nodes 4 to 7, and a map entry with a rule, a thin counter and a last tag. -/
def ruled (rule : ForwardRule) (thin : Nat) (last : Option Byte) : State :=
  (withParams (fun p => { p with windowBase := 4, windowSize := 4 }) mapped).onIntake fun u =>
    { u with map := u.map.set 3 ⟨⟨true, 5, 1, 2, 256, 0, rule⟩, []⟩, dyn := u.dyn.set 3 ⟨thin, last⟩ }

theorem witness_forward_rules :
    (ruled .drop 0 none).Undamaged ∧ (ruled .pass 0 none).Undamaged ∧ (ruled (.thin 2) 1 none).Undamaged ∧
      (ruled .pass 0 none).KeyAt 5 1 3 ∧ (ruled (.thin 2) 1 (some 8)).KeyAt 5 1 3 ∧
      readingsOf [1, 0, 0, 7] = some [⟨1, .ok, 7⟩] ∧ (ruled .pass 0 (some 9)).intake.dyn[(3 : Fin 64)].lastTag = some 9 ∧
      (ruled .pass 0 (some 8)).intake.dyn[(3 : Fin 64)].lastTag ≠ some 9 ∧
      ((ruled .pass 0 none).mgmt.params.content.windowBase ≤ 4 ∧
        3 < (ruled .pass 0 none).mgmt.params.content.windowBase) ∧
      (7 < (ruled .pass 0 none).mgmt.params.content.windowBase + (ruled .pass 0 none).mgmt.params.content.windowSize ∧
        (ruled .pass 0 none).mgmt.params.content.windowBase + (ruled .pass 0 none).mgmt.params.content.windowSize ≤ 8) ∧
      ((∃ k, ForwardRule.thin 2 = .thin k ∧ k ≤ 1 + 1) ∧ ∃ k, ForwardRule.thin 3 = .thin k ∧ 1 + 1 < k) := by
  refine ⟨undamaged_of_good (by decide +kernel), undamaged_of_good (by decide +kernel),
    undamaged_of_good (by decide +kernel), by unfold State.KeyAt; decide +kernel, by unfold State.KeyAt; decide +kernel,
    by decide +kernel, by decide +kernel, by decide +kernel, by decide +kernel, by decide +kernel,
    ⟨2, rfl, by decide⟩, ⟨3, rfl, by decide⟩⟩

/-- Slot 2 behind the map entry: its setup's kind and step, its status, value, pending jump and rejects. -/
def slotted (kind : SlotKind) (step : Nat) (st : SlotStatus) (v jump : Option Int) (rejects : Nat) : State :=
  let setup := { PowerOn.slotSetup with kind := kind, step := step, min := 0, max := 100, smoothing := .median3 }
  (mapped.onQuantity fun q => { q with setups := q.setups.set 2 ⟨setup, []⟩ }).onSlot 2 fun sl =>
    { sl with status := st, value := v, pendingJump := jump, rejects := rejects, history := [10, 30] }

theorem undamaged_slotted (k : SlotKind) (n : Nat) (st : SlotStatus) (v j : Option Int) (r : Nat) :
    (slotted k n st v j r).Undamaged := by
  refine undamaged_of rfl (fun i => undamaged_mapped.2 (.channelMap i)) ?_ (fun i => undamaged_mapped.2 (.modeRecord i))
    (fun i => undamaged_mapped.2 (.recovery i)) (fun a => undamaged_mapped.2 (.actuator a)) rfl
  intro i
  by_cases h : i = 2
  · subst h; rfl
  · have h' : (2 : Fin 32).val ≠ i.val := fun e => h (Fin.ext e.symm)
    have := undamaged_mapped.2 (.slotSetup i)
    simp only [State.flips] at this
    simp only [slotted, State.onSlot, State.onQuantity, Fin.getElem_fin]
    rw [Vector.getElem_set_ne]
    · exact this
    · exact h'

theorem keyAt_slotted (k : SlotKind) (n : Nat) (st : SlotStatus) (v j : Option Int) (r : Nat) :
    (slotted k n st v j r).KeyAt 5 1 3 := by
  have : mapped.KeyAt 5 1 3 := by unfold State.KeyAt; decide +kernel
  exact this

/-- What meets each row of R33 to R39: an UNUSED slot, a WARMING and a FAULT sensor, values at and past the bounds,
a step at and past its limit, a candidate confirmed, and the third rejection of a FRESH slot. -/
theorem witness_readings_not_accepted :
    let v := fun (raw : Int) => scale raw 256 0
    readingsOf [1, 1, 0, 7] = some [⟨1, .warming, 7⟩] ∧ readingsOf [1, 2, 0, 7] = some [⟨1, .fault, 7⟩] ∧
      (slotted .unused 0 .empty none none 0).quantity.setups[(2 : Fin 32)].content.kind = .unused ∧
      (v 100 ≤ 100 ∧ 100 < v 101 ∧ v (-1) < 0 ∧ 0 ≤ v 0) ∧
      (slotted .monitor 5 .fresh (some 10) none 2).quantity.slots[(2 : Fin 32)].status = .fresh ∧ 3 ≤ 2 + 1 ∧
      ((v 15 - 10).natAbs ≤ 5 ∧ ¬(v 16 - 10).natAbs ≤ 5) ∧ ((v 36 - 40).natAbs ≤ 5 ∧ ¬(v 36 - 10).natAbs ≤ 5) ∧
      (slotted .monitor 5 .fresh (some 10) (some 40) 2).quantity.slots[(2 : Fin 32)].pendingJump = some 40 ∧
      (slotted .monitor 5 .fresh (some 10) none 2).quantity.slots[(2 : Fin 32)].history = [] ++ [10, 30] := by
  decide +kernel

/-- Two readings of one frame: of one channel, and of two channels at two entries. -/
theorem witness_two_readings :
    let s := mapped.onIntake fun u => { u with map := u.map.set 4 ⟨⟨true, 5, 2, 2, 256, 0, .drop⟩, []⟩ }
    s.KeyAt 5 1 3 ∧ s.KeyAt 5 2 4 ∧ s.Undamaged ∧
      readingsOf [1, 0, 0, 7, 1, 0, 0, 8] = some [⟨1, .ok, 7⟩, ⟨1, .ok, 8⟩] ∧
      readingsOf [1, 0, 0, 7, 2, 0, 0, 8] = some [⟨1, .ok, 7⟩, ⟨2, .ok, 8⟩] ∧
      s.intake.dyn[(3 : Fin 64)].lastTag ≠ some 9 ∧ s.intake.dyn[(4 : Fin 64)].lastTag ≠ some 9 ∧
      judge s.quantity.setups[(2 : Fin 32)].content s.quantity.slots[(2 : Fin 32)] (scale 7 256 0) = .accepted ∧
      judge s.quantity.setups[(2 : Fin 32)].content
        (s.quantity.slots[(2 : Fin 32)].accept s.quantity.setups[(2 : Fin 32)].content (scale 7 256 0))
        (scale 8 256 0) = .accepted := by
  refine ⟨by unfold State.KeyAt; decide +kernel, by unfold State.KeyAt; decide +kernel,
    undamaged_of_good (by decide +kernel), ?_⟩
  decide +kernel

/-- ACKs that find no command: late for the last abandoned tag, and stray. -/
theorem witness_late_and_stray_acks :
    let s := (flapAt4 (heard (at_ .run .shield))).onDelivery .flap fun d => { d with lastAbandoned := some 9 }
    s.Undamaged ∧ (s.cmd.delivery.get .flap).outstanding = none ∧ s.cmd.entries.flap.content = ⟨true, 4⟩ ∧
      (s.cmd.delivery.get .flap).lastAbandoned = some 9 ∧ (s.cmd.delivery.get .blower).lastAbandoned = none ∧
      s.cmd.entries.blower.content.present = false ∧
      classify (took (sent 1 4 .ack 9 [20, 0])) = .good (sent 1 4 .ack 9 [20, 0]) ∧
      classify (took (sent 1 7 .ack 9 [20, 3])) = .good (sent 1 7 .ack 9 [20, 3]) ∧
      ackOf [20, 3] = some ⟨20, .overheat⟩ := by
  refine ⟨undamaged_of_good (by decide +kernel), ?_⟩
  decide +kernel

/-- An only offer whose actuator is not fitted, from CMQ and from the DUE commands. -/
theorem witness_offers_of_no_actuator :
    let s := (heard (at_ .parking .park)).onCmd (·.queueValue .carbon 1)
    let u := (heard (at_ .run .shield)).onCmd (·.becomeDue .carbon ⟨9, 1, 2, .onLine, false⟩)
    s.Undamaged ∧ u.Undamaged ∧ s.cmd.offered = some .carbon ∧ u.cmd.offered = some .carbon ∧ s.cmd.cmq = [.carbon] ∧
      s.cmd.due = [] ∧ u.cmd.cmq = [] ∧ u.cmd.due = [.carbon] ∧ s.cmd.entries.carbon.content.present = false ∧
      s.port.dnTx = none ∧ (packed s).mgmt.params.content.dnShare ≤
        ((packed s).onPort fun p => { p with dnShareCount := 1 }).port.dnShareCount := by
  refine ⟨undamaged_of_good (by decide +kernel), undamaged_of_good (by decide +kernel), ?_⟩
  decide +kernel

/-- Requests on DN: no panel, the panel's own, one it may not use, a full PTQ, faulted parameters. -/
theorem witness_requests_on_dn :
    (panelled State.reset).TakesDnRequest ∧ (panelled State.reset).mgmt.params.content.panelNode = (9 : Byte).toNat ∧
      (9 : Byte).toNat ≠ 0 ∧ (8 : Byte).toNat ≠ (panelled State.reset).mgmt.params.content.panelNode ∧
      State.reset.ParamsGood ∧ State.reset.mgmt.params.content.panelNode = 0 ∧
      requestForm (.resume (onDn 9 3)) = some (onDn 9 3, 30, 0, []) ∧ 30 ∉ [1, 2, 21, 22, 23, 26] ∧
      8 ≤ (packed State.reset).port.ptq.length ∧ (scrubbing [] [.params]).isFaulted .params = true ∧
      (panelled (at_ .run .shield)).TakesDnRequest ∧ (panelled (at_ .run .shield)).mgmt.opState = .run ∧
      (panelled (at_ .run .shield)).ctrl.mode ≠ .manual ∧ (panelled State.reset).Undamaged :=
  ⟨⟨rfl, by decide, by decide, rfl, rfl⟩, rfl, by decide, by decide, ⟨rfl, rfl⟩, rfl, rfl, by decide, by decide, by decide,
    ⟨rfl, by decide, by decide, rfl, rfl⟩, rfl, by decide, undamaged_of_good (by decide +kernel)⟩

/-- Broadcasts of the gateway. -/
theorem witness_requests_to_every_node :
    requestForm (.resume (toEveryNode 3)) = some (toEveryNode 3, 30, 0, []) ∧ (at_ .parking .park).alive = true ∧
      (at_ .parking .park).mgmt.opState = .parking ∧ (packed State.reset).alive = true ∧
      (packed State.reset).mgmt.opState = .config := by decide

/-- The bounds of the 22 ranges of R147. -/
theorem witness_parameter_ranges :
    (paramRange 0 63 ∧ ¬paramRange 0 64) ∧ (paramRange 1 1 ∧ paramRange 1 64 ∧ ¬paramRange 1 0 ∧ ¬paramRange 1 3) ∧
      (paramRange 2 1 ∧ ¬paramRange 2 2) ∧ (paramRange 3 0 ∧ ¬paramRange 3 1 ∧ paramRange 3 2 ∧ paramRange 3 62 ∧
      ¬paramRange 3 63) ∧ (paramRange 4 3 ∧ ¬paramRange 4 4) ∧
      (¬paramRange 5 9 ∧ paramRange 5 10 ∧ paramRange 5 600 ∧ ¬paramRange 5 601) ∧
      (¬paramRange 6 29 ∧ paramRange 6 30 ∧ paramRange 6 1800 ∧ ¬paramRange 6 1801) ∧
      (¬paramRange 7 0 ∧ paramRange 7 1 ∧ paramRange 7 7 ∧ ¬paramRange 7 8) ∧ (paramRange 8 1 ∧ ¬paramRange 8 2) ∧
      (paramRange 9 15 ∧ ¬paramRange 9 16) ∧ (paramRange 10 7 ∧ ¬paramRange 10 8) ∧
      (paramRange 11 63 ∧ ¬paramRange 11 64) ∧
      (¬paramRange 12 9 ∧ paramRange 12 10 ∧ paramRange 12 250 ∧ ¬paramRange 12 251) ∧
      (¬paramRange 13 0 ∧ paramRange 13 1 ∧ paramRange 13 15 ∧ ¬paramRange 13 16) ∧
      (paramRange 14 1 ∧ ¬paramRange 14 2) ∧ (paramRange 15 1 ∧ ¬paramRange 15 2) ∧
      (paramRange 16 0 ∧ paramRange 16 15 ∧ ¬paramRange 16 16 ∧ paramRange 16 120 ∧ ¬paramRange 16 121) ∧
      (paramRange 17 255 ∧ ¬paramRange 17 256) ∧ (paramRange 18 1 ∧ ¬paramRange 18 2) ∧
      (paramRange 19 1 ∧ ¬paramRange 19 2) ∧ (paramRange 20 3 ∧ ¬paramRange 20 4) ∧
      (¬paramRange 21 59 ∧ paramRange 21 60 ∧ paramRange 21 1800 ∧ ¬paramRange 21 1801) := by
  norm_num [paramRange]

/-- The window of a write: 2 under size 4 is not aligned, 4 is; base 4 takes size 4 and not 8. -/
theorem witness_window_alignment :
    let p := (ruled .pass 0 none).mgmt.params.content
    2 % p.windowSize ≠ 0 ∧ 8 % p.windowSize = 0 ∧ p.windowBase % 4 = 0 ∧ p.windowBase % 8 ≠ 0 := by decide +kernel

/-- Stale timers that have run out at the end of a second and within one, and one started again. -/
theorem witness_stale_timers :
    let s := fun (part : Nat) (t : Option Nat) => (staleSlot .fresh).onSlot 2 fun sl =>
      { sl with agePart := part, staleTimer := t }
    (s 1000 (some 0)).Undamaged ∧ 1000 ≤ (s 1000 (some 0)).quantity.slots[(2 : Fin 32)].agePart ∧
      (s 1000 (some 0)).quantity.slots[(2 : Fin 32)].staleTimer = some 0 ∧
      ¬1000 ≤ (s 999 (some 0)).quantity.slots[(2 : Fin 32)].agePart ∧
      (s 0 (some 1)).quantity.slots[(2 : Fin 32)].staleTimer ≠ some 0 ∧
      (timing true false 0).timer.overrideTimer = some 0 ∧ State.reset.timer.overrideTimer ≠ some 0 := by
  refine ⟨undamaged_of_good (by decide +kernel), ?_⟩
  decide +kernel

/-- The rows of the precedence: each test holding with none before it. -/
theorem witness_precedence_rows :
    let c := PowerOn.controller
    let v := fun (d m r p : Bool) => ({ c with timerView := ⟨d, false, p, r, m⟩ } : Controller)
    ((v true true true true).timerView.door1Open = true ∧ (v false true true true).timerView.override = true ∧
      (v false false true true).timerView.recovery = true ∧ (v false false false true).timerView.purge = true) ∧
      c.causes = ⟨false, false⟩ ∧ c.conditions.dirtyOut = true ∧ c.conditions.fog = false ∧
      PowerOn.params.modeEnable.getLsbD 2 = true := by decide

/-- Two tallies that wrap, and that ask for a notice: the higher is index 3. -/
theorem witness_two_wraps :
    let u : Tally := ⟨0xFFFFFFFF, .frames, 1, 0x1FF, true, false, false⟩
    let s := State.reset.onTally fun t => { t with tallies := (t.tallies.set 0 u).set 3 u }
    s.tally.tallies[(3 : Fin 4)].notify = true ∧
      2 ^ 32 ≤ s.tally.tallies[(3 : Fin 4)].value.toNat + [SubEvent.rxGood].length ∧ [SubEvent.rxGood].length ≤ 5 ∧
      s.tally.tallies[(3 : Fin 4)].group = SubEvent.rxGood.group ∧
      s.tally.tallies[(3 : Fin 4)].filter.getLsbD s.ctrl.mode.code = true ∧ ¬s.NoWrap ∧ State.reset.NoWrap := by
  refine ⟨by decide +kernel, by decide +kernel, by decide, by decide +kernel, by decide +kernel, ?_, ?_⟩
  · unfold State.NoWrap; decide +kernel
  · unfold State.NoWrap; decide +kernel

/-- The known damage of a Fault List, and readers of its members. -/
theorem witness_faulted_entries :
    let faults := fun l => mapped.onInteg fun u => { u with faultList := l }
    let s := faults [.channelMap 3, .slotSetup 2, .recovery 0, .recovery 1, .recovery 2, .recovery 3, .actuator .flap]
    s.OnlyKnownDamage ∧ s.isFaulted .params = false ∧ s.isFaulted (.channelMap 3) = true ∧
      s.isFaulted (.slotSetup 2) = true ∧ (∀ i : Fin 4, s.isFaulted (.recovery i) = true) ∧
      s.isFaulted (.actuator .flap) = true ∧ (faults [.slotSetup 2]).isFaulted (.channelMap 3) = false ∧
      (faults [.slotSetup 2]).KeyAt 5 1 3 ∧ s.TakesRequest ∧ s.mgmt.opState = .config ∧
      (scrubbing [] [.modeRecord 4]).isFaulted (.modeRecord 4) = true :=
  ⟨fun e _ => undamaged_mapped.2 e, by decide, by decide, by decide, by decide, by decide, by decide,
    by unfold State.KeyAt; decide +kernel, ⟨rfl, by decide, by decide⟩, rfl, by decide⟩

/-- Every entry has a scrub position. -/
theorem entry_has_a_place (e : EntryId) : ∃ i, EntryId.atScrubPos i = e := by
  cases e with
  | channelMap i => exact ⟨⟨i.val, by omega⟩, by simp [EntryId.atScrubPos]⟩
  | slotSetup i => exact ⟨⟨i.val + 64, by omega⟩, by simp [EntryId.atScrubPos]⟩
  | modeRecord i => revert i; decide +kernel
  | recovery i => revert i; decide +kernel
  | actuator a => cases a <;> decide +kernel
  | params => exact ⟨111, rfl⟩

/-- Entry `e` is damaged in two places, no other is damaged, none is faulted. -/
def onlyDamaged (s : State) (e : EntryId) : Bool :=
  s.integ.faultList.isEmpty && decide (2 ≤ (s.flips e).length) &&
    (List.finRange 112).all fun i => EntryId.atScrubPos i == e || (s.flips (EntryId.atScrubPos i)).isEmpty

theorem newDamage_of_only {s : State} {e : EntryId} (he : e ≠ .params) (h : onlyDamaged s e = true) :
    s.NewDamage e := by
  simp only [onlyDamaged, Bool.and_eq_true, List.isEmpty_iff, decide_eq_true_eq, List.all_eq_true, List.mem_finRange,
    forall_const, Bool.or_eq_true, beq_iff_eq] at h
  obtain ⟨⟨hf, hl⟩, ha⟩ := h
  refine ⟨he, by simp [State.isFaulted, hf], by simp [State.isFaulted, hf], hl, fun x hx => ?_, by simp [hf]⟩
  obtain ⟨i, rfl⟩ := entry_has_a_place x
  exact (ha i).resolve_left hx

/-- A broadcast request whose frame finds PTQ full. -/
theorem witness_broadcast_at_a_full_queue :
    let s := packed (heard State.reset)
    let f := sent 63 0 .manage 9 [30]
    s.alive = true ∧ s.mgmt.opState ≠ .parked ∧ s.port.upRx = .taking ∧ classify (took f) = .good f ∧
      8 ≤ s.port.ptq.length ∧ decodeRequest ⟨.up, true, 0, 9⟩ 30 [] = .known (.resume (toEveryNode 9)) ∧ s.NoWrap := by
  refine ⟨rfl, by decide, rfl, by decide +kernel, by decide, by decide +kernel, ?_⟩
  unfold State.NoWrap; decide +kernel

/-- Raises of INPUT_LOST at RPQ's last place: the first sends a frame and starts its timer, a second counts alone, and
another kind's frame finds RPQ full and takes a tag all the same (the example of chapter 8). -/
theorem test_raises_at_a_full_reply_queue :
    let s := State.reset.onPort fun p => { p with rpq := List.replicate 7 PowerOn.startFrame }
    let a := s.raiseWith 60 .inputLost (.slot 9)
    let b := a.raiseWith 60 .inputSuspect (.slot 4)
    let c := b.raiseWith 60 .inputLost (.slot 9)
    [a, b, c].map (fun t => (t.port.rpq.length, t.notice.tagCounter)) = [(8, 2), (8, 3), (8, 3)] ∧
      (c.noticeRecord .inputLost).count = 2 ∧ (c.noticeRecord .inputLost).escalationTimer = some 60000 ∧
      (c.noticeRecord .inputSuspect).escalationTimer = none ∧
      (c.raiseWith 60 .actuatorFault (.actuator .flap)).notice.serviceLamp = ⟨.on, 0⟩ := by decide +kernel

/-- What an ACK must find for its notice to be the only one: tallies that do not wrap. -/
theorem witness_acks_wrap_no_tally : (sending .run .shield .waiting 1).NoWrap ∧
    (flapAt4 (heard (at_ .run .shield))).NoWrap ∧ (sending .parking .park .waiting 4).mgmt.opState = .parking := by
  refine ⟨by unfold State.NoWrap; decide +kernel, by unfold State.NoWrap; decide +kernel, rfl⟩

/-- Grants whose read finds the entry damaged: an only offer, one with another behind it, and damage in one place. -/
theorem witness_grants_that_find_damage :
    let only := queued.setFlips (.actuator .flap) [1, 2]
    let fitted := queued.onCmd fun c => { c with entries := { c.entries with blower := ⟨⟨true, 5⟩, []⟩ } }
    let both := (fitted.onCmd (·.queueValue .blower 7)).setFlips (.actuator .flap) [1, 2]
    let one := queued.setFlips (.actuator .flap) [1]
    only.NewDamage (.actuator .flap) ∧ both.NewDamage (.actuator .flap) ∧ only.alive = true ∧
      only.port.dnTx = none ∧ only.port.ptq = [] ∧ only.cmd.offered = some .flap ∧ only.cmd.cmq = [.flap] ∧
      only.cmd.due = [] ∧ both.cmd.offered = some .flap ∧ both.cmd.cmq = [.flap, .blower] ∧ both.cmd.due = [] ∧
      (both.cmd.delivery.get .blower).outstanding = none ∧
      (both.cmd.delivery.get .blower).pendingValue = some 7 ∧ both.cmd.entries.blower.content.present = true ∧
      one.ParamsGood ∧ one.isFaulted (.actuator .flap) = false ∧ (one.flips (.actuator .flap)).length = 1 ∧
      one.cmd.entries.flap.content.present = true ∧ (one.cmd.delivery.get .flap).pendingValue = some 20 ∧
      ((only.onCmd (·.becomeDue .flap ⟨9, 1, 2, .onLine, false⟩)).onCmd fun c => { c with cmq := [] }).cmd.due =
        [.flap] := by
  refine ⟨newDamage_of_only (by decide) (by decide +kernel), newDamage_of_only (by decide) (by decide +kernel), ?_⟩
  unfold State.ParamsGood
  decide +kernel

/-- Reads that find damage in one place, in two, and the ninth fault. -/
theorem witness_reads_that_find_damage :
    let one := State.reset.setFlips (.channelMap 63) [1]
    let two := State.reset.setFlips (.channelMap 63) [1, 2]
    let ninth := two.onInteg fun u => { u with faultList := (List.finRange 8).map fun i => .channelMap ⟨i.val, by omega⟩ }
    one.TakesRequest ∧ one.ParamsGood ∧ (63 : Byte).toNat = (63 : Fin 64).val ∧ one.isFaulted (.channelMap 63) = false ∧
      (one.flips (.channelMap 63)).length = 1 ∧ 2 ≤ (two.flips (.channelMap 63)).length ∧
      two.integ.faultList.length < 8 ∧ ninth.TakesRequest ∧ ninth.ParamsGood ∧
      ninth.isFaulted (.channelMap 63) = false ∧ 8 ≤ ninth.integ.faultList.length ∧
      (State.reset.setFlips (.actuator .demist) [1, 2]).NewDamage (.actuator .demist) ∧
      (3 : Byte).toNat = Actuator.demist.index ∧ (21 : Byte).toNat < 22 ∧
      ((State.reset.setFlips .params [1]).flips .params).length = 1 ∧
      2 ≤ ((State.reset.setFlips .params [1, 2]).flips .params).length ∧
      (State.reset.setFlips .params [1, 2]).TakesRequest := by
  refine ⟨⟨rfl, by decide, by decide⟩, ⟨rfl, rfl⟩, rfl, rfl, by decide +kernel, by decide +kernel, by decide,
    ⟨rfl, by decide, by decide⟩, ⟨by decide +kernel, rfl⟩, by decide +kernel, by decide +kernel,
    newDamage_of_only (by decide) (by decide +kernel), by decide, by decide, by decide, by decide,
    ⟨rfl, by decide, by decide⟩⟩

/-- A WRITE_MODE of MANUAL and an OVERRIDE, of the gateway and of the panel, in MANUAL. -/
theorem witness_manual_targets :
    let s := (panelled (roomy (at_ .run .manual))).onTimer fun t =>
      { t with overrideTimer := some 0, overrideRecord := some ⟨.recirc, 3, 30, .gateway⟩ }
    s.TakesRequest ∧ s.TakesDnRequest ∧ s.Undamaged ∧ s.ctrl.mode = .manual ∧ s.mgmt.opState = .run ∧
      s.timer.overrideRecord.isSome = true ∧ s.timer.heldSevere = false ∧ (6 : Byte).toNat = Mode.manual.code ∧
      Mode.manual.recordIndex = some 6 ∧ gateway 4 = gateway (gateway 4).tag ∧
      onDn 9 4 = onDn (onDn 9 4).src (onDn 9 4).tag ∧ s.mgmt.params.content.panelNode = (9 : Byte).toNat ∧
      State.reset.timer.overrideTimer = none := by
  refine ⟨⟨rfl, by decide, by decide⟩, ⟨rfl, by decide, by decide, rfl, rfl⟩, undamaged_of_good (by decide +kernel), ?_⟩
  decide +kernel

/-- ACTUATOR_FAULT pending and FILTER_CLOGGED pending: named, not named, and escalated. -/
theorem witness_service_lamp :
    let s := (State.reset.raiseWith 60 .actuatorFault (.actuator .flap)).raiseWith 60 .filterClogged (.slot 3)
    let e := s.setNotice .actuatorFault ⟨true, false, some (.actuator .flap), 1, true, none⟩
    s.notice.serviceLamp = ⟨.on, 0⟩ ∧ s.servicePatternDue = .on ∧ e.servicePatternDue = .double ∧
      e.notice.serviceLamp = ⟨.double, 0⟩ ∧ State.reset.servicePatternDue = .off ∧
      (0x20 : Word16).getLsbD NoticeKind.actuatorFault.index.val = true ∧
      (s.noticeRecord .actuatorFault).pending = true ∧ (State.reset.noticeRecord .actuatorFault).pending = false ∧
      [e, e.acknowledge .actuatorFault, (e.acknowledge .actuatorFault).acknowledge .filterClogged].map
        (·.notice.serviceLamp.pattern) = [.double, .on, .off] := by decide +kernel

/-- ENTER_RUN with a Fault List that is not empty: everything fitted; a faulted FLAP; a faulted BLOWER; a map entry to
an UNUSED slot, good and faulted. -/
theorem witness_enter_run_with_faults :
    let faults := fun l => commissioned.onInteg fun u => { u with faultList := l }
    let toUnused := fun l => (faults l).onIntake fun u => { u with map := u.map.set 3 ⟨⟨true, 5, 1, 2, 256, 0, .drop⟩, []⟩ }
    (∀ l, (faults l).OnlyKnownDamage) ∧ (faults [.params]).TakesRequest ∧ (faults [.params]).integ.faultList ≠ [] ∧
      (faults [.params]).cmd.entries.flap.content.present = true ∧
      (faults [.params]).isFaulted (.actuator .flap) = false ∧
      (faults [.actuator .flap]).isFaulted (.actuator .flap) = true ∧
      (faults [.actuator .blower]).isFaulted (.actuator .blower) = true ∧
      (toUnused [.params]).intake.map[(3 : Fin 64)].content.valid = true ∧
      (toUnused [.params]).isFaulted (.slotSetup 2) = false ∧
      (toUnused [.params]).quantity.setups[(2 : Fin 32)].content.kind = .unused ∧
      (toUnused [.slotSetup 2]).isFaulted (.slotSetup 2) = true :=
  ⟨fun _ e _ => undamaged_commissioned.2 e, ⟨rfl, by decide, by decide⟩, by decide, by decide +kernel⟩

/-- ENTER_RUN from CONFIG leads to SHIELD, PARK and the pre-clean from SHIELD to PARK: each mode with its targets. -/
theorem test_mode_changes_hand_targets_over :
    let flap := fun t : State => ((t.cmd.delivery.get .flap).target, (t.cmd.delivery.get .flap).pendingValue, t.cmd.cmq)
    let run := exec (.enterRun (gateway 5)) commissioned
    seen (none, none, []) flap run = (some 0, some 0, [.flap, .blower]) ∧
      seen [] (fun t => t.timer.handovers) run = [⟨some .shield, none, none, none⟩] ∧
      seen ⟨.off, 9⟩ (fun t => t.notice.airLamp) run = ⟨.on, 0⟩ := by decide +kernel

/-- A command that persists already, at the limit. -/
theorem witness_persisting :
    let s := withPolicy .persist .continue_ ((sending .run .shield .waiting 4).onDelivery .flap fun d =>
      { d with outstanding := some ⟨9, 20, 4, .waiting, true⟩ })
    s.Undamaged ∧ s.alive = true ∧ (s.cmd.delivery.get .flap).outstanding = some ⟨9, 20, 4, .waiting, true⟩ ∧
      s.mgmt.params.content.timeoutAction = .persist ∧ s.mgmt.opState ≠ .parking ∧ s.NoWrap ∧
      (∀ i : Fin 4, s.tally.tallies[i].notify = true → s.tally.tallies[i].value.toNat + 4 < 2 ^ 32) := by
  refine ⟨undamaged_of_good (by decide +kernel), rfl, by decide, rfl, by decide, ?_, by decide +kernel⟩
  unfold State.NoWrap; decide +kernel

/-- Purge expiries under CO2_HIGH with SHIELD handed last, and a gap expiry that starts a purge: below the limit, at
the limit, and at the limit under CO2_HIGH. -/
theorem witness_purge_starts_again :
    let s := fun (co2High : Bool) (count : Nat) (purge : Option Nat) =>
      (timing true co2High count).onTimer fun t => { t with heldMode := .shield, purge := purge }
    (s true 1 (some 0)).Undamaged ∧ (s true 1 (some 0)).timer.purge.isSome = true ∧
      (s true 1 (some 0)).timer.heldMode = .shield ∧ (s true 1 (some 0)).timer.heldCo2High = true ∧
      (s true 1 (some 0)).mgmt.opState = .run ∧ (s true 1 (some 0)).timer.doorOpen = false ∧
      (s true 1 (some 0)).mgmt.params.content.enablesPurge = true ∧ (ajar (s true 1 (some 0))).timer.doorOpen = true ∧
      (s false 1 none).timer.gap.isSome = true ∧ (s false 1 none).timer.purge = none ∧
      (s false 2 none).timer.purgeCount < (s false 2 none).mgmt.params.content.purgeLimit ∧
      (s false 3 none).mgmt.params.content.purgeLimit ≤ (s false 3 none).timer.purgeCount ∧
      (s true 3 none).timer.heldCo2High = true ∧
      seen none (fun t => t.timer.purge) (exec .gapTimerExpiry (s false 1 none)) = some 90000 ∧
      seen (some 0) (fun t => t.timer.purge) (exec .gapTimerExpiry (s false 3 none)) = none := by
  refine ⟨undamaged_like rfl rfl rfl rfl rfl rfl rfl, ?_⟩
  decide +kernel

/-- Hand-overs of two changes: SHIELD with STUFFY true, and SEVERE true over a purge and a FRESH or RECIRC override. -/
theorem witness_handovers_of_two_changes :
    let both := fun (gap : Option Nat) => handed ⟨some .shield, some true, none, none⟩ false none gap
    let severe := fun (flap : FlapChoice) => (handed ⟨none, none, some true, none⟩ true (some 5) none).onTimer fun t =>
      { t with overrideTimer := some 7, overrideRecord := some ⟨flap, 3, 30, .panel⟩ }
    (both none).Undamaged ∧ (severe .fresh).Undamaged ∧
      (both none).timer.handovers = [⟨some .shield, some true, none, none⟩] ∧ (both none).timer.gap = none ∧
      (both (some 5)).timer.gap.isSome = true ∧ (both none).timer.heldCo2High = false ∧
      (severe .recirc).timer.overrideRecord = some ⟨.recirc, 3, 30, .panel⟩ ∧
      (severe .fresh).timer.purge.isSome = true ∧ (severe .fresh).timer.heldCo2High = false ∧
      (severe .fresh).mgmt.params.content.severeStop = true ∧
      seen none (fun t => t.timer.purge) (exec .controllerHandover (both none)) = some 90000 ∧
      seen (some 0, none, none) (fun t => (t.timer.purge, t.timer.gap, (t.noticeRecord .overrideCancelled).detail))
        (exec .controllerHandover (severe .fresh)) = (none, some 300000, some (.origin .panel)) := by
  refine ⟨undamaged_like rfl rfl rfl rfl rfl rfl rfl, undamaged_like rfl rfl rfl rfl rfl rfl rfl, ?_⟩
  decide +kernel

/-- Scrub steps whose read of the parameters finds it at the scrub position, faulted, and damaged. -/
theorem witness_scrub_steps_at_the_parameters :
    let s := fun (cells : List Nat) (faults : List EntryId) => (State.reset.setFlips .params cells).onInteg fun u =>
      { u with scrubPos := 111, scrubTimer := some 0, faultList := faults }
    EntryId.atScrubPos (s [] []).integ.scrubPos = .params ∧ (s [] []).alive = true ∧
      (s [] []).integ.scrubTimer.isSome = true ∧ (s [] [.params]).isFaulted .params = true ∧
      ((s [] []).flips .params).length = 0 ∧ ((s [1] []).flips .params).length = 1 ∧
      2 ≤ ((s [1, 2] []).flips .params).length ∧ (s [1, 2] []).isFaulted .params = false ∧
      (s [] []).mgmt.params.content.scrubInterval ≠ 0 := by decide +kernel

/-- Readings whose lookup finds the map entry damaged, and whose delivery finds the setup so, of a role slot and not. -/
theorem witness_readings_that_find_damage :
    let entry := mapped.setFlips (.channelMap 3) [1, 2]
    let setup := mapped.setFlips (.slotSetup 2) [1, 2]
    let role := setup.onCtrl fun c => { c with bindings := { c.bindings with outPm := some 2 } }
    let f := sent 1 5 .sample 9 [1, 0, 0, 7]
    entry.NewDamage (.channelMap 3) ∧ setup.NewDamage (.slotSetup 2) ∧ role.NewDamage (.slotSetup 2) ∧
      entry.KeyAt 5 1 3 ∧ setup.KeyAt 5 1 3 ∧ entry.NoWrap ∧ setup.NoWrap ∧
      (entry.alive = true ∧ entry.mgmt.opState ≠ .parked ∧ entry.port.dnRx = .taking ∧ classify (took f) = .good f ∧
        readingsOf f.payload = some [⟨1, .ok, 7⟩] ∧ entry.isFaulted (.channelMap 3) = false) ∧
      setup.intake.dyn[(3 : Fin 64)].lastTag ≠ some 9 ∧ setup.quantity.slots[(2 : Fin 32)].status ≠ .fault ∧
      role.ctrl.bindings.get .outPm = some 2 ∧ (∀ r, setup.ctrl.bindings.get r ≠ some 2) := by
  refine ⟨newDamage_of_only (by decide) (by decide +kernel), newDamage_of_only (by decide) (by decide +kernel),
    newDamage_of_only (by decide) (by decide +kernel), by unfold State.KeyAt; decide +kernel,
    by unfold State.KeyAt; decide +kernel, by unfold State.NoWrap; decide +kernel, by unfold State.NoWrap; decide +kernel,
    by decide +kernel, by decide +kernel, by decide +kernel, by decide +kernel, ?_⟩
  intro r; cases r <;> decide +kernel

/-- A wake with a frame under way on UP: START and then MODE_CHANGE join RPQ, and the UP receiver waits for idle. -/
theorem test_wake_sends_start_first :
    let s := ((heard (settled .parked .park false true)).onPort fun p => { p with rpq := [] }).onNotice fun n =>
      { n with records := n.records.map fun r => { r with pending := false, masked := false } }
    seen [] (fun t => t.port.rpq.map (·.payload.take 1)) (exec (.upArrival (took (sent 1 0 .manage 9 [32])) ⟨true, false⟩) s) =
        [[0], [1]] ∧
      seen .taking (fun t => t.port.upRx) (exec (.upArrival (took (sent 1 0 .manage 9 [32])) ⟨true, false⟩) s) =
        .waitingIdle := by decide +kernel

/-! ### The bytes of read replies (R198) and the order of notices (R156, R171) -/

/-- The payload of the newest frame of RPQ after a request of the gateway. -/
def lastReply (i : Instr) (s : State) : List Byte :=
  seen [] (fun t => ((t.port.rpq.getLast?).map (·.payload)).getD []) (exec i s)

theorem test_read_state_bytes :
    lastReply (.readState (gateway 0) 0) (ajar (at_ .run .shield)) = [0, 1, 1, 1, 1, 0, 0, 1, 0, 0, 0, 0] ∧
      lastReply (.readState (gateway 0) 1)
        (State.reset.onTimer fun t =>
          { t with gap := some 300001, overrideTimer := some 30000, overrideRecord := some ⟨.recirc, 3, 600, .panel⟩ }) =
        [0, 65, 0, 0, 0, 1, 1, 45, 0, 0, 0, 1, 0, 30, 0, 1, 1, 3, 2, 88, 1] ∧
      lastReply (.readState (gateway 0) 2) State.reset = [0, 129, 0, 0, 2, 0, 0, 0, 0, 0, 0, 1, 0, 0] := by decide +kernel

theorem test_read_slot_bytes :
    lastReply (.readSlot (gateway 0) 0 2) (slotted .monitor 5 .fresh (some 10) (some (-2)) 2) =
      [0, 2, 1, 0, 0, 0, 100, 0, 5, 10, 1, 0, 1, 1, 0, 10, 0, 1, 255, 254, 2, 0, 0, 2] ∧
      lastReply (.readSlot (gateway 0) 1 2) State.reset = [0, 66, 0, 0, 0, 0, 0, 1, 0, 0, 0, 0, 0, 1, 0] ∧
      lastReply (.readHistory (gateway 0) 2) (slotted .monitor 5 .fresh (some 10) none 2) = [0, 3, 2, 0, 10, 0, 30] := by
  decide +kernel

theorem test_read_table_bytes :
    lastReply (.readMap (gateway 0) 3) (ruled (.thin 5) 2 (some 9)) = [0, 4, 1, 5, 1, 2, 1, 0, 0, 0, 2, 5, 2, 1, 9, 0] ∧
      lastReply (.readMode (gateway 0) 5) State.reset = [0, 9, 100, 8, 0, 1] ∧
      lastReply (.readRecovery (gateway 0) 2) (scrubbing [] [.recovery 2]) = [0, 11, 0, 0, 0, 0, 1] ∧
      lastReply (.readParam (gateway 0) 6) State.reset = [0, 15, 1, 44, 0] := by decide +kernel

theorem test_read_actuator_bytes :
    lastReply (.readActuator (gateway 0) 0) (roomy (sending .run .shield .waiting 2)) =
        [0, 13, 1, 4, 0, 1, 20, 0, 0, 0, 1, 9, 20, 2, 2, 0, 0, 0, 0, 0, 0, 0, 0, 0] ∧
      lastReply (.readActuator (gateway 0) 0) (roomy queued) =
        [0, 13, 1, 4, 0, 1, 20, 1, 20, 1, 0, 0, 0, 0, 0, 0, 0, 0, 0, 0, 0, 0, 0, 0] := by decide +kernel

theorem test_read_notice_and_fault_bytes :
    lastReply (.readNotices (gateway 0) 0) State.reset =
        [0, 23, 17, 1, 0, 0, 0, 2, 0, 0, 0, 0, 0, 0, 0, 0, 0, 0, 0, 0, 0, 0] ∧
      lastReply (.readNotices (gateway 0) 3) (escalating 9) =
        [0, 215, 0, 0, 0, 0, 0, 25, 1, 255, 0, 0, 1, 4, 0] ∧
      lastReply (.tallyRead (gateway 0) 3) (State.reset.onTally fun u => { u with tallies := u.tallies.set 3 fullTally }) =
        [0, 26, 255, 255, 255, 255, 0, 2, 1, 1, 255, 1] ∧
      lastReply (.readFaults (gateway 0)) (scrubbing [] [.recovery 2, .params]) =
        [0, 29, 2, 3, 2, 5, 0, 0, 0, 105, 1] := by decide +kernel

/-- RX_GOOD of a request's frame wraps a tally: the reply stands in RPQ before the TALLY_OVERFLOW notice (R156). -/
theorem test_reply_joins_before_the_overflow_notice :
    let u : Tally := ⟨0xFFFFFFFF, .frames, 1, 0x1FF, true, false, false⟩
    let s := (heard State.reset).onTally fun t => { t with tallies := t.tallies.set 1 u }
    seen [] (fun t => t.port.rpq.map (·.kind)) (exec (.upArrival (took (sent 1 0 .manage 9 [30])) idle) s) =
      [.notice, .reply, .notice] := by decide +kernel

/-- Tally 3 wraps at the first sub-event of an event and tally 0 at the second: the detail is 3 (R171). -/
theorem test_overflow_notices_in_index_order :
    let u := fun (m : Byte) => (⟨0xFFFFFFFF, .frames, m, 0x1FF, true, false, false⟩ : Tally)
    let s := (packed (heard State.reset)).onTally fun t => { t with tallies := (t.tallies.set 3 (u 1)).set 0 (u 8) }
    seen (none, 0) (fun t => ((t.noticeRecord .tallyOverflow).detail, (t.noticeRecord .tallyOverflow).count))
      (exec (.upArrival (took (sent 5 0 .reply 9 [0])) idle) s) = (some (.tally 3), 2) := by decide +kernel

/-- With a stale limit of 10 s the age stands at 9 as the timer runs out, and reaches 10 with the status STALE (R31). -/
theorem test_age_stays_below_the_limit_while_fresh :
    let s := State.reset.onSlot 2 fun sl =>
      { sl with status := .fresh, value := some 5, age := 9, agePart := 999, staleTimer := some 1 }
    seen (.empty, 0) (fun t => (t.quantity.slots[(2 : Fin 32)].status, t.quantity.slots[(2 : Fin 32)].age)) (step s) =
        (.fresh, 9) ∧
      seen (.empty, 0) (fun t => seen (.empty, 0)
        (fun t => (t.quantity.slots[(2 : Fin 32)].status, t.quantity.slots[(2 : Fin 32)].age)) (step t)) (step s) =
        (.stale, 10) := by decide +kernel

/-- A reading taken before a stale expiry that waits leaves that expiry nothing to do (R42). -/
theorem test_reading_before_a_waiting_expiry :
    let s := (mapped.onSlot 2 fun sl => { sl with status := .fresh, staleTimer := some 0 })
    seen .empty (fun t => seen .empty (fun t => t.quantity.slots[(2 : Fin 32)].status) (step t))
      (step { s with pending := [.dnArrival (took (sent 1 5 .sample 9 [1, 0, 0, 7])), .staleTimerExpiry 2] }) =
      .fresh := by decide +kernel

/-! ### Readings at every port, rewrites of damaged entries, reports before a change of the state -/

/-- SAMPLE frames at node 1 on DN and on UP, and passing for nodes 0 and 63, also at a full FWQ; what the forward rules
then call for. -/
theorem witness_samples_at_every_port :
    let s := ruled .pass 0 none
    let f := fun dest : Byte => sent dest 5 .sample 9 [1, 0, 0, 7]
    s.SampleArrives (.upArrival (took (f 1)) idle) (f 1) false ∧
      (∀ d ∈ [(0 : Byte), 63], s.SampleArrives (.dnArrival (took (f d))) (f d) true ∧
        (packed s).SampleArrives (.dnArrival (took (f d))) (f d) true) ∧
      (packed s).KeyAt 5 1 3 ∧ (packed s).Undamaged ∧ 16 ≤ (packed s).port.fwq.length ∧ s.port.fwq.length < 16 ∧
      s.forwardDue 3 true = (0, true) ∧ s.forwardDue 3 false = (0, false) ∧
      (ruled (.thin 2) 1 none).forwardDue 3 true = (0, true) ∧
      (ruled (.thin 3) 1 none).forwardDue 3 true = (2, false) ∧ mapped.forwardDue 3 true = (0, false) := by
  refine ⟨⟨rfl, _, by decide +kernel, .inr (.inl ⟨⟨_, rfl⟩, rfl, rfl, rfl⟩)⟩, fun d hd => ?_,
    by unfold State.KeyAt; decide +kernel, undamaged_of_good (by decide +kernel), by decide +kernel⟩
  simp only [List.mem_cons, List.not_mem_nil, or_false] at hd
  rcases hd with rfl | rfl
  all_goals
    refine ⟨⟨rfl, _, by decide +kernel, .inr (.inr ⟨rfl, rfl, ?_, ?_, ?_, rfl⟩)⟩,
      ⟨rfl, _, by decide +kernel, .inr (.inr ⟨rfl, rfl, ?_, ?_, ?_, rfl⟩)⟩⟩ <;> decide +kernel

/-- The SAMPLE frame of the gateway to node 1 on UP does to its slot what one on DN does. -/
theorem test_sample_on_up_reaches_its_slot :
    let s := (ruled .pass 0 none).onIntake fun u => { u with map := u.map.set 3 ⟨⟨true, 0, 1, 2, 256, 0, .pass⟩, []⟩ }
    seen (none, 0) (fun t => (t.quantity.slots[(2 : Fin 32)].value, t.port.fwq.length))
      (exec (.upArrival (took (sent 1 0 .sample 9 [1, 0, 0, 7])) idle) s) = (some 7, 0) := by decide +kernel

/-- Faults known, over tables that are good otherwise. -/
def faultyWith (l : List EntryId) (s : State) : State := s.onInteg fun u => { u with faultList := l }

theorem onlyKnownDamage_of_good {s : State} (l : List EntryId) (h : tablesGood s = true) :
    (faultyWith l s).OnlyKnownDamage := fun e _ => (undamaged_of_good h).2 e

/-- Map entries to be rewritten: faulted, the only fault and not, damaged in two places; and a key held elsewhere. -/
theorem witness_rewrites_of_map_entries :
    let faulted := fun l => faultyWith l mapped
    let damaged := mapped.setFlips (.channelMap 7) [1, 2]
    (∀ l, (faulted l).TakesRequest ∧ (faulted l).mgmt.opState = .config ∧ (faulted l).OnlyKnownDamage) ∧
      (faulted [.channelMap 7]).isFaulted (.channelMap 7) = true ∧ damaged.TakesRequest ∧
      damaged.mgmt.opState = .config ∧ damaged.NewDamage (.channelMap 7) ∧ (7 : Byte).toNat = (7 : Fin 64).val ∧
      (31 : Byte).toNat = (31 : Fin 32).val ∧ (15 : Byte).toNat ≤ 15 ∧
      (∀ j : Fin 64, ¬(j ≠ 7 ∧ mapped.isFaulted (.channelMap j) = false ∧ mapped.intake.map[j].content.valid = true ∧
        mapped.intake.map[j].content.source = 62 ∧ mapped.intake.map[j].content.channel = 15)) ∧
      ((3 : Fin 64) ≠ 7 ∧ (faulted [.channelMap 7]).isFaulted (.channelMap 3) = false ∧
        mapped.intake.map[(3 : Fin 64)].content = ⟨true, 5, 1, 2, 256, 0, .drop⟩) :=
  ⟨fun l => ⟨⟨rfl, fun h => OpState.noConfusion h, show 1 < 8 by decide⟩, rfl, onlyKnownDamage_of_good l (by decide +kernel)⟩, by decide,
    ⟨rfl, by decide, by decide⟩, rfl, newDamage_of_only (by decide) (by decide +kernel), by decide +kernel⟩

/-- Slot setups to be rewritten: faulted, damaged in one place, and in two at a slot that OUT_PM names. -/
theorem witness_rewrites_of_slot_setups :
    let s := fun cells l => faultyWith l ((State.reset.setFlips (.slotSetup 3) cells).onCtrl fun c =>
      { c with bindings := { c.bindings with outPm := some 3 } })
    (∀ cells l, (s cells l).TakesRequest ∧ (s cells l).mgmt.opState = .config ∧
      (l.contains .params = false → (s cells l).ParamsGood)) ∧
      (s [] [.slotSetup 3]).isFaulted (.slotSetup 3) = true ∧ (s [1] []).isFaulted (.slotSetup 3) = false ∧
      ((s [1] []).flips (.slotSetup 3)).length = 1 ∧ 2 ≤ ((s [1, 2] []).flips (.slotSetup 3)).length ∧
      (s [1, 2] []).integ.faultList.length < 8 ∧ (s [1, 2] []).quantity.slots[(3 : Fin 32)].status ≠ .fault ∧
      (s [1, 2] []).ctrl.bindings.get .outPm = some 3 ∧ State.reset.ctrl.bindings.outPm = none ∧
      (∀ r j, SlotKind.role .outPm = .role r → (s [1, 2] []).ctrl.bindings.get r = some j → ¬j ≠ 3) ∧
      SlotKind.ofCode 2 = some (.role .outPm) := by
  refine ⟨fun cells l => ⟨⟨rfl, fun h => OpState.noConfusion h, show 1 < 8 by decide⟩, rfl, fun h => ⟨h, rfl⟩⟩,
    by decide, by decide, by decide +kernel, by decide +kernel, by decide, by decide +kernel,
    rfl, rfl, fun r j hr hj => ?_, by decide⟩
  cases hr
  exact fun hne => hne (Option.some.inj hj).symm

/-- The parameters entry to be rewritten: faulted, in CONFIG and RUN, and damaged in one place and in two; values that
leave the window aligned and not. -/
theorem witness_rewrites_of_the_parameters :
    let s := fun cells l => faultyWith l (State.reset.setFlips .params cells)
    let run := fun cells l => faultyWith l ((roomy (at_ .run .shield)).setFlips .params cells)
    (∀ cells l, (s cells l).TakesRequest ∧ (run cells l).TakesRequest) ∧
      (∀ l, (s [] (.params :: l)).isFaulted .params = true ∧ (run [] (.params :: l)).isFaulted .params = true) ∧
      (s [1] []).isFaulted .params = false ∧ ((s [1] []).flips .params).length = 1 ∧
      2 ≤ ((s [1, 2] []).flips .params).length ∧ 2 ≤ ((run [1, 2] []).flips .params).length ∧
      (s [1, 2] [.recovery 0]).integ.faultList.length < 8 ∧
      (run [] []).mgmt.opState = .run ∧ paramRange 5 600 ∧ paramRange 6 1800 ∧ paramRange 11 63 ∧ ¬paramRange 11 64 ∧
      paramRange 0 0 ∧ 0 % PowerOn.params.windowSize = 0 ∧ paramRange 0 1 ∧ 1 % PowerOn.params.windowSize ≠ 0 := by
  refine ⟨fun _ _ => ⟨⟨rfl, fun h => OpState.noConfusion h, show 1 < 8 by decide⟩,
    ⟨rfl, fun h => OpState.noConfusion h, show 0 < 8 by decide⟩⟩, fun _ => ⟨?_, ?_⟩, ?_⟩
  · simp [faultyWith, State.isFaulted, State.onInteg]
  · simp [faultyWith, State.isFaulted, State.onInteg]
  · refine ⟨by decide, by decide, by decide, by decide, by decide, rfl, ?_⟩
    norm_num [paramRange, PowerOn.params]

/-- ENTER_CONFIG behind a waiting report, and behind an OVERRIDE of the panel. -/
theorem witness_reports_before_enter_config :
    let r : Report := .timers ⟨false, false, false, false, true⟩
    let w := (roomy (at_ .run .shield)).report r
    let s := panelled (roomy (at_ .run .shield))
    w.TakesRequest ∧ w.mgmt.opState = .run ∧ w.Undamaged ∧ w.ctrl.reports = [r] ∧
      (∃ u, exec (.controllerReport r.source) (w.answeredPlain 4 (codeByte 17 0) .done) = .next u) ∧
      s.TakesRequest ∧ s.TakesDnRequest ∧ s.mgmt.params.content.panelNode = (9 : Byte).toNat ∧ s.Undamaged ∧
      s.ctrl.reports = [] ∧ s.ctrl.mode ≠ .manual ∧ s.timer.heldSevere = false ∧ s.timer.doorOpen = false ∧
      s.ctrl.conditions = deriveConditions s.ctrl.bindings s.ctrl.slotViews ∧ s.ctrl.causes = ⟨false, false⟩ ∧
      deriveCauses s.mgmt.params.content.criticalRoles s.ctrl = ⟨false, false⟩ :=
  ⟨takesRequest_at _, rfl, undamaged_of_good (by decide +kernel), rfl, ⟨_, rfl⟩, ⟨rfl, by decide, by decide⟩,
    ⟨rfl, by decide, by decide, rfl, rfl⟩, rfl, undamaged_of_good (by decide +kernel), rfl, by decide, rfl, by decide,
    by decide +kernel, rfl, by decide +kernel⟩

/-- OVERRIDE, then ENTER_CONFIG: MANUAL is chosen and then SAFE, so MODE_CHANGE is raised twice (R152). -/
theorem test_override_then_enter_config :
    let s := panelled (roomy (at_ .run .shield))
    seen [] (fun s' => seen [] (fun t => t.timer.handovers.map (·.mode)) (exec (.enterConfig (gateway 4)) s'))
        (exec (.override (onDn 9 4) 1 3 30) s) = [some .manual, some .safe] ∧
      seen 0 (fun s' => seen 0 (fun t => (t.noticeRecord .modeChange).count) (exec (.enterConfig (gateway 4)) s'))
        (exec (.override (onDn 9 4) 1 3 30) s) = 2 := by decide +kernel

/-- Slot 2 with a faulted setup, named by OUT_PM and FAULT. -/
def faultedSlot (s : State) : State :=
  (faultyWith [.slotSetup 2] s).onSlot 2 (fun sl => { sl with status := .fault })
    |>.onCtrl fun c => { c with bindings := { c.bindings with outPm := some 2 }, faultsReported := true }

theorem onlyKnownDamage_faultedSlot {s : State} (h : tablesGood s = true) : (faultedSlot s).OnlyKnownDamage :=
  fun e _ => (undamaged_of_good h).2 e

/-- RESET, the completion of a parking and a wake with a faulted slot setup of a critical role. -/
theorem witness_emptyings_with_a_faulted_setup :
    let reset := faultedSlot (packed (at_ .parking .park))
    let park := faultedSlot ((at_ .parking .park).onCmd fun c => { c with completion := true })
    let wake := faultyWith [.slotSetup 2] ((at_ .parked .park).onPark fun k => { k with wakeTimer := some 0 })
      |>.onCtrl fun c => { c with causes := ⟨true, false⟩, faultsReported := true }
    (reset.OnlyKnownDamage ∧ reset.alive = true ∧ reset.mgmt.opState ≠ .parked ∧ reset.integ.faultList ≠ []) ∧
      (park.OnlyKnownDamage ∧ park.alive = true ∧ park.cmd.completion = true ∧ park.mgmt.opState = .parking ∧
        park.cmd.quiet = true ∧ park.ctrl.mode = .park ∧ park.ctrl.reports = []) ∧
      (wake.OnlyKnownDamage ∧ wake.alive = true ∧ wake.mgmt.opState = .parked ∧ wake.ctrl.mode = .park ∧
        wake.ctrl.reports = [] ∧ wake.ctrl.causes ≠ ⟨false, false⟩ ∧ wake.park.wakeTimer.isSome = true) ∧
      PowerOn.params.criticalRoles.getLsbD Role.outPm.bit = true ∧ reset.ctrl.bindings.get .outPm = some 2 ∧
      reset.isFaulted (.slotSetup 2) = true :=
  ⟨⟨onlyKnownDamage_faultedSlot (by decide +kernel), by decide⟩,
    ⟨onlyKnownDamage_faultedSlot (by decide +kernel), by decide +kernel⟩,
    ⟨onlyKnownDamage_of_good [.slotSetup 2] (s := (at_ .parked .park).onPark fun k => { k with wakeTimer := some 0 })
      (by decide +kernel), by decide +kernel⟩, by decide +kernel⟩

/-- A link reset and a parking empty a slot's own state also where the setup is faulted (R53); the slot is FAULT all the
same (R180), and as OUT_PM's it brings INPUT_LOST beside TABLE_FAULT (R11). -/
theorem test_faulted_slots_stay_fault_when_emptied :
    let shown := fun t : State => (t.quantity.slots[(2 : Fin 32)].status, (t.slotSeen 2).status, (t.slotSeen 1).status,
      t.ctrl.causes)
    seen (.fault, .fault, .fault, ⟨false, false⟩) shown (exec (.reset (gateway 3)) (faultedSlot (at_ .config .safe))) =
        (.empty, .fault, .empty, ⟨true, true⟩) ∧
      seen (.fault, .fault, .fault, ⟨false, false⟩) shown (exec .parkedEntry
        (faultedSlot ((at_ .parking .park).onCmd fun c => { c with completion := true }))) =
        (.empty, .fault, .empty, ⟨true, true⟩) := by decide +kernel

/-- Slot 2 emptied since its setup was found faulted, its stale timer run out; entry 3 of the map names it. -/
def emptiedSince : State :=
  (faultedSlot mapped).onSlot 2 (fun sl => { sl with status := .empty, staleTimer := some 0 })
    |>.onCtrl fun c => { c with bindings := { c.bindings with cabCo2 := some 5 } }

/-- The clauses over a slot emptied since the fault: READ_SLOT, WRITE_SLOT, WRITE_COMPARATOR, ENTER_RUN's check 3, the
stale timer. -/
theorem witness_faulted_slots_emptied_since :
    let sl := emptiedSince.quantity.slots[(2 : Fin 32)]
    emptiedSince.TakesRequest ∧ emptiedSince.alive = true ∧ emptiedSince.OnlyKnownDamage ∧ emptiedSince.ParamsGood ∧
      emptiedSince.integ.faultList ≠ [] ∧ emptiedSince.isFaulted .params = false ∧
      emptiedSince.mgmt.opState = .config ∧ emptiedSince.isFaulted (.slotSetup 2) = true ∧ sl.status ≠ .fault ∧
      sl.staleTimer = some 0 ∧ emptiedSince.ctrl.bindings.get .outPm = some 2 ∧
      emptiedSince.ctrl.bindings.cabCo2 ≠ none ∧ emptiedSince.intake.map[(3 : Fin 64)].content.valid = true ∧
      emptiedSince.isFaulted (.channelMap 3) = false ∧ emptiedSince.intake.map[(3 : Fin 64)].content.slot = 2 ∧
      emptiedSince.FaultListSound ∧ emptiedSince.FaultedSlotsAcceptNothing := by
  refine ⟨⟨rfl, by decide, by decide⟩, rfl, fun e _ => undamaged_mapped.2 e, ⟨by decide, by decide⟩, by decide,
    by decide, rfl, by decide, by decide +kernel, by decide +kernel, rfl, by decide, by decide +kernel, by decide,
    by decide +kernel, ⟨by decide, by decide⟩, ?_⟩
  unfold State.FaultedSlotsAcceptNothing
  decide +kernel

/-- Behind an emptying a slot with a faulted setup is FAULT, and what meets it there finds no fault a second time: no
notice and no report (R52, R180, R40). WRITE_SLOT alone ends it (R28). -/
theorem test_faulted_slots_emptied_since :
    let shown := fun t : State => ((t.slotSeen 2).status, (t.noticeRecord .inputLost).detail, t.ctrl.reports)
    [exec (.readSlot (gateway 3) 0 2) emptiedSince, exec (.writeComparator (gateway 3) 2 0 1 5 5 1) emptiedSince,
        exec (.enterRun (gateway 3)) emptiedSince, exec (.staleTimerExpiry 2) emptiedSince].map
        (seen (.fresh, none, []) shown) = List.replicate 4 (.fault, none, []) ∧
      seen (.fresh, none, []) shown (exec (.writeSlot (gateway 3) 2 2 0 9 1 10 0) emptiedSince) =
        (.empty, none, [.faultList false, .slot 2 ⟨.empty, false, false⟩]) := by decide +kernel

/-- READ_SLOT of a slot emptied since its setup was found faulted shows the faulted indication, and the status code of
FAULT (R50, R180, R198). -/
theorem test_read_slot_of_a_faulted_setup :
    (seen [] (fun t => t.port.rpq.map fun f => ((f.payload.drop 2).drop 9).take 2)
      (exec (.readSlot (gateway 3) 0 2) emptiedSince)).getLast? = some [1, 4] := by decide +kernel

/-- At a link reset the stale timer of a good setup starts by its limit; the kind and the limit of a faulted one are
not used (R53, R179; log entry 30). -/
theorem test_stale_timers_start :
    (faultedSlot mapped).staleStart 2 = some (((Config.freeStaleLimit 2).val + 1) * 1000) ∧
      mapped.staleStart 2 = some 10000 ∧ mapped.staleStart 3 = none := by
  refine ⟨?_, by decide +kernel, by decide +kernel⟩
  have h : (faultedSlot mapped).isFaulted (.slotSetup 2) = true := by decide
  simp only [State.staleStart, h, if_true]
  rfl

/-- A wake whose read of SCRUB_INTERVAL finds the parameters damaged in two places: SAFE, behind START and TABLE_FAULT
(R191). -/
theorem witness_wake_that_finds_damage :
    let s := (heard ((at_ .parked .park).setFlips .params [1, 2])).onPark fun k => { k with wakeTimer := some 0 }
    let f := sent 1 0 .manage 9 [32]
    s.alive = true ∧ s.mgmt.opState = .parked ∧ s.ctrl.mode = .park ∧ s.ctrl.reports = [] ∧ s.integ.faultList = [] ∧
      2 ≤ (s.flips .params).length ∧ (∀ e, e ≠ .params → s.flips e = []) ∧ s.park.wakeTimer.isSome = true ∧
      s.port.upRx = .taking ∧ classify (took f) = .good f ∧ f.dest = 1 ∧ f.kind = .manage ∧
      seen (.park, []) (fun t => (t.ctrl.mode, (t.port.rpq.drop s.port.rpq.length).map (·.payload.take 1)))
        (exec (.parkWakeTimerExpiry idle) (s.onNotice fun n =>
          { n with records := n.records.map fun r => { r with pending := false, masked := false } })) =
        (.safe, [[0], [13], [1]]) := by
  refine ⟨rfl, rfl, rfl, rfl, rfl, by decide, fun e he => ?_, rfl, rfl, by decide +kernel, rfl, rfl, by decide +kernel⟩
  cases e with
  | params => exact absurd rfl he
  | channelMap i => exact (undamaged_at .parked .park).2 (.channelMap i)
  | slotSetup i => exact (undamaged_at .parked .park).2 (.slotSetup i)
  | modeRecord i => exact (undamaged_at .parked .park).2 (.modeRecord i)
  | recovery i => exact (undamaged_at .parked .park).2 (.recovery i)
  | actuator a => exact (undamaged_at .parked .park).2 (.actuator a)

theorem witness_faulted_slots_accept_nothing :
    (faultedSlot State.reset).FaultListSound ∧ (faultedSlot State.reset).FaultedSlotsAcceptNothing ∧
      (faultedSlot State.reset).isFaulted (.slotSetup 2) = true ∧ ∃ t, step (faultedSlot State.reset) = .next t := by
  refine ⟨⟨by decide, by decide⟩, ?_, by decide, _, rfl⟩
  unfold State.FaultedSlotsAcceptNothing
  decide +kernel

/-- Hand-overs that start and stop nothing: of CO2_HIGH, of SEVERE false, of another mode, of STUFFY true in another
mode; a barred start and one at the limit; and SAFE, and STUFFY false without a purge and in one. -/
theorem witness_other_handovers :
    let w := fun (h : Handover) (purge : Option Nat) => handed h true purge (some 5)
    let other := (w ⟨none, some true, none, none⟩ none).onTimer fun t => { t with heldMode := .fresh }
    let full := fun t : State => t.onTimer fun u => { u with gap := none, purgeCount := 9 }
    (∀ h p, (w h p).Undamaged ∧ (w h p).alive = true ∧ (w h p).timer.handovers = [h] ∧ (w h p).mgmt.opState = .run) ∧
      ([⟨none, none, none, some true⟩, ⟨none, none, some false, none⟩, ⟨some .fresh, none, none, none⟩] :
        List Handover).all (fun h => h.severe != some true && h.stuffy != some false && h.mode != some .safe &&
          h.mode != some .shield) = true ∧
      other.timer.heldMode ≠ .shield ∧ (ajar (full (w ⟨some .shield, none, none, none⟩ none))).timer.doorOpen = true ∧
      (full (w ⟨some .shield, none, none, none⟩ none)).timer.heldStuffy = true ∧
      (full (w ⟨some .shield, none, none, none⟩ none)).timer.heldCo2High = false ∧
      (full (w ⟨some .shield, none, none, none⟩ none)).mgmt.params.content.purgeLimit ≤ 9 ∧
      (full (w ⟨some .shield, none, none, none⟩ none)).mgmt.params.content.enablesPurge = true ∧
      seen (0, none) (fun t => (t.timer.purgeCount, t.timer.purge))
        (exec .controllerHandover (full (w ⟨some .shield, none, none, none⟩ none))) = (3, none) ∧
      seen (none, some 1) (fun t => (t.timer.purge, t.timer.gap))
        (exec .controllerHandover (w ⟨some .safe, none, none, none⟩ (some 7))) = (none, none) ∧
      seen (none, some 1) (fun t => (t.timer.purge, t.timer.gap))
        (exec .controllerHandover (w ⟨none, some false, none, none⟩ none)) = (none, none) ∧
      seen (none, none) (fun t => (t.timer.purge, t.timer.gap))
        (exec .controllerHandover (w ⟨none, some false, none, none⟩ (some 7))) = (some 7, some 5) := by
  refine ⟨fun _ _ => ⟨undamaged_like rfl rfl rfl rfl rfl rfl rfl, rfl, rfl, rfl⟩, ?_⟩
  decide +kernel

end Sys2Proof.Tests
end

