-- ==== Sys2Proof/Proofs/Scaling.lean ====
section
/-! SUPPORT. The scaling of a reading (R61): what the clamp does in each range, division by 256 truncated toward zero
in both signs, and the range of a product of two 16-bit values. -/

namespace Sys2Proof.Machine

/-! ### The clamp -/

theorem clampValue_bounds (x : Int) : -32768 ≤ clampValue x ∧ clampValue x ≤ 32767 := by
  unfold clampValue
  omega

theorem clampValue_of_bounds {x : Int} (hlo : -32768 ≤ x) (hhi : x ≤ 32767) : clampValue x = x := by
  unfold clampValue
  rw [min_eq_right hhi, max_eq_right hlo]

theorem clampValue_of_above {x : Int} (h : 32767 < x) : clampValue x = 32767 := by
  unfold clampValue
  rw [min_eq_left h.le, max_eq_right (by decide)]

theorem clampValue_of_below {x : Int} (h : x < -32768) : clampValue x = -32768 :=
  max_eq_left ((min_le_right 32767 x).trans h.le)

/-! ### The quotient truncated toward zero -/

/-- A product that is not negative is rounded down. -/
theorem tdiv_256_of_nonneg {p q : Int} (hp : 0 ≤ p) (hlo : 256 * q ≤ p) (hhi : p < 256 * q + 256) :
    p.tdiv 256 = q := by
  rw [Int.tdiv_eq_ediv_of_nonneg hp, Int.ediv_eq_iff_of_pos (by decide)]
  omega

/-- A negative product is rounded up: its quotient is the negated quotient of its magnitude. -/
theorem tdiv_256_of_neg {p q : Int} (hp : p < 0) (hhi : p ≤ 256 * q) (hlo : 256 * q - 256 < p) :
    p.tdiv 256 = q := by
  have magnitude : (-p).tdiv 256 = -q := tdiv_256_of_nonneg (by omega) (by omega) (by omega)
  rw [Int.neg_tdiv] at magnitude
  exact neg_inj.mp magnitude

/-! ### The product of two 16-bit values -/

/-- For a fixed gain the product is extreme at the ends of the raw value's range, and which end is the greater turns
on the gain's sign. The lower bound is not `-32768 * 32768`: no 16-bit value is `32768`. -/
theorem mul_bounds_of_16bit {r g : Int} (hr : -32768 ≤ r ∧ r ≤ 32767) (hg : -32768 ≤ g ∧ g ≤ 32767) :
    -1073709056 ≤ r * g ∧ r * g ≤ 1073741824 := by
  obtain ⟨rlo, rhi⟩ := hr
  rcases le_total 0 g with gpos | gneg
  · have least : -32768 * g ≤ r * g := mul_le_mul_of_nonneg_right rlo gpos
    have greatest : r * g ≤ 32767 * g := mul_le_mul_of_nonneg_right rhi gpos
    omega
  · have least : 32767 * g ≤ r * g := mul_le_mul_of_nonpos_right rhi gneg
    have greatest : r * g ≤ -32768 * g := mul_le_mul_of_nonpos_right rlo gneg
    omega

/-! ### The engineering value -/

theorem scale_bounds (r g o : Int) : -32768 ≤ scale r g o ∧ scale r g o ≤ 32767 :=
  clampValue_bounds _

/-- Where the truncated quotient is known and the sum is a 16-bit value, the sum is the engineering value. -/
theorem scale_of_tdiv {r g o q : Int} (hq : (r * g).tdiv 256 = q) (hlo : -32768 ≤ q + o) (hhi : q + o ≤ 32767) :
    scale r g o = q + o := by
  unfold scale
  rw [hq]
  exact clampValue_of_bounds hlo hhi

/-- Gain 256 is a factor of one: with offset 0 the raw value passes unchanged. -/
theorem scale_gain_256 {r : Int} (hr : -32768 ≤ r ∧ r ≤ 32767) : scale r 256 0 = r := by
  have quotient : (r * 256).tdiv 256 = r := Int.mul_tdiv_cancel r (by decide)
  simpa using scale_of_tdiv (o := 0) quotient (by omega) (by omega)

/-- Gain 0 gives the offset whatever the raw value. -/
theorem scale_gain_0 (r : Int) {o : Int} (ho : -32768 ≤ o ∧ o ≤ 32767) : scale r 0 o = o := by
  have quotient : (r * 0).tdiv 256 = 0 := by simp
  simpa using scale_of_tdiv (o := o) quotient (by omega) (by omega)

/-- Settles O15: each part is the rule of R61 for one range of the product or of the sum. -/
theorem scalingTruncatesTowardZeroAndClamps : Obligations.ScalingTruncatesTowardZeroAndClamps := by
  intro r g o
  refine ⟨scale_bounds r g o, scale_gain_256, scale_gain_0 r, mul_bounds_of_16bit, ?nonneg, ?neg,
    clampValue_of_above, clampValue_of_below⟩
  case nonneg =>
    intro q hp hlo hhi
    exact scale_of_tdiv (tdiv_256_of_nonneg hp hlo hhi)
  case neg =>
    intro q hp hhi hlo
    exact scale_of_tdiv (tdiv_256_of_neg hp hhi hlo)

end Sys2Proof.Machine
end

