-- ==== Sys2Proof/Proofs/Check.lean ====
section
/-! SUPPORT. The CHECK of a frame (R120): its register bit by bit and byte by byte, the bytes of a frame judged good
(R122), and what an offer to a frame queue can bring into it (R128). -/

namespace Sys2Proof.Machine

/-! ### The register of the CHECK -/

/-- The register's top bit is bit 15, and the terms applied are those of x^12, x^5 and 1. -/
theorem checkBit_eq_getLsbD (reg : Word16) (bit : Bool) :
    checkBit reg bit =
      if (reg.getLsbD 15 ^^ bit) = true then (reg <<< 1) ^^^ 0b0001000000100001 else reg <<< 1 := by
  have top : reg.msb = reg.getLsbD 15 := BitVec.msb_eq_getLsbD_last reg
  simp only [checkBit, top, Bool.bne_eq_xor]

theorem checkOf_concat (bs : List Byte) (b : Byte) : checkOf (bs ++ [b]) = checkByte (checkOf bs) b :=
  List.foldl_concat ..

theorem checkOf_nine_digits :
    checkOf [0x31, 0x32, 0x33, 0x34, 0x35, 0x36, 0x37, 0x38, 0x39] = 0x29B1 := by
  decide +kernel

/-! ### Frames built and frames judged good -/

/-- The CHECK a built frame carries is over its own bytes: setting it changes none of those it covers (R129). -/
theorem buildFrame_check (dest : Byte) (kind : FrameKind) (tag : Byte) (payload : List Byte) :
    (buildFrame dest kind tag payload).check = checkOf (buildFrame dest kind tag payload).covered := by
  simp only [buildFrame, Frame.covered]

/-- A two-byte field goes back on the line as the bytes it was joined from. -/
theorem word16Bytes_joinWord16 (hi lo : Byte) : word16Bytes (joinWord16 hi lo) = [hi, lo] := by
  have high : (hi ++ lo).extractLsb' 8 8 = hi := BitVec.extractLsb'_append_eq_left
  have low : (hi ++ lo).extractLsb' 0 8 = lo := BitVec.extractLsb'_append_eq_right
  simp only [word16Bytes, joinWord16, high, low]

theorem byteOf_toNat (b : Byte) : byteOf b.toNat = b := BitVec.ofNat_toNat 8 b

/-- A KIND byte that names a kind is that kind's code. -/
theorem FrameKind.code_of_ofCode {n : Nat} {k : FrameKind} (h : FrameKind.ofCode n = some k) : k.code = n := by
  unfold FrameKind.ofCode at h
  split at h <;> cases h <;> rfl

/-- Fields judged good make up a frame whose covered bytes are the ones received. -/
theorem judgeFields_good {dest src kind tag len : Byte} {payload : List Byte} {check : Word16} {f : Frame}
    (h : judgeFields dest src kind tag len payload check = .good f) :
    f.covered = dest :: src :: kind :: tag :: len :: payload ∧ f.check = check := by
  unfold judgeFields at h
  split at h
  · cases h
  next fits =>
    have ⟨_, lenEq⟩ : len.toNat ≤ 24 ∧ payload.length = len.toNat := by simpa using fits
    split at h
    · cases h
    · split at h
      · cases h
      next k named =>
        split at h
        · cases h
          simp only [Frame.covered, FrameKind.code_of_ofCode named, lenEq, byteOf_toNat, and_self]
        · cases h

/-- What is behind a good judgment: five header bytes, a payload and a CHECK that holds over them. -/
theorem classify_good {r : Reception} {f : Frame} (h : classify r = .good f) :
    ∃ dest src kind tag len payload hi lo,
      r.bytes = dest :: src :: kind :: tag :: len :: payload ++ [hi, lo] ∧
      checkOf (dest :: src :: kind :: tag :: len :: payload) = joinWord16 hi lo ∧
      judgeFields dest src kind tag len payload (joinWord16 hi lo) = .good f := by
  unfold classify at h
  split at h
  · cases h
  split at h
  · cases h
  split at h
  · cases h
  dsimp only at h
  split at h
  next hi lo lastTwo =>
    split at h
    · cases h
    next holds =>
      split at h
      next dest src kind tag len payload front =>
        refine ⟨dest, src, kind, tag, len, payload, hi, lo, ?_, ?_, h⟩
        · rw [← front, ← lastTwo, List.take_append_drop]
        · simpa [front] using holds
      · cases h
  · cases h

/-- A good frame is the bytes received, its CHECK the one over the bytes before it. -/
theorem wire_and_check_of_classify_good {r : Reception} {f : Frame} (h : classify r = .good f) :
    f.wire = r.bytes ∧ f.check = checkOf f.covered := by
  obtain ⟨dest, src, kind, tag, len, payload, hi, lo, bytes, holds, judged⟩ := classify_good h
  obtain ⟨covered, check⟩ := judgeFields_good judged
  refine ⟨?_, ?_⟩
  · rw [Frame.wire, covered, check, word16Bytes_joinWord16, bytes]
  · rw [covered, check, holds]

/-! ### Frames passed on -/

/-- An offer brings no frame into a queue but the one offered, as it is. -/
theorem mem_offer {n : Nat} {q : List Frame} {f g : Frame} (h : g ∈ offer n q f) : g = f ∨ g ∈ q := by
  rcases offer_spec n q f with ⟨_, joined⟩ | ⟨_, lost⟩
  · rw [joined, List.mem_append, List.mem_singleton] at h
    exact h.symm
  · exact .inr (lost ▸ h)

theorem State.offerPtq_ptq (s : State) (f : Frame) :
    (s.offerPtq f).port.ptq = offer ptqCapacity s.port.ptq f := by
  rcases Nat.lt_or_ge s.port.ptq.length ptqCapacity with room | full
  · rw [State.offerPtq_room room, offer_of_room room, State.onPort_port]
  · rw [State.offerPtq_full full, offer_of_full full, State.raiseRecord_ptq, State.count_ptq]

theorem State.offerFwq_fwq (s : State) (f : Frame) :
    (s.offerFwq f).port.fwq = offer fwqCapacity s.port.fwq f := by
  rcases Nat.lt_or_ge s.port.fwq.length fwqCapacity with room | full
  · rw [State.offerFwq_room room, offer_of_room room, State.onPort_port]
  · rw [State.offerFwq_full full, offer_of_full full, State.raiseRecord_fwq, State.count_fwq]

/-- Settles O6: the register's rules, the frames built and received, and the frames that wait in PTQ and FWQ. -/
theorem checkOfTheNineDigits : Obligations.CheckOfTheNineDigits := by
  refine ⟨checkOf_nine_digits, rfl, checkOf_concat, fun _ _ => rfl, checkBit_eq_getLsbD,
    buildFrame_check, fun _ _ => wire_and_check_of_classify_good, fun s f => ⟨?ptq, ?fwq⟩⟩
  case ptq => exact fun g h => mem_offer (s.offerPtq_ptq f ▸ h)
  case fwq => exact fun g h => mem_offer (s.offerFwq_fwq f ▸ h)

end Sys2Proof.Machine
end

section
/-! SUPPORT. Work followed with a precondition of its own: what it leaves when it goes on and what a wipe leaves, and the
checked reads under that rule. -/

namespace Sys2Proof.Machine

open Sys2Proof

/-! ### Work from a condition -/

/-- From P, work that goes on leaves J, work that ends in a wipe leaves E. -/
def Act.Leads {α : Type} (P J E : State → Prop) (a : Act α) : Prop :=
  Act.Triple (fun v => P v.state) a (fun _ v => J v.state) (fun v => E v.state)

namespace Act.Leads

variable {α β : Type} {P P' M J J' E : State → Prop}

theorem pure (h : ∀ s, P s → J s) (x : α) : Act.Leads P J E (Pure.pure x : Act α) := fun v hv => h v.state hv

theorem look (h : ∀ s, P s → J s) (f : State → α) : Act.Leads P J E (Machine.look f) := fun v hv => h v.state hv

theorem upd {f : State → State} (h : ∀ s, P s → J (f s)) : Act.Leads P J E (Machine.upd f) := fun v hv => h v.state hv

theorem bind {a : Act α} {f : α → Act β} (ha : Act.Leads P M E a) (hf : ∀ x, Act.Leads M J E (f x)) :
    Act.Leads P J E (a >>= f) := Act.triple_bind ha hf

/-- The value looked at is one the state then has. -/
theorem look_bind {f : State → α} {g : α → Act β} (h : ∀ x, Act.Leads (fun s => P s ∧ f s = x) J E (g x)) :
    Act.Leads P J E (Machine.look f >>= g) := fun v hv => by
  rw [Act.bind_ok (Act.look_run f v)]
  exact h (f v.state) v ⟨hv, rfl⟩

theorem upd_bind {f : State → State} {g : Unit → Act β} (h : ∀ s, P s → M (f s)) (hg : Act.Leads M J E (g ())) :
    Act.Leads P J E (Machine.upd f >>= g) := bind (upd h) fun _ => hg

theorem mono {a : Act α} (h : Act.Leads P J E a) (hp : ∀ s, P' s → P s) (hj : ∀ s, J s → J' s) :
    Act.Leads P' J' E a := Act.triple_mono h (fun v => hp v.state) (fun _ v => hj v.state) fun _ he => he

theorem pre {a : Act α} (h : Act.Leads P J E a) (hp : ∀ s, P' s → P s) : Act.Leads P' J E a := mono h hp fun _ hj => hj

theorem post {a : Act α} (h : Act.Leads P J E a) (hj : ∀ s, J s → J' s) : Act.Leads P J' E a := mono h (fun _ hp => hp) hj

theorem onlyIf {a : Act Unit} {c : Bool} (h : c = true → Act.Leads P J E a) (hn : ∀ s, P s → J s) :
    Act.Leads P J E (Machine.onlyIf c a) := by
  cases c
  · exact pure hn ()
  · exact h rfl

theorem ite {a b : Act α} {c : Prop} [Decidable c] (h : c → Act.Leads P J E a) (hn : ¬ c → Act.Leads P J E b) :
    Act.Leads P J E (if c then a else b) := by
  split
  · exact h ‹_›
  · exact hn ‹_›

theorem forAll {f : α → Act Unit} (h : ∀ x, Act.Leads J J E (f x)) (xs : List α) : Act.Leads J J E (Machine.forAll xs f) := by
  induction xs with
  | nil => exact pure (fun _ h => h) ()
  | cons x xs ih => exact bind (h x) fun _ => ih

theorem give (h : ∀ (s : State) (f : TallyUnit → TallyUnit), P s → J (s.onTally f)) (e : SubEvent) :
    Act.Leads P J E (Machine.give e) := fun v hv => by
  simpa only [Act.give_run, Event.give_state] using h v.state _ hv

theorem raiseOwed (h : ∀ (s : State) (d : Detail), J s → J (s.raiseRecord .tallyOverflow d)) :
    Act.Leads J J E Machine.raiseOwed := fun _ hv => Event.settled_keep h hv

theorem wipeNow (hr : ∀ (s : State) (d : Detail), P s → P (s.raiseRecord .tallyOverflow d))
    (h : ∀ s, P s → E s.tableWipe) : Act.Leads P J E (Machine.wipeNow : Act α) :=
  fun v hv => h v.settled (Event.settled_keep hr hv)

/-- What holds beside the condition, whatever the state, can be taken out of it. -/
theorem and_const {a : Act α} {q : Prop} (h : q → Act.Leads P J E a) : Act.Leads (fun s => P s ∧ q) J E a :=
  fun v hv => h hv.2 v hv.1

theorem keeps {I : State → Prop} {a : Act α} (h : Act.Leads I I I a) : Act.Keeps I a := by
  intro v hv
  have h := h v hv
  revert h
  cases a v <;> exact id

end Act.Leads

/-! ### Checked reads -/

@[simp] theorem State.setFlips_isFaulted (e x : EntryId) (c : List Nat) (s : State) :
    (s.setFlips e c).isFaulted x = s.isFaulted x := by simp [State.isFaulted]

@[simp] theorem State.correct_isFaulted (e x : EntryId) (s : State) : (s.correct e).isFaulted x = s.isFaulted x := by
  simp [State.isFaulted, State.correct]

/-- What a checked read other than that of a slot setup does to a state, one change at a time. -/
structure ReadKeeps (J E : State → Prop) : Prop where
  correct : ∀ s e, J s → J (s.correct e)
  raise : ∀ s k d, J s → J (s.raiseRecord k d)
  escalate : ∀ s k n, J s → J (s.startEscalation k n)
  wipe : ∀ s, J s → E s.tableWipe
  join : ∀ s e, (∀ i, e ≠ .slotSetup i) → J s → s.isFaulted e = false →
    s.integ.faultList.length < faultListCapacity → J (s.joinFaultList e)

namespace ReadKeeps

variable {J E : State → Prop}

theorem raiseWith (h : ReadKeeps J E) (s : State) (n : Nat) (k : NoticeKind) (d : Detail) (hs : J s) :
    J (s.raiseWith n k d) := by
  simp only [State.raiseWith]
  split
  · exact h.escalate _ _ _ (h.raise _ _ _ hs)
  · exact h.raise _ _ _ hs

theorem wipeNow {α : Type} (h : ReadKeeps J E) : Act.Leads J J E (Machine.wipeNow : Act α) :=
  .wipeNow (fun s d => h.raise s _ d) h.wipe

theorem raiseOwed (h : ReadKeeps J E) : Act.Leads J J E Machine.raiseOwed := .raiseOwed fun s d => h.raise s _ d

theorem checkParams (h : ReadKeeps J E) : Act.Leads J J E Machine.checkParams := by
  refine .look_bind fun faulted => .ite (fun _ => .pure (fun _ hs => hs.1) _) fun off => .look_bind fun places => ?_
  match places with
  | 0 => exact .pure (fun _ hs => hs.1.1) _
  | 1 => exact .upd_bind (fun s hs => h.correct s _ hs.1.1) (.pure (fun _ hs => hs) _)
  | n + 2 =>
    refine .look_bind fun full => .ite (fun _ => h.wipeNow.pre fun _ hs => hs.1.1.1) fun room => ?_
    refine .upd_bind (M := J) (fun s hs => ?_)
      (.upd_bind (fun s hs => h.raiseWith s _ _ _ hs) (.pure (fun _ hs => hs) _))
    obtain ⟨⟨⟨hs, hoff⟩, _⟩, hroom⟩ := hs
    refine h.join s .params (by simp) hs (by simpa [hoff] using off) ?_
    have := of_decide_eq_false (hroom.trans (by simpa using room))
    omega

theorem readParams (h : ReadKeeps J E) : Act.Leads J J E Machine.readParams :=
  .bind h.checkParams fun r => by
    cases r
    · exact .look (fun _ hs => hs) _
    · exact .pure (fun _ hs => hs) _
    · exact .pure (fun _ hs => hs) _

theorem raiseAct (h : ReadKeeps J E) (k : NoticeKind) (d : Detail) : Act.Leads J J E (Machine.raise k d) :=
  .look_bind fun _ => .upd_bind (M := J) (fun s hs => h.raise s k d hs.1)
    (.onlyIf (fun _ => .bind h.readParams fun _ => .upd fun s hs => h.escalate s k _ hs) fun _ hs => hs)

/-- A checked read: an entry read good is off the Fault List; one newly faulted has joined it, and TABLE_FAULT was
raised (R177 to R181). -/
theorem checkEntry_triple {M : State → Prop} (h : ReadKeeps J E) (hm : ReadKeeps M E) {e : EntryId} (he : e ≠ .params)
    (join : ∀ s, J s → s.isFaulted e = false → s.integ.faultList.length < faultListCapacity →
      M (s.joinFaultList e)) :
    Act.Triple (fun v => J v.state) (Machine.checkEntry e)
      (fun r v => match r with
        | .good => J v.state ∧ v.state.isFaulted e = false
        | .faulted => J v.state
        | .newlyFaulted => M v.state)
      (fun v => E v.state) := by
  intro v hv
  cases hf : v.state.isFaulted e
  · match hl : (v.state.flips e).length with
    | 0 =>
      rw [checkEntry_good ⟨hf, List.length_eq_zero_iff.mp hl⟩]
      exact ⟨hv, hf⟩
    | 1 =>
      rw [checkEntry_corrected hf hl]
      exact ⟨h.correct _ _ hv, (State.correct_isFaulted ..).trans hf⟩
    | n + 2 =>
      rcases Nat.lt_or_ge v.state.integ.faultList.length faultListCapacity with room | full
      · have hr := Act.triple_bind (hm.raiseAct .tableFault (.entry e)) (f := fun _ => Pure.pure ReadResult.newlyFaulted)
          (Q := fun r w => r = .newlyFaulted ∧ M w.state) (fun _ w hw => ⟨rfl, hw⟩)
          ⟨v.state.joinFaultList e, v.owed⟩ (join _ hv hf room)
        have hc : checkEntry e v = (Machine.raise .tableFault (.entry e) >>= fun _ => pure ReadResult.newlyFaulted)
            ⟨v.state.joinFaultList e, v.owed⟩ := by
          simp [Machine.checkEntry, Act.bind_run, Act.look_run, Act.map_run, Act.pure_run, Act.upd_run, hf, he, hl,
            Nat.not_le.mpr room]
        rw [hc]
        revert hr
        cases (Machine.raise .tableFault (.entry e) >>= fun _ => pure ReadResult.newlyFaulted) ⟨v.state.joinFaultList e, v.owed⟩ with
        | ok r w => rintro ⟨rfl, hw⟩; exact hw
        | error _ w => exact id
      · rw [checkEntry_ninth hf (by omega) full]
        exact h.wipe _ (Event.settled_keep (fun s d => h.raise s _ d) hv)
  · rw [checkEntry_faulted hf]
    exact hv

/-- A checked read of an entry other than a slot setup. -/
theorem checkEntry (h : ReadKeeps J E) {e : EntryId} (he : ∀ i, e ≠ .slotSetup i) :
    Act.Leads J J E (Machine.checkEntry e) := by
  by_cases hp : e = .params
  · subst hp
    exact .look_bind fun _ => .ite (fun _ => .pure (fun _ hs => hs.1) _) fun _ =>
      .ite (fun _ => h.checkParams.pre fun _ hs => hs.1) fun n => absurd rfl n
  · refine Act.triple_mono (h.checkEntry_triple h hp fun s => h.join s e he) (fun _ hv => hv) (fun r w hw => ?_)
      fun _ hw => hw
    cases r
    · exact hw.1
    · exact hw
    · exact hw

/-- Beside a condition, anything that a checked read leaves alone. -/
theorem and {Q : State → Prop} (h : ReadKeeps J E) (hq : ReadKeeps Q fun _ => True) :
    ReadKeeps (fun s => J s ∧ Q s) E where
  correct s e hs := ⟨h.correct s e hs.1, hq.correct s e hs.2⟩
  raise s k d hs := ⟨h.raise s k d hs.1, hq.raise s k d hs.2⟩
  escalate s k n hs := ⟨h.escalate s k n hs.1, hq.escalate s k n hs.2⟩
  wipe s hs := h.wipe s hs.1
  join s e he hs hf hl := ⟨h.join s e he hs.1 hf hl, hq.join s e he hs.2 hf hl⟩

/-- A part of the state that no checked read changes keeps its value. -/
theorem of_frame {γ : Type} (p : State → γ) (x : γ) (correct : ∀ s e, p (s.correct e) = p s)
    (raise : ∀ s k d, p (s.raiseRecord k d) = p s) (escalate : ∀ s k n, p (s.startEscalation k n) = p s)
    (join : ∀ s e, p (s.joinFaultList e) = p s) : ReadKeeps (fun s => p s = x) fun _ => True where
  correct s e hs := (correct s e).trans hs
  raise s k d hs := (raise s k d).trans hs
  escalate s k n hs := (escalate s k n).trans hs
  wipe _ _ := trivial
  join s e _ hs _ _ := (join s e).trans hs

end ReadKeeps

end Sys2Proof.Machine
end

section
/-! SUPPORT. What the work of the Controller's reports and targets keeps, for a property given by the single changes of
the state that it must survive. -/

namespace Sys2Proof.Machine

open Sys2Proof

/-! ### Targets handed over and reports taken -/

/-- From J work goes on to J, or ends in a wipe that leaves E. -/
abbrev Act.Stays {α : Type} (J E : State → Prop) (a : Act α) : Prop := Act.Leads J J E a

/-- The mode m may be the mode in the operating state s has (R12). -/
def State.Suits (s : State) (m : Mode) : Prop :=
  match s.mgmt.opState with
  | .config => m = .safe
  | .run => m ≠ .park
  | .parking => m = .park
  | .parked => m = .park

theorem State.modeFollows_iff (s : State) : s.ModeFollows ↔ s.Suits s.ctrl.mode := Iff.rfl

theorem State.suits_congr {s t : State} (h : t.mgmt.opState = s.mgmt.opState) (m : Mode) : t.Suits m ↔ s.Suits m := by
  simp only [State.Suits, h]

/-- The precedence of R13 never picks PARK. -/
theorem precedence_ne_park (c : Controller) (demistOn : Bool) : precedence c demistOn ≠ .park := by
  unfold precedence
  split_ifs <;> simp

/-- What the taking of reports and the handing over of targets does to a state, one change at a time. -/
structure ReportKeeps (J E : State → Prop) : Prop extends ReadKeeps J E where
  ctrl : ∀ s f, (∀ c, (f c).mode = c.mode) → J s → J (s.onCtrl f)
  setMode : ∀ s m, s.Suits m → J s → J (s.setMode m)
  handOver : ∀ s h, J s → J (s.handOver h)
  delivery : ∀ s a f, (∀ d : Delivery, (f d).pendingValue = d.pendingValue ∧ (f d).outstanding = d.outstanding ∧
    (f d).ackTimer = d.ackTimer) → J s → J (s.onDelivery a f)
  queue : ∀ s a v, s.cmd.halted = false → J s → J (s.onCmd (·.queueValue a v))
  actuatorFaulted : ∀ s a, J s → J (s.actuatorFaulted a)

/-- The operating state outlasts a checked read that goes on. -/
theorem ReadKeeps.opState (o : OpState) : ReadKeeps (fun s => s.mgmt.opState = o) fun _ => True :=
  .of_frame (·.mgmt.opState) o (by simp) (by simp) (by simp) (by simp)

/-- So does the mode. -/
theorem ReadKeeps.mode (m : Mode) : ReadKeeps (fun s => s.ctrl.mode = m) fun _ => True :=
  .of_frame (·.ctrl.mode) m (by simp) (by simp) (by simp) (by simp)

/-- Storage cells hold no part of a delivery, nor of the queues of the Command Engine. -/
theorem State.setFlips_cmd (e : EntryId) (cells : List Nat) (s : State) :
    (s.setFlips e cells).cmd = { s.cmd with entries := (s.setFlips e cells).cmd.entries } := by
  cases e <;> rfl

theorem State.correct_cmd (e : EntryId) (s : State) :
    (s.correct e).cmd = { s.cmd with entries := (s.correct e).cmd.entries } := by
  simpa [State.correct] using s.setFlips_cmd e []

/-- What is outstanding outlasts a checked read that goes on. -/
theorem ReadKeeps.outstanding (a : Actuator) (o : Option Outstanding) :
    ReadKeeps (fun s => (s.cmd.delivery.get a).outstanding = o) fun _ => True :=
  .of_frame (fun s => (s.cmd.delivery.get a).outstanding) o (fun s e => by rw [s.correct_cmd e]) (by simp) (by simp) (by simp)

theorem State.actuatorFaulted_halted (a : Actuator) (s : State) : (s.actuatorFaulted a).cmd.halted = s.cmd.halted := by
  unfold State.actuatorFaulted State.reportCompletion
  split <;> rfl

theorem ReadKeeps.halted (b : Bool) : ReadKeeps (fun s => s.cmd.halted = b) fun _ => True :=
  .of_frame (·.cmd.halted) b (fun s e => by rw [s.correct_cmd e]) (by simp) (by simp) (by simp)

theorem ReadKeeps.offered (a : Option Actuator) : ReadKeeps (fun s => s.cmd.offered = a) fun _ => True :=
  .of_frame (·.cmd.offered) a (fun s e => by rw [s.correct_cmd e]; rfl) (by simp) (by simp) (by simp)

/-- A read of an actuator entry, whose fault ends what is under way for the actuator (R180). -/
theorem ReadKeeps.readActuator {J E : State → Prop} (h : ReadKeeps J E) {a : Actuator}
    (faulted : ∀ s, J s → J (s.actuatorFaulted a)) : Act.Stays J E (Machine.readActuator a) :=
  .bind (h.checkEntry (by simp)) fun r => by
    cases r
    · exact .look (fun _ hs => hs) _
    · exact .pure (fun _ hs => hs) _
    · exact .upd_bind faulted (.pure (fun _ hs => hs) _)

/-- The mode chosen suits the operating state (R12). -/
theorem chooseMode_suits {J E : State → Prop} (h : ReadKeeps J E) :
    Act.Triple (fun v => J v.state) chooseMode (fun m v => J v.state ∧ v.state.Suits m) (fun v => E v.state) := by
  intro v hv
  cases ho : v.state.mgmt.opState with
  | config => simpa [chooseMode, Act.bind_run, Act.look_run, ho, Act.pure_run, State.Suits] using hv
  | parking => simpa [chooseMode, Act.bind_run, Act.look_run, ho, Act.pure_run, State.Suits] using hv
  | parked => simpa [chooseMode, Act.bind_run, Act.look_run, ho, Act.pure_run, State.Suits] using hv
  | run =>
    have hp := (h.and (.opState .run)).readParams v ⟨hv, ho⟩
    by_cases fog : (v.state.ctrl.conditions.fog && precedence v.state.ctrl true == .demist) = true
    · simp only [chooseMode, Act.bind_run, Act.look_run, ho, fog, if_true]
      revert hp
      cases readParams v with
      | ok p w => exact fun hw => ⟨hw.1, by simpa only [State.Suits, hw.2] using precedence_ne_park _ _⟩
      | error _ w => exact id
    · simp only [chooseMode, Act.bind_run, Act.look_run, ho, fog]
      exact ⟨hv, by simpa only [State.Suits, ho] using precedence_ne_park _ _⟩

namespace ReportKeeps

variable {J E : State → Prop}

theorem report (h : ReportKeeps J E) (s : State) (r : Report) (hs : J s) : J (s.report r) := h.ctrl s _ (fun _ => rfl) hs

theorem reportTimers (h : ReportKeeps J E) (s : State) (hs : J s) : J s.reportTimers := h.report s _ hs

theorem reportSlot (h : ReportKeeps J E) (i : Fin 32) (s : State) (hs : J s) : J (s.reportSlot i) := h.report s _ hs

theorem readActuator (h : ReportKeeps J E) (a : Actuator) : Act.Stays J E (Machine.readActuator a) :=
  h.toReadKeeps.readActuator fun s => h.actuatorFaulted s a

theorem handTarget (h : ReportKeeps J E) (a : Actuator) (v : Nat) : Act.Stays J E (Machine.handTarget a v) :=
  .look_bind fun _ => .onlyIf (fun _ => .upd_bind (M := J)
    (fun s hs => h.delivery s a _ (fun _ => ⟨rfl, rfl, rfl⟩) hs.1)
    (.bind (h.readActuator a) fun e => .look_bind fun halted => .onlyIf
      (fun c => .upd fun s hs => h.queue s a v (by simp_all) hs.1) fun _ hs => hs.1)) fun _ hs => hs.1

theorem handTargets (h : ReportKeeps J E) (t : ModeRecord) : Act.Stays J E (Machine.handTargets t) :=
  .forAll (fun a => h.handTarget a _) _

theorem readRecord (h : ReportKeeps J E) (i : Fin 7) : Act.Stays J E (Machine.readRecord i) :=
  .bind (h.checkEntry (by simp)) fun r => by
    cases r
    · exact .look (fun _ hs => hs) _
    · exact .pure (fun _ hs => hs) _
    · exact .pure (fun _ hs => hs) _

theorem modeTargets (h : ReportKeeps J E) (m : Mode) : Act.Stays J E (Machine.modeTargets m) := by
  have read (i : Fin 7) (f : ModeRecord → Act ModeRecord) (hf : ∀ r, Act.Stays J E (f r)) :
      Act.Stays J E (Machine.readRecord i >>= fun r => match r with
        | none => Pure.pure PowerOn.safeTargets
        | some r => f r) :=
    .bind (h.readRecord i) fun r => by
      cases r
      · exact .pure (fun _ hs => hs) _
      · exact hf _
  cases m
  case park => exact .pure (fun _ hs => hs) _
  case safe => exact .pure (fun _ hs => hs) _
  case door => exact read _ _ fun _ => .pure (fun _ hs => hs) _
  case manual => exact read _ _ fun _ => .look (fun _ hs => hs) _
  all_goals exact read _ _ fun _ => .bind h.readParams fun _ => .look (fun _ hs => hs) _

theorem computeTargets (h : ReportKeeps J E) : Act.Stays J E Machine.computeTargets :=
  .look_bind fun m => .bind ((h.modeTargets m).pre fun _ hs => hs.1) fun t => h.handTargets t

theorem changeMode (h : ReportKeeps J E) (m : Mode) (ho : Handover) :
    Act.Leads (fun s => J s ∧ s.Suits m) J E (Machine.changeMode m ho) :=
  .upd_bind (M := J) (fun s hs => h.setMode s m hs.2 hs.1) <|
    .upd_bind (fun s hs => h.handOver s _ hs) <| .upd_bind (fun s hs => h.raise s _ _ hs) h.computeTargets

/-- The Controller's settling, once the mode has been chosen or left: from P it leads to J, if P with a mode that suits
the operating state does. -/
theorem settle_leads {P : State → Prop} (hp : ReadKeeps P E) (h : ReportKeeps J E) (same : ∀ s, P s → s.ModeFollows → J s)
    (new : ∀ s m, P s → s.Suits m → J (s.setMode m)) (ho : Handover) (dirtyIn : Bool) :
    Act.Leads P J E (settle true ho dirtyIn) := by
  refine .look_bind fun cur => Act.triple_bind (chooseMode_suits (hp.and (.mode cur))) fun m => ?_
  refine Act.Leads.ite (P := fun s => (P s ∧ s.ctrl.mode = cur) ∧ s.Suits m) (fun hm => ?_) fun _ => ?_
  · refine .upd_bind (M := J) (fun s ⟨⟨hs, hc⟩, hsuits⟩ => h.handOver s ho (same s hs ?_))
      (.onlyIf (fun _ => h.computeTargets) fun _ hs => hs)
    rwa [State.modeFollows_iff, hc, ← hm]
  · exact .upd_bind (M := J) (fun s hs => new s m hs.1.1 hs.2) <|
      .upd_bind (fun s hs => h.handOver s _ hs) <| .upd_bind (fun s hs => h.raise s _ _ hs) h.computeTargets

/-- A settling that leaves the mode hands the conditions over and, where asked, computes the targets again. -/
theorem settle_kept (ho : Handover) (dirtyIn : Bool) :
    Machine.settle false ho dirtyIn = Machine.upd (State.handOver ho) >>= fun _ => onlyIf dirtyIn Machine.computeTargets := by
  funext v
  simp [Machine.settle, Act.bind_run, Act.look_run, Act.upd_run]

theorem settle (h : ReportKeeps J E) (choose : Bool) (ho : Handover) (dirtyIn : Bool) :
    Act.Stays J E (Machine.settle choose ho dirtyIn) := by
  cases choose
  case true => exact settle_leads h.toReadKeeps h (fun _ hs _ => hs) (fun s m hs hm => h.setMode s m hm hs) ho dirtyIn
  case false =>
    rw [settle_kept]
    exact .upd_bind (fun s hs => h.handOver s ho hs) (.onlyIf (fun _ => h.computeTargets) fun _ hs => hs)

theorem deriveAgain (h : ReportKeeps J E) (s : State) (hs : J s) : J s.deriveAgain := by
  have derived := h.ctrl s (fun c => { c with conditions := deriveConditions s.ctrl.bindings s.ctrl.slotViews })
    (fun _ => rfl) hs
  simp only [State.deriveAgain]
  split
  · split
    · exact h.raise _ _ _ derived
    · exact derived
  · exact derived

theorem causesAgain (h : ReportKeeps J E) : Act.Stays J E Machine.causesAgain :=
  .bind h.readParams fun _ => .upd fun s hs => h.ctrl s _ (fun _ => rfl) hs

theorem absorb (h : ReportKeeps J E) (r : Report) : Act.Stays J E (Machine.absorb r) :=
  .look_bind fun _ => .upd_bind (M := J) (fun s hs => h.ctrl s _ (fun c => by cases r <;> rfl) hs.1) <|
    .upd_bind (fun s hs => h.deriveAgain s hs) <| .bind h.causesAgain fun _ => .look_bind fun _ =>
      .pure (fun _ hs => hs.1) _

theorem takeReport (h : ReportKeeps J E) (r : Report) : Act.Stays J E (Machine.takeReport r) :=
  .bind (h.absorb r) fun _ => h.settle _ _ _

theorem controllerReport (h : ReportKeeps J E) (src : ReportSource) : Act.Stays J E (Machine.controllerReport src) :=
  .look_bind fun r => by
    cases r
    · exact .pure (fun _ hs => hs.1) _
    · exact .upd_bind (M := J) (fun s hs => h.ctrl s _ (fun _ => rfl) hs.1) (h.takeReport _)

theorem takeOldest (h : ReportKeeps J E) (n : Nat) : Act.Stays J E (Machine.takeOldest n) := by
  induction n with
  | zero => exact .pure (fun _ hs => hs) _
  | succ n ih =>
    refine .look_bind fun r => ?_
    cases r
    · exact .pure (fun _ hs => hs.1) _
    · exact .upd_bind (M := J) (fun s hs => h.ctrl s _ (fun _ => rfl) hs.1) (.bind (h.takeReport _) fun _ => ih)

theorem takeWaiting (h : ReportKeeps J E) : Act.Stays J E Machine.takeWaiting :=
  .look_bind fun n => (h.takeOldest n).pre fun _ hs => hs.1

theorem opStateChanged (h : ReportKeeps J E) : Act.Stays J E Machine.opStateChanged :=
  .upd_bind (fun s hs => h.ctrl s _ (fun _ => rfl) hs) (h.settle _ _ _)

end ReportKeeps

end Sys2Proof.Machine
end

section
/-! SUPPORT. What every event keeps: the single changes of the state a property must survive, block by block, and the
walk through the events that only these changes make. -/

namespace Sys2Proof.Machine

open Sys2Proof

/-! ### The single changes -/

/-- The frame queues and the arbiters' counters within their bounds (R127, R128, R131, R132). -/
def PortUnit.Bounded (p : PortUnit) : Prop :=
  p.ptq.length ≤ 8 ∧ p.fwq.length ≤ 16 ∧ p.rpq.length ≤ 8 ∧ p.dnShareCount ≤ 3 ∧ p.upRunCount ≤ 4

theorem PortUnit.Bounded.replies_le {p : PortUnit} (h : p.Bounded) (port : Port) : (p.replies port).length ≤ 8 := by
  obtain ⟨ptq, _, rpq, _⟩ := h
  cases port
  · exact rpq
  · exact ptq

/-- Changes of the blocks that events make without a condition. -/
structure BlockKeeps (I E : State → Prop) : Prop extends ReportKeeps I E where
  tally : ∀ s f, I s → I (s.onTally f)
  notice : ∀ s f, I s → I (s.onNotice f)
  intake : ∀ s f, I s → I (s.onIntake f)
  park : ∀ s f, I s → I (s.onPark f)
  integ : ∀ s f, (∀ u, (f u).faultList = u.faultList) → I s → I (s.onInteg f)
  params : ∀ s f, (∀ m, (f m).opState = m.opState) → I s → I (s.onMgmt f)
  bins : ∀ s (f : Vector (Stored RecoveryBin) 4 → Vector (Stored RecoveryBin) 4), I s → I (s.onTimer fun t => { t with bins := f t.bins })
  port : ∀ s f, (s.port.Bounded → (f s.port).Bounded) → I s → I (s.onPort f)
  setFlips : ∀ s e cells, I s → I (s.setFlips e cells)
  rewritten : ∀ s e, I s → I (s.rewritten e)

/-- Changes of the slots and their setups. -/
structure SlotKeeps (I : State → Prop) : Prop where
  readSetup : ∀ i, Act.Stays I I (Machine.readSetup i)
  deliverReading : ∀ i v sensor, Act.Stays I I (Machine.deliverReading i v sensor)
  staleExpiry : ∀ i, Act.Stays I I (Machine.staleExpiry i)
  writeSetup : ∀ s i su, I s → I (s.writeSlotSetup i su)
  writeComp : ∀ s i n su c, I s → I (s.writeComp i n su c)

/-- Changes of the Command Engine, each under what the event has checked of it. -/
structure CommandKeeps (I : State → Prop) : Prop where
  entries : ∀ s (f : PerActuator (Stored ActuatorEntry) → PerActuator (Stored ActuatorEntry)), I s →
    I (s.onCmd fun c => { c with entries := f c.entries })
  dropPending : ∀ s a, I s → I (s.onCmd (·.dropPending a))
  dropOutstanding : ∀ s a, I s → I (s.onCmd (·.dropOutstanding a))
  becomeDue : ∀ s a o o', (s.cmd.delivery.get a).outstanding = some o' → o'.phase ≠ .due → I s →
    I (s.onCmd (·.becomeDue a o))
  flushQueue : Act.Stays I I Machine.flushQueue
  unhalt : ∀ s, I s → I (s.onCmd fun c => { c with halted := false })
  completion : ∀ s b, I s → I (s.onCmd fun c => { c with completion := b })
  send : ∀ s a n, s.cmd.offered = some a → I s → I (s.sendCommand a n)
  sent : ∀ s a o n, (s.cmd.delivery.get a).outstanding = some o → o.phase = .onLine → I s →
    I (s.onDelivery a fun d => { d with outstanding := some { o with phase := .waiting }, ackTimer := some n })

/-- Events of the Timer Unit that leave the operating state alone. -/
structure TimerKeeps (I : State → Prop) : Prop where
  levelChange : ∀ d low, Act.Stays I I (Machine.levelChange d low)
  recoveryExpiry : Act.Stays I I Machine.recoveryExpiry
  purgeExpiry : Act.Stays I I Machine.purgeExpiry
  gapExpiry : Act.Stays I I Machine.gapExpiry
  overrideExpiry : Act.Stays I I Machine.overrideExpiry
  controllerHandover : Act.Stays I I Machine.controllerHandover
  purgeStart : Act.Leads (fun s => I s ∧ s.mgmt.opState = .run) I I purgeStartReply
  purgeStop : Act.Stays I I purgeStopReply
  override : ∀ r, Act.Leads (fun s => I s ∧ s.mgmt.opState = .run) I I (overrideReply r)
  cancelOverride : Act.Stays I I cancelOverrideReply

/-- Events that change the operating state. -/
structure OpStateKeeps (I : State → Prop) : Prop where
  parkingEntry : ∀ n, Act.Stays I I (Machine.parkingEntry n)
  enterConfig : Act.Stays I I enterConfigReply
  enterRun : Act.Stays I I (changeOpState .run (upd (State.onTimer TimerUnit.enterRun)))
  wake : ∀ c busy, Act.Stays I I (Machine.wake c busy)
  debounceEnd : ∀ d busy, Act.Stays I I (Machine.debounceEnd d busy)
  parkedEntry : Act.Stays I I Machine.parkedEntry
  linkReset : ∀ reply, reply.toList.length ≤ 1 → Act.Stays I I (Machine.linkReset reply)

/-- Everything an event does to a state. -/
structure EventKeeps (I : State → Prop) : Prop extends BlockKeeps I I, SlotKeeps I, CommandKeeps I, TimerKeeps I,
  OpStateKeeps I

/-! ### Frames in the queues -/

namespace BlockKeeps

variable {I : State → Prop}

theorem giveAct (h : BlockKeeps I I) (e : SubEvent) : Act.Stays I I (Machine.give e) := .give h.tally e

theorem stopPreclean (h : BlockKeeps I I) (s : State) (hs : I s) : I s.stopPreclean := h.park s _ hs

theorem dropFrame (h : BlockKeeps I I) (e : SubEvent) (q : DropQueue) : Act.Stays I I (Machine.dropFrame e q) :=
  .bind (h.giveAct e) fun _ => .bind h.raiseOwed fun _ => .upd fun s hs => h.raise s _ _ hs

theorem offerPtq (h : BlockKeeps I I) (f : Frame) : Act.Stays I I (Machine.offerPtq f) :=
  .look_bind fun _ => .ite
    (fun _ => .upd fun s hs => h.port s _ (fun ⟨ptq, rest⟩ => ⟨offer_length ptq, rest⟩) hs.1)
    fun _ => (h.dropFrame .ptDrop .ptq).pre fun _ hs => hs.1

theorem offerFwq (h : BlockKeeps I I) (f : Frame) : Act.Stays I I (Machine.offerFwq f) :=
  .look_bind fun _ => .ite
    (fun _ => .upd fun s hs => h.port s _ (fun ⟨ptq, fwq, rest⟩ => ⟨ptq, offer_length fwq, rest⟩) hs.1)
    fun _ => (h.dropFrame .fqDrop .fwq).pre fun _ hs => hs.1

theorem replyOwned (h : BlockKeeps I I) (tag : Byte) : Act.Stays I I (Machine.replyOwned tag) :=
  .look_bind fun room => .ite
    (fun c => .upd fun s hs => h.port s _ (fun ⟨ptq, fwq, rpq, rest⟩ => ⟨ptq, fwq, by
      have room := of_decide_eq_true (hs.2.trans c)
      simpa [rpqCapacity] using room, rest⟩) hs.1)
    fun _ => (h.giveAct _).pre fun _ hs => hs.1

theorem sendPanelNotice (h : BlockKeeps I I) (node : Nat) (k : NoticeKind) (d : Detail) (s : State) (hs : I s) :
    I (s.sendPanelNotice node k d) :=
  h.notice _ _ (h.port s _ (fun ⟨ptq, rest⟩ => ⟨offer_length ptq, rest⟩) hs)

/-! ### Requests -/

theorem classOf (h : BlockKeeps I I) (o : Origin) : Act.Stays I I (Machine.classOf o) := by
  unfold Machine.classOf
  split
  · exact .pure (fun _ hs => hs) _
  · exact .bind h.readParams fun _ => .pure (fun _ hs => hs) _

theorem onReplies (h : BlockKeeps I I) (port : Port) (f : List Frame → List Frame) (s : State)
    (hf : s.port.Bounded → (f (s.port.replies port)).length ≤ 8) (hs : I s) : I (s.onReplies port f) := by
  cases port
  · exact h.port s (fun p => { p with rpq := f p.rpq })
      (fun hb@⟨ptq, fwq, _, rest⟩ => ⟨ptq, fwq, hf hb, rest⟩) hs
  · exact h.port s (fun p => { p with ptq := f p.ptq }) (fun hb@⟨_, rest⟩ => ⟨hf hb, rest⟩) hs

/-- A reply's place is reserved while there is room and filled where it stands (R150). -/
theorem serve (h : BlockKeeps I I) (o : Origin) (code : Byte) {answer : Option OriginClass → Act Reply}
    (ha : ∀ c, Act.Stays I I (answer c)) : Act.Stays I I (Machine.serve o code answer) := by
  refine .look_bind fun parked => .onlyIf (fun _ => ?_) fun _ hs => hs.1
  refine .bind (M := I) (.onlyIf (fun _ => .upd fun s hs => h.stopPreclean s hs.1) fun _ hs => hs.1) fun _ => ?_
  refine .bind (h.classOf o) fun c => .ite (fun _ => ?_) fun _ => ?_
  · exact .bind h.raiseOwed fun _ => .bind (ha c) fun _ => .pure (fun _ hs => hs) _
  · refine .look_bind fun n => .ite (fun room => ?_) fun _ => (h.giveAct _).pre fun _ hs => hs.1
    refine .upd_bind (M := I) (fun s hs => h.onReplies _ _ _ (fun _ => ?_) hs.1)
      (.bind h.raiseOwed fun _ => .bind (ha c) fun r => .upd fun s hs => h.onReplies _ _ _ (fun hb => ?_) hs)
    · rw [List.length_append, hs.2]
      exact Nat.le_trans room (by cases o.port <;> decide)
    · simpa using hb.replies_le o.port

/-- Past the general checks the operating state is one of the request's own (R142). -/
theorem afterChecks (rule : PanelRule) {states : List OpState} {own : OriginClass → Act Reply}
    (ho : ∀ k, Act.Leads (fun s => I s ∧ s.mgmt.opState ∈ states) I I (own k)) (c : Option OriginClass) :
    Act.Stays I I (Machine.afterChecks rule states own c) := by
  refine .look_bind fun failing => .look_bind fun o => ?_
  rcases failing with _ | r
  · rcases c with _ | k
    · exact .pure (fun _ hs => hs.1.1) _
    · exact .ite (fun listed => (ho k).pre fun s hs => ⟨hs.1.1, by simpa [hs.2] using listed⟩)
        fun _ => .pure (fun _ hs => hs.1.1) _
  · cases c <;> exact .pure (fun _ hs => hs.1.1) _

theorem request (h : BlockKeeps I I) (o : Origin) (number : Nat) (rule : PanelRule) {states : List OpState}
    {own : OriginClass → Act Reply} (ho : ∀ k, Act.Leads (fun s => I s ∧ s.mgmt.opState ∈ states) I I (own k)) :
    Act.Stays I I (Machine.request o number rule states own) := h.serve o _ (afterChecks rule ho)

theorem unknownRequest (h : BlockKeeps I I) (o : Origin) (code : Byte) : Act.Stays I I (Machine.unknownRequest o code) :=
  h.serve o _ fun _ => .pure (fun _ hs => hs) _

theorem badLengthRequest (h : BlockKeeps I I) (o : Origin) (code : Byte) (rule : PanelRule) :
    Act.Stays I I (Machine.badLengthRequest o code rule) :=
  h.serve o _ fun _ => .look_bind fun _ => .pure (fun _ hs => hs.1) _

/-! ### Read requests -/

theorem checkWithEffect (h : BlockKeeps I I) (hsl : SlotKeeps I) (e : EntryId) : Act.Stays I I (Machine.checkWithEffect e) := by
  cases e with
  | slotSetup i => exact .bind (hsl.readSetup i) fun _ => .pure (fun _ hs => hs) _
  | actuator a => exact .bind (h.readActuator a) fun _ => .pure (fun _ hs => hs) _
  | modeRecord i =>
    exact .bind (h.checkEntry (by simp)) fun _ => .look_bind fun _ =>
      .onlyIf (fun _ => h.computeTargets.pre fun _ hs => hs.1) fun _ hs => hs.1
  | channelMap i => exact .bind (h.checkEntry (by simp)) fun _ => .pure (fun _ hs => hs) _
  | recovery i => exact .bind (h.checkEntry (by simp)) fun _ => .pure (fun _ hs => hs) _
  | params => exact .bind h.checkParams fun _ => .pure (fun _ hs => hs) _

theorem readMapEntry (h : BlockKeeps I I) (i : Fin 64) : Act.Stays I I (Machine.readMapEntry i) :=
  .bind (h.checkEntry (by simp)) fun r => by
    cases r
    · exact .look (fun _ hs => hs) _
    · exact .pure (fun _ hs => hs) _
    · exact .pure (fun _ hs => hs) _

theorem lookup (h : BlockKeeps I I) (src ch : Nat) (is : List (Fin 64)) : Act.Stays I I (Machine.lookup src ch is) := by
  induction is with
  | nil => exact .pure (fun _ hs => hs) _
  | cons i is ih => exact .bind (h.readMapEntry i) fun _ => .bind ih fun _ => .pure (fun _ hs => hs) _

theorem readNodes (h : BlockKeeps I I) (as : List Actuator) : Act.Stays I I (Machine.readNodes as) := by
  induction as with
  | nil => exact .pure (fun _ hs => hs) _
  | cons a as ih =>
    refine .bind (h.readActuator a) fun e => .bind ih fun _ => ?_
    cases e <;> exact .pure (fun _ hs => hs) _

end BlockKeeps

end Sys2Proof.Machine
end

section
/-! SUPPORT. The walk through the events: what survives every single change survives every event, and every step. -/

namespace Sys2Proof.Machine

open Sys2Proof

namespace EventKeeps

variable {I : State → Prop}

/-! ### Sample Intake -/

theorem takeMatched (h : EventKeeps I) (i : Fin 64) (tag : Byte) (passing : Bool) (r : Reading) :
    Act.Stays I I (Machine.takeMatched i tag passing r) :=
  .upd_bind (fun s hs => h.intake s _ hs) <| .look_bind fun _ =>
    .bind ((h.deliverReading _ _ _).pre fun _ hs => hs.1) fun _ => .ite
      (fun _ => .look_bind fun _ => .upd_bind (fun s hs => h.intake s _ hs.1) (.pure (fun _ hs => hs) _))
      fun _ => .pure (fun _ hs => hs) _

theorem takeReading (h : EventKeeps I) (src tag : Byte) (passing : Bool) (act : UnmappedAction) (r : Reading) :
    Act.Stays I I (Machine.takeReading src tag passing act r) :=
  .bind (h.lookup _ _ _) fun e => by
    cases e
    · exact .bind (h.giveAct _) fun _ => .pure (fun _ hs => hs) _
    · exact .look_bind fun _ => .ite
        (fun _ => .bind ((h.giveAct _).pre fun _ hs => hs.1) fun _ => .pure (fun _ hs => hs) _)
        fun _ => (h.takeMatched _ _ _ _).pre fun _ hs => hs.1

theorem takeReadings (h : EventKeeps I) (src tag : Byte) (passing : Bool) (act : UnmappedAction) (rs : List Reading) :
    Act.Stays I I (Machine.takeReadings src tag passing act rs) := by
  induction rs with
  | nil => exact .pure (fun _ hs => hs) _
  | cons r rs ih => exact .bind (h.takeReading _ _ _ _ _) fun _ => .bind ih fun _ => .pure (fun _ hs => hs) _

theorem takeSample (h : EventKeeps I) (f : Frame) (passing : Bool) : Act.Stays I I (Machine.takeSample f passing) :=
  .bind h.readParams fun _ => .ite (fun _ => h.offerFwq f) fun _ =>
    .bind (h.takeReadings _ _ _ _ _) fun _ => .onlyIf (fun _ => h.offerFwq f) fun _ hs => hs

/-! ### Command Engine -/

theorem reportCompletion (h : EventKeeps I) (s : State) (hs : I s) : I s.reportCompletion := by
  unfold State.reportCompletion
  split
  · exact h.completion s true hs
  · exact hs

theorem takeReported (h : EventKeeps I) (a : Actuator) (r : Reported) : Act.Stays I I (Machine.takeReported a r) :=
  .upd_bind (fun s hs => h.delivery s a _ (fun _ => ⟨rfl, rfl, rfl⟩) hs) <|
    .onlyIf (fun _ => h.raiseAct _ _) fun _ hs => hs

theorem takeAck (h : EventKeeps I) (src tag : Byte) (r : Reported) : Act.Stays I I (Machine.takeAck src tag r) :=
  .bind (h.readNodes _) fun nodes => .look_bind fun matching => .look_bind fun late => by
    rcases matching with _ | a
    · rcases late with _ | a
      · exact (h.giveAct _).pre fun _ hs => hs.1.1
      · exact .bind ((h.takeReported a r).pre fun _ hs => hs.1.1) fun _ =>
          .upd_bind (fun s hs => h.delivery s a _ (fun _ => ⟨rfl, rfl, rfl⟩) hs) (h.giveAct _)
    · exact .upd_bind (M := I) (fun s hs => h.dropOutstanding s a hs.1.1) <| .bind (h.takeReported a r) fun _ =>
        .bind (h.giveAct _) fun _ => .upd h.reportCompletion

theorem abandon (h : EventKeeps I) (a : Actuator) (o : Outstanding) (policy : FailurePolicy) :
    Act.Stays I I (Machine.abandon a o policy) :=
  .upd_bind (fun s hs => h.delivery _ a (fun d => { d with lastAbandoned := some o.tag, failed := true })
      (fun _ => ⟨rfl, rfl, rfl⟩) (h.dropOutstanding s a hs)) <| .bind (h.raiseAct _ _) fun _ => .bind (h.giveAct _) fun _ => .bind (M := I)
      (.onlyIf (fun _ => .bind h.flushQueue fun _ => .bind h.raiseOwed fun _ => h.raiseAct _ _) fun _ hs => hs)
      fun _ => .upd h.reportCompletion

theorem persist (h : EventKeeps I) (a : Actuator) (o : Outstanding) (waiting : o.phase = .waiting) :
    Act.Leads (fun s => I s ∧ (s.cmd.delivery.get a).outstanding = some o) I I (Machine.persist a o) :=
  .upd_bind (M := I) (fun s hs => h.becomeDue s a _ o hs.2 (by simp [waiting]) hs.1) <|
    .onlyIf (fun _ => .upd_bind (fun s hs => h.delivery s a _ (fun _ => ⟨rfl, rfl, rfl⟩) hs) (h.raiseAct _ _))
      fun _ hs => hs

theorem ackExpiry (h : EventKeeps I) (a : Actuator) : Act.Stays I I (Machine.ackExpiry a) := by
  refine .look_bind fun out => ?_
  rcases out with _ | o
  · exact .pure (fun _ hs => hs.1) _
  · refine .onlyIf (fun waiting => ?_) fun _ hs => hs.1
    have waiting : o.phase = .waiting := by simpa using waiting
    have params := (h.toReadKeeps.and (.outstanding a (some o))).readParams
    refine .bind params fun p => .look_bind fun parking => ?_
    exact .ite (fun _ => .upd fun s hs => h.becomeDue s a _ o hs.1.2 (by simp [waiting]) hs.1.1) fun _ => .ite
      (fun _ => (h.abandon a o _).pre fun _ hs => hs.1.1) fun _ => (h.persist a o waiting).pre fun _ hs => hs.1

theorem resumeActuator (h : EventKeeps I) (a : Actuator) :
    Act.Stays (fun s => I s ∧ s.cmd.halted = false) I (Machine.resumeActuator a) := by
  have read := (h.toReadKeeps.and (.halted false)).readActuator (a := a) fun s hs =>
    ⟨h.actuatorFaulted s a hs.1, (State.actuatorFaulted_halted a s).trans hs.2⟩
  refine .bind read fun e => .look_bind fun d => ?_
  split
  · exact .onlyIf (fun _ => .upd fun s hs => ⟨h.queue s a _ hs.1.2 hs.1.1, hs.1.2⟩) fun _ hs => hs.1
  · exact .pure (fun _ hs => hs.1) _

theorem resumeDelivery (h : EventKeeps I) : Act.Stays I I Machine.resumeDelivery :=
  .look_bind fun _ => .onlyIf (fun _ => .upd_bind (fun s hs => ⟨h.unhalt s hs.1, rfl⟩)
    ((Act.Leads.forAll h.resumeActuator _).post fun _ hs => hs.1)) fun _ hs => hs.1

theorem writeActuator (h : EventKeeps I) (a : Actuator) (e : ActuatorEntry) (s : State) (hs : I s) :
    I (s.writeActuator a e) := by
  have written : I _ := h.rewritten _ (.actuator a) (h.entries s (·.set a (PowerOn.fresh e)) hs)
  have cleared : I _ := h.delivery _ a (fun d => { d with reported := none, failed := false, lastAbandoned := none })
    (fun _ => ⟨rfl, rfl, rfl⟩) (h.dropOutstanding _ a (h.dropPending _ a written))
  unfold State.writeActuator
  dsimp only
  split
  · split
    next go => exact h.queue _ a _ (by simpa using (Bool.and_eq_true_iff.mp go).2) cleared
    next => exact cleared
  · exact cleared

/-! ### The requests that write -/

theorem writeMapEntry (h : EventKeeps I) (i : Fin 64) (c : MapContent) (s : State) (hs : I s) : I (s.writeMapEntry i c) :=
  h.rewritten _ _ (h.intake s _ hs)

theorem writeMapReply (h : EventKeeps I) (entry : Byte) (content : Option MapContent) :
    Act.Stays I I (Machine.writeMapReply entry content) := by
  unfold Machine.writeMapReply
  split
  · exact .pure (fun _ hs => hs) _
  · exact .pure (fun _ hs => hs) _
  · refine .bind (h.lookup _ _ _) fun other => ?_
    split
    · exact .pure (fun _ hs => hs) _
    · exact .upd_bind (h.writeMapEntry _ _) (.pure (fun _ hs => hs) _)

theorem clearMapReply (h : EventKeeps I) (entry : Byte) : Act.Stays I I (Machine.clearMapReply entry) := by
  unfold Machine.clearMapReply
  split
  · exact .pure (fun _ hs => hs) _
  · exact .upd_bind (h.writeMapEntry _ _) (.pure (fun _ hs => hs) _)

theorem writeSlotReply (h : EventKeeps I) (slot : Byte) (form : CompSetup → CompSetup → Option SlotSetup) :
    Act.Stays I I (Machine.writeSlotReply slot form) := by
  unfold Machine.writeSlotReply
  split
  · exact .pure (fun _ hs => hs) _
  · exact .pure (fun _ hs => hs) _
  · exact .look_bind fun _ => .ite (fun _ => .pure (fun _ hs => hs.1) _) fun _ =>
      .bind ((h.readSetup _).pre fun _ hs => hs.1) fun _ =>
        .upd_bind (fun s hs => h.writeSetup s _ _ hs) (.pure (fun _ hs => hs) _)

theorem writeComparatorReply (h : EventKeeps I) (slot comparator : Byte) (content : Option CompSetup) :
    Act.Stays I I (Machine.writeComparatorReply slot comparator content) := by
  unfold Machine.writeComparatorReply
  split
  · exact .pure (fun _ hs => hs) _
  · exact .pure (fun _ hs => hs) _
  · exact .pure (fun _ hs => hs) _
  · refine .bind (h.readSetup _) fun setup => ?_
    split
    · exact .pure (fun _ hs => hs) _
    · exact .upd_bind (fun s hs => h.writeComp s _ _ _ _ hs) (.pure (fun _ hs => hs) _)

theorem writeModeReply (h : EventKeeps I) (mode flap blower carbon demist : Byte) :
    Act.Stays I I (Machine.writeModeReply mode flap blower carbon demist) := by
  unfold Machine.writeModeReply
  split
  · exact .pure (fun _ hs => hs) _
  · split
    · exact .pure (fun _ hs => hs) _
    · exact .upd_bind (fun s hs => h.rewritten _ _ (h.ctrl s _ (fun _ => rfl) hs)) <| .look_bind fun _ =>
        .bind (.onlyIf (fun _ => h.computeTargets.pre fun _ hs => hs.1) fun _ hs => hs.1) fun _ =>
          .pure (fun _ hs => hs) _

theorem writeRecoveryReply (h : EventKeeps I) (bin : Byte) (content : Option RecoveryBin) :
    Act.Stays I I (Machine.writeRecoveryReply bin content) := by
  unfold Machine.writeRecoveryReply
  split
  · exact .pure (fun _ hs => hs) _
  · exact .pure (fun _ hs => hs) _
  next i b _ =>
    exact .upd_bind (fun s hs => h.rewritten _ _ (h.bins s (·.set i (PowerOn.fresh b)) hs)) (.pure (fun _ hs => hs) _)

theorem writeActuatorReply (h : EventKeeps I) (actuator : Byte) (content : Option ActuatorEntry) :
    Act.Stays I I (Machine.writeActuatorReply actuator content) := by
  unfold Machine.writeActuatorReply
  split
  · exact .pure (fun _ hs => hs) _
  · exact .pure (fun _ hs => hs) _
  · exact .upd_bind (h.writeActuator _ _) (.pure (fun _ hs => hs) _)

theorem afterParam (h : EventKeeps I) (n v : Nat) : Act.Stays I I (Machine.afterParam n v) :=
  .bind (.onlyIf (fun _ => h.causesAgain) fun _ hs => hs) fun _ => .onlyIf
    (fun _ => .upd fun s hs => h.integ s _ (fun u => by split <;> rfl) hs) fun _ hs => hs

theorem writeParamReply (h : EventKeeps I) (parameter : Byte) (value : Word16) :
    Act.Stays I I (Machine.writeParamReply parameter value) := by
  unfold Machine.writeParamReply
  refine .ite (fun _ => .pure (fun _ hs => hs) _) fun _ => .ite (fun _ => .pure (fun _ hs => hs) _) fun _ => ?_
  refine .bind h.readParams fun base => .look_bind fun faulted => .look_bind fun run => ?_
  refine .ite (fun _ => .pure (fun _ hs => hs.1.1) _) fun _ => .ite (fun _ => .pure (fun _ hs => hs.1.1) _) fun _ => ?_
  exact .upd_bind (M := I) (fun s hs => h.rewritten _ _ (h.params s _ (fun _ => rfl) hs.1.1))
    (.bind (h.afterParam _ _) fun _ => .pure (fun _ hs => hs) _)

/-! ### The requests that act -/

theorem mapToUnused (h : EventKeeps I) (is : List (Fin 64)) : Act.Stays I I (Machine.mapToUnused is) := by
  induction is with
  | nil => exact .pure (fun _ hs => hs) _
  | cons i is ih =>
    refine .bind (h.readMapEntry i) fun c => ?_
    have rest (here : Bool) : Act.Stays I I (Machine.mapToUnused is >>= fun rest => pure (here || rest)) :=
      .bind ih fun _ => .pure (fun _ hs => hs) _
    rcases c with _ | c
    · exact rest _
    · exact .ite (fun _ => .bind (h.readSetup _) fun _ => .bind (.pure (fun _ hs => hs) _) rest)
        fun _ => .bind (.pure (fun _ hs => hs) _) rest

theorem validateActuators (h : EventKeeps I) : Act.Stays I I Machine.validateActuators :=
  .bind (h.readActuator _) fun _ => .ite (fun _ => .pure (fun _ hs => hs) _) fun _ =>
    .bind (h.readActuator _) fun _ => .ite (fun _ => .pure (fun _ hs => hs) _) fun _ => .look (fun _ hs => hs) _

theorem validateRun (h : EventKeeps I) : Act.Stays I I Machine.validateRun :=
  .look_bind fun _ => .ite (fun _ => .pure (fun _ hs => hs.1) _) fun _ => .ite (fun _ => .pure (fun _ hs => hs.1) _)
    fun _ => .bind ((h.mapToUnused _).pre fun _ hs => hs.1) fun _ =>
      .ite (fun _ => .pure (fun _ hs => hs) _) fun _ => h.validateActuators

theorem enterRunReply (h : EventKeeps I) : Act.Stays I I Machine.enterRunReply :=
  .bind h.validateRun fun failing => by
    cases failing
    · exact .bind h.enterRun fun _ => .pure (fun _ hs => hs) _
    · exact .pure (fun _ hs => hs) _

theorem acknowledge (h : EventKeeps I) (s : State) (k : NoticeKind) (hs : I s) : I (s.acknowledge k) := by
  unfold State.acknowledge
  dsimp only
  split
  · exact h.notice _ _ hs
  · exact hs

theorem ackNoticesReply (h : EventKeeps I) (kinds : Word16) : Act.Stays I I (Machine.ackNoticesReply kinds) :=
  .ite (fun _ => .upd_bind (fun s hs => by
      generalize NoticeKind.all.filter (kindInSet kinds) = ks
      induction ks generalizing s with
      | nil => exact hs
      | cons k ks ih => exact ih _ (h.acknowledge s k hs)) (.pure (fun _ hs => hs) _))
    fun _ => .pure (fun _ hs => hs) _

theorem maskNoticesReply (h : EventKeeps I) (kinds : Word16) : Act.Stays I I (Machine.maskNoticesReply kinds) :=
  .ite (fun _ => .upd_bind (fun s hs => h.notice s _ hs) (.pure (fun _ hs => hs) _)) fun _ => .pure (fun _ hs => hs) _

theorem tallySetupReply (h : EventKeeps I) (tally group mask : Byte) (filter : Word16) (flags : Byte) :
    Act.Stays I I (Machine.tallySetupReply tally group mask filter flags) := by
  unfold Machine.tallySetupReply
  split
  · exact .pure (fun _ hs => hs) _
  · refine .look_bind fun t => ?_
    split
    · exact .pure (fun _ hs => hs.1) _
    · exact .upd_bind (fun s hs => h.tally s _ hs.1) (.pure (fun _ hs => hs) _)

theorem tallyWriteReply (h : EventKeeps I) (tally : Byte) (value : Word32) :
    Act.Stays I I (Machine.tallyWriteReply tally value) := by
  unfold Machine.tallyWriteReply
  split
  · exact .pure (fun _ hs => hs) _
  · exact .upd_bind (fun s hs => h.tally s _ hs) (.pure (fun _ hs => hs) _)

theorem parkReply (h : EventKeeps I) (minutes : Word16) : Act.Stays I I (Machine.parkReply minutes) :=
  .ite (fun _ => .pure (fun _ hs => hs) _) fun _ => .look_bind fun _ => .ite (fun _ => .pure (fun _ hs => hs.1) _) fun _ =>
    .bind ((h.parkingEntry _).pre fun _ hs => hs.1) fun _ => .pure (fun _ hs => hs) _

/-! ### The requests that read -/

theorem readStateReply (part : Fin 4) : Act.Stays I I (Machine.readStateReply part) := by
  unfold Machine.readStateReply
  split <;> exact .look (fun _ hs => hs) _

theorem readSlotReply (h : EventKeeps I) (part : Fin 4) (slot : Byte) : Act.Stays I I (Machine.readSlotReply part slot) := by
  unfold Machine.readSlotReply
  split
  · exact .pure (fun _ hs => hs) _
  · exact .bind (h.readSetup _) fun _ => .look_bind fun _ => .pure (fun _ hs => hs.1) _

theorem readHistoryReply (slot : Byte) : Act.Stays I I (Machine.readHistoryReply slot) := by
  unfold Machine.readHistoryReply
  split
  · exact .pure (fun _ hs => hs) _
  · exact .look (fun _ hs => hs) _

theorem readMapReply (h : EventKeeps I) (entry : Byte) : Act.Stays I I (Machine.readMapReply entry) := by
  unfold Machine.readMapReply
  split
  · exact .pure (fun _ hs => hs) _
  · exact .bind (h.readMapEntry _) fun _ => .look_bind fun _ => .pure (fun _ hs => hs.1) _

theorem readModeReply (h : EventKeeps I) (mode : Byte) : Act.Stays I I (Machine.readModeReply mode) := by
  unfold Machine.readModeReply
  split
  · exact .pure (fun _ hs => hs) _
  · split
    · exact .pure (fun _ hs => hs) _
    · exact .pure (fun _ hs => hs) _
    · exact .bind (h.checkWithEffect h.toSlotKeeps _) fun _ => .look (fun _ hs => hs) _

theorem readRecoveryReply (h : EventKeeps I) (bin : Byte) : Act.Stays I I (Machine.readRecoveryReply bin) := by
  unfold Machine.readRecoveryReply
  split
  · exact .pure (fun _ hs => hs) _
  · refine .bind (h.checkEntry (by simp)) fun r => ?_
    cases r
    · exact .look (fun _ hs => hs) _
    · exact .pure (fun _ hs => hs) _
    · exact .pure (fun _ hs => hs) _

theorem readActuatorReply (h : EventKeeps I) (actuator : Byte) : Act.Stays I I (Machine.readActuatorReply actuator) := by
  unfold Machine.readActuatorReply
  split
  · exact .pure (fun _ hs => hs) _
  · exact .bind (h.readActuator _) fun _ => .look (fun _ hs => hs) _

theorem readParamReply (h : EventKeeps I) (parameter : Byte) : Act.Stays I I (Machine.readParamReply parameter) :=
  .ite (fun _ => .pure (fun _ hs => hs) _) fun _ => .bind h.readParams fun _ => .look (fun _ hs => hs) _

theorem tallyReadReply (tally : Byte) : Act.Stays I I (Machine.tallyReadReply tally) := by
  unfold Machine.tallyReadReply
  split
  · exact .pure (fun _ hs => hs) _
  · exact .look (fun _ hs => hs) _

/-! ### Every request -/

theorem resetRequest (h : EventKeeps I) (o : Origin) : Act.Stays I I (Machine.resetRequest o) :=
  .look_bind fun _ => .ite
    (fun _ => .onlyIf (fun _ => .bind (h.raiseOwed.pre fun _ hs => hs.1) fun _ => h.linkReset _ (by split <;> simp))
      fun _ hs => hs.1)
    fun _ => (h.request o _ _ fun _ => .pure (fun _ hs => hs.1) _).pre fun _ hs => hs.1

theorem runRequest (h : EventKeeps I) (i : Instr) : Act.Stays I I (Machine.runRequest i) := by
  have reads {o : Origin} {code : Byte} {rule : PanelRule} {states : List OpState} {reply : Act Reply}
      (hr : Act.Stays I I reply) : Act.Stays I I (Machine.serve o code (afterChecks rule states fun _ => reply)) :=
    h.serve o code (BlockKeeps.afterChecks rule fun _ => hr.pre fun _ hs => hs.1)
  have inRun {o : Origin} {number : Nat} {rule : PanelRule} {own : OriginClass → Act Reply}
      (hr : ∀ k, Act.Leads (fun s => I s ∧ s.mgmt.opState = .run) I I (own k)) :
      Act.Stays I I (Machine.request o number rule [.run] own) :=
    h.request o number rule fun k => (hr k).pre fun s hs => ⟨hs.1, by simpa using hs.2⟩
  cases i
  case readState o part =>
    exact .ite (fun _ => h.unknownRequest _ _) fun _ => reads (readStateReply part)
  case readSlot o part slot =>
    exact .ite (fun _ => h.unknownRequest _ _) fun _ => reads (h.readSlotReply part slot)
  case readHistory o slot => exact reads (readHistoryReply slot)
  case readMap o entry => exact reads (h.readMapReply entry)
  case writeMap => exact reads (h.writeMapReply _ _)
  case clearMap => exact reads (h.clearMapReply _)
  case writeSlot => exact reads (h.writeSlotReply _ _)
  case writeComparator => exact reads (h.writeComparatorReply _ _ _)
  case readMode => exact reads (h.readModeReply _)
  case writeMode => exact reads (h.writeModeReply _ _ _ _ _)
  case readRecovery => exact reads (h.readRecoveryReply _)
  case writeRecovery => exact reads (h.writeRecoveryReply _ _)
  case readActuator => exact reads (h.readActuatorReply _)
  case writeActuator => exact reads (h.writeActuatorReply _ _)
  case readParam => exact reads (h.readParamReply _)
  case writeParam => exact reads (h.writeParamReply _ _)
  case enterConfig => exact reads h.enterConfig
  case enterRun => exact reads h.enterRunReply
  case purgeStart => exact inRun fun _ => h.purgeStart
  case purgeStop => exact reads h.purgeStop
  case override => exact inRun fun _ => h.override _
  case cancelOverride => exact reads h.cancelOverride
  case readNotices => exact reads (.look (fun _ hs => hs) _)
  case ackNotices => exact reads (h.ackNoticesReply _)
  case maskNotices => exact reads (h.maskNoticesReply _)
  case tallyRead => exact reads (tallyReadReply _)
  case tallySetup => exact reads (h.tallySetupReply _ _ _ _ _)
  case tallyWrite => exact reads (h.tallyWriteReply _ _)
  case readFaults => exact reads (.look (fun _ hs => hs) _)
  case resume => exact reads (.bind h.resumeDelivery fun _ => .pure (fun _ hs => hs) _)
  case park => exact reads (h.parkReply _)
  case reset => exact h.resetRequest _
  all_goals exact .pure (fun _ hs => hs) _

theorem takeManage (h : EventKeeps I) (port : Port) (broadcast : Bool) (f : Frame) :
    Act.Stays I I (Machine.takeManage port broadcast f) := by
  unfold Machine.takeManage
  split
  · exact .pure (fun _ hs => hs) _
  · dsimp only
    split
    · exact h.unknownRequest _ _
    · exact h.badLengthRequest _ _ _
    · exact h.runRequest _

/-! ### The two lines -/

theorem takeCmd (h : EventKeeps I) (f : Frame) : Act.Stays I I (Machine.takeCmd f) :=
  .bind (h.readNodes _) fun _ => .look_bind fun _ => .ite (fun _ => (h.replyOwned _).pre fun _ hs => hs.1)
    fun _ => (h.offerPtq f).pre fun _ hs => hs.1

theorem dispose (h : EventKeeps I) (port : Port) (f : Frame) (d : Disposition) :
    Act.Stays I I (Machine.dispose port f d) := by
  cases d with
  | manage => exact h.takeManage _ _ _
  | ack =>
    rcases ha : ackOf f.payload with _ | r
    · simpa only [Machine.dispose, ha] using .pure (fun _ hs => hs) _
    · simpa only [Machine.dispose, ha] using h.takeAck _ _ _
  | sample passing => exact h.takeSample f passing
  | forward => exact h.offerFwq f
  | passThrough => exact h.offerPtq f
  | owned => exact h.takeCmd f
  | broadcast => exact .bind (h.offerPtq f) fun _ => h.takeManage _ _ _
  | nowhere => exact .pure (fun _ hs => hs) _

theorem takeDn (h : EventKeeps I) (r : Reception) : Act.Stays I I (Machine.takeDn r) :=
  .bind (h.giveAct _) fun _ => by
    split
    · exact h.dispose _ _ _
    · exact .pure (fun _ hs => hs) _
    · exact .pure (fun _ hs => hs) _

theorem takeUp (h : EventKeeps I) (r : Reception) : Act.Stays I I (Machine.takeUp r) :=
  .bind (h.giveAct _) fun _ => by
    split
    · exact h.dispose _ _ _
    · exact .pure (fun _ hs => hs) _
    · exact .pure (fun _ hs => hs) _

theorem upInParked (h : EventKeeps I) (r : Reception) (busy : LinesBusy) : Act.Stays I I (Machine.upInParked r busy) := by
  unfold Machine.upInParked
  split
  · exact .onlyIf (fun _ => h.wake _ _) fun _ hs => hs
  · exact .pure (fun _ hs => hs) _
  · exact .pure (fun _ hs => hs) _

theorem dnArrival (h : EventKeeps I) (r : Reception) : Act.Stays I I (Machine.dnArrival r) :=
  .look_bind fun _ => .onlyIf (fun _ => (h.takeDn r).pre fun _ hs => hs.1) fun _ hs => hs.1

theorem upArrival (h : EventKeeps I) (r : Reception) (busy : LinesBusy) : Act.Stays I I (Machine.upArrival r busy) :=
  .look_bind fun _ => .look_bind fun _ => .onlyIf (fun _ => .ite (fun _ => (h.upInParked r busy).pre fun _ hs => hs.1.1)
    fun _ => (h.takeUp r).pre fun _ hs => hs.1.1) fun _ hs => hs.1.1

theorem startDn (h : EventKeeps I) (who : DnParty) (f : Frame) (s : State) (hs : I s) : I (s.startDn who f) :=
  h.port s _ (fun hb => hb) hs

/-- The entry read good leaves the command the arbiter picked the one on offer; a faulted one takes it away. -/
theorem readActuator_offered (h : EventKeeps I) (a : Actuator) (x : Option Actuator) :
    Act.Triple (fun v => I v.state ∧ v.state.cmd.offered = x) (Machine.readActuator a)
      (fun e v => I v.state ∧ (e.isSome = true → v.state.cmd.offered = x)) (fun v => I v.state) := by
  have keep := h.toReadKeeps.and (.offered x)
  refine Act.triple_bind (keep.checkEntry_triple keep (by simp) fun s hs => keep.join s _ (by simp) hs) fun r => ?_
  cases r
  · exact fun v hv => ⟨hv.1.1, fun _ => hv.1.2⟩
  · exact fun v hv => ⟨hv.1, fun _ => hv.2⟩
  · exact fun v hv => ⟨h.actuatorFaulted _ a hv.1, by simp⟩

theorem decideDn (h : EventKeeps I) (n : Nat) : Act.Stays I I (Machine.decideDn n) := by
  induction n with
  | zero => exact .pure (fun _ hs => hs) _
  | succ n ih =>
    refine .bind h.readParams fun p => .look_bind fun offered => .look_bind fun head => .look_bind fun count => ?_
    have passing (f : Frame) : Act.Leads (fun s => ((I s ∧ s.cmd.offered = offered) ∧ s.port.ptq.head? = head) ∧
        s.port.dnShareCount = count) I I (upd (State.startDn .ptqHead f)) := .upd fun s hs => h.startDn _ _ s hs.1.1.1
    rcases offered with _ | a
    · rcases head with _ | f
      · exact .pure (fun _ hs => hs.1.1.1) _
      · exact passing f
    · dsimp only
      split
      · exact passing _
      · refine Act.triple_bind (Act.triple_mono (h.readActuator_offered a (some a)) (fun _ hs => hs.1.1)
          (fun _ _ hq => hq) fun _ he => he) fun e => ?_
        cases e
        · exact Act.Leads.upd_bind (P := fun s => I s ∧ (_ → s.cmd.offered = some a)) (M := I)
            (fun s hs => h.actuatorFaulted s a hs.1) ih
        · exact Act.Leads.upd (P := fun s => I s ∧ (_ → s.cmd.offered = some a))
            fun s hs => h.send s a _ (hs.2 rfl) hs.1

theorem dnGrant (h : EventKeeps I) : Act.Stays I I Machine.dnGrant :=
  .look_bind fun _ => .onlyIf (fun _ => (h.decideDn 5).pre fun _ hs => hs.1) fun _ hs => hs.1

theorem cmdSent (h : EventKeeps I) (a : Actuator) : Act.Stays I I (Machine.cmdSent a) := by
  refine .upd_bind (M := I) (fun s hs => h.port s _ (fun ⟨ptq, fwq, rpq, _, up⟩ => ⟨ptq, fwq, rpq, by simp, up⟩) hs) ?_
  refine .look_bind fun out => ?_
  rcases out with _ | o
  · exact .pure (fun _ hs => hs.1) _
  · refine .onlyIf (fun onLine => ?_) fun _ hs => hs.1
    refine .bind (h.toReadKeeps.and (.outstanding a (some o))).readParams fun p => ?_
    exact .upd_bind (fun s hs => h.sent s a o _ hs.2 (by simpa using onLine) hs.1) (h.giveAct _)

theorem cmdLost (h : EventKeeps I) (a : Actuator) (s : State) (hs : I s) : I (s.cmdLost a) := by
  unfold State.cmdLost
  split
  next o ho =>
    split
    next onLine => exact h.becomeDue s a o o ho (by simp [onLine]) hs
    next => exact hs
  next => exact hs

theorem dnTransmissionEnd (h : EventKeeps I) (e : TxEnd) : Act.Stays I I (Machine.dnTransmissionEnd e) := by
  refine .look_bind fun tx => ?_
  rcases tx with _ | t
  · exact .pure (fun _ hs => hs.1) _
  · refine .upd_bind (M := I) (fun s hs => h.port s _ (fun hb => hb) hs.1) ?_
    split
    · exact .upd fun s hs => h.port s _ (fun ⟨ptq, fwq, rpq, _, up⟩ =>
        ⟨by simp [PortUnit.ptqSent]; omega, fwq, rpq, Nat.min_le_left _ _, up⟩) hs
    · exact .pure (fun _ hs => hs) _
    · exact h.cmdSent _
    · exact .upd (h.cmdLost _)

theorem grantUp_bounded {p : PortUnit} (h : p.Bounded) : p.grantUp.Bounded := by
  unfold PortUnit.grantUp
  split <;> exact h

theorem endUp_bounded {p : PortUnit} (h : p.Bounded) : p.endUp.Bounded := by
  obtain ⟨ptq, fwq, rpq, dn, up⟩ := h
  unfold PortUnit.endUp
  split
  · exact ⟨ptq, fwq, rpq, dn, up⟩
  · split
    · refine ⟨ptq, fwq, by simp; omega, dn, ?_⟩
      dsimp only
      split <;> omega
    · exact ⟨ptq, by simp; omega, rpq, dn, by simp⟩

/-! ### Periodic events -/

theorem addAmounts (h : EventKeeps I) (s : State) (amount : Tally → Nat) (hs : I s) : I (s.addAmounts amount).state :=
  h.tally s (fun u => { u with tallies := mapTable (fun t => t.add (amount t)) u.tallies }) hs

theorem intervalExpiry (h : EventKeeps I) (s : State) (hs : I s) : I s.intervalExpiry := by
  unfold State.intervalExpiry
  split
  · exact Event.settled_keep (fun s d => h.raise s _ d) (h.addAmounts _ _ (h.tally s _ hs))
  · exact hs

theorem escalationExpiry (h : EventKeeps I) (k : NoticeKind) : Act.Stays I I (Machine.escalationExpiry k) := by
  refine .look_bind fun r => .look_bind fun parked => .onlyIf (fun _ => ?_) fun _ hs => hs.1.1
  refine .upd_bind (M := I) (fun s hs => h.notice s _ hs.1.1) (.bind h.readParams fun p => ?_)
  split
  · exact .onlyIf (fun _ => .upd (h.sendPanelNotice _ _ _)) fun _ hs => hs
  · exact .pure (fun _ hs => hs) _

theorem scrubExpiry (h : EventKeeps I) : Act.Stays I I Machine.scrubExpiry :=
  .look_bind fun _ => .onlyIf (fun _ => .bind (h.readParams.pre fun _ hs => hs.1) fun _ => .ite
    (fun _ => .upd fun s hs => h.integ s _ (fun _ => rfl) hs)
    fun _ => .look_bind fun _ => .bind ((h.checkWithEffect h.toSlotKeeps _).pre fun _ hs => hs.1) fun _ =>
      .upd fun s hs => h.integ s _ (fun _ => rfl) hs) fun _ hs => hs.1

theorem parkWakeExpiry (h : EventKeeps I) (busy : LinesBusy) : Act.Stays I I (Machine.parkWakeExpiry busy) :=
  .look_bind fun _ => .onlyIf (fun _ => (h.wake _ _).pre fun _ hs => hs.1) fun _ hs => hs.1

theorem precleanExpiry (h : EventKeeps I) : Act.Stays I I Machine.precleanExpiry :=
  .look_bind fun _ => .onlyIf (fun _ => (h.parkingEntry 0).pre fun _ hs => hs.1) fun _ hs => hs.1

/-! ### Every command -/

theorem live (h : EventKeeps I) {a : Act Unit} (ha : Act.Stays I I a) {s t : State} (hs : I s)
    (e : Machine.live a s = .next t) : I t := Act.keeps_live (fun s d => h.raise s _ d) ha.keeps hs e

end EventKeeps

/-- What a command does to the pins: the power-on sequence or the device that does not run, and a door line's level at
the pin of such a device. -/
structure PinsKeep (I : State → Prop) : Prop where
  withPins : ∀ s up low, I s → I (s.withPins up low)
  setLevel : ∀ s d low, s.alive = false → I s → I (s.setLevel d low)

/-- A request that came on a line is the work of that request. -/
theorem exec_request {i : Instr} (h : i.origin?.isSome = true) (s : State) : exec i s = live (runRequest i) s := by
  cases i <;> simp only [Instr.origin?, Option.isSome_none, Bool.false_eq_true] at h <;> rfl

theorem EventKeeps.exec {I : State → Prop} (h : EventKeeps I) (hp : PinsKeep I) (i : Instr) {s t : State} (hs : I s)
    (e : exec i s = .next t) : I t := by
  have pins (up low : Bool) (e : Host.Outcome.next (s.withPins up low) = (.next t : Host.Outcome State Fault Refusal)) :
      I t := by
    cases e
    exact hp.withPins s up low hs
  cases i
  case powerOnReset => exact pins _ _ e
  case resetLineAssert => exact pins _ _ e
  case resetLineReset => exact pins _ _ e
  case lossOfSupply => exact pins _ _ e
  case doorLevelChange d low =>
    simp only [Machine.exec, execDoorLevelChange] at e
    split at e
    · exact h.live (h.levelChange d low) hs e
    next dead =>
      cases e
      exact hp.setLevel s d low (by simpa using dead) hs
  case dnArrival r => exact h.live (h.dnArrival r) hs e
  case upArrival r busy => exact h.live (h.upArrival r busy) hs e
  case dnGrant => exact h.live h.dnGrant hs e
  case dnTransmissionEnd x => exact h.live (h.dnTransmissionEnd x) hs e
  case upGrant => exact h.live (.upd fun s hs => h.port s _ grantUp_bounded hs) hs e
  case upTransmissionEnd => exact h.live (.upd fun s hs => h.port s _ endUp_bounded hs) hs e
  case ackTimerExpiry a => exact h.live (h.ackExpiry a) hs e
  case debounceEnd d busy => exact h.live (h.debounceEnd d busy) hs e
  case staleTimerExpiry x => exact h.live (h.staleExpiry x) hs e
  case recoveryTimerExpiry => exact h.live h.recoveryExpiry hs e
  case purgeTimerExpiry => exact h.live h.purgeExpiry hs e
  case gapTimerExpiry => exact h.live h.gapExpiry hs e
  case overrideTimerExpiry => exact h.live h.overrideExpiry hs e
  case controllerReport src => exact h.live (h.controllerReport src) hs e
  case controllerHandover => exact h.live h.controllerHandover hs e
  case parkedEntry => exact h.live h.parkedEntry hs e
  case parkWakeTimerExpiry busy => exact h.live (h.parkWakeExpiry busy) hs e
  case precleanExpiry => exact h.live h.precleanExpiry hs e
  case escalationTimerExpiry k => exact h.live (h.escalationExpiry k) hs e
  case intervalTimerExpiry => exact h.live (.upd h.intervalExpiry) hs e
  case scrubIntervalExpiry => exact h.live h.scrubExpiry hs e
  case flippedCell x cell => exact h.live (.upd fun s hs => h.setFlips s x _ hs) hs e
  case receiverIdle p =>
    exact h.live (.upd fun s hs => h.port s _ (fun hb => by cases p <;> exact hb) hs) hs e
  all_goals exact h.live (h.runRequest _) hs ((exec_request rfl s).symm.trans e)

/-- Everything a step does to a state: beside its command's work, the command's leaving the queue and 1 ms passing. -/
structure StepKeeps (I : State → Prop) : Prop extends EventKeeps I, PinsKeep I where
  dequeue : ∀ s rest, I s → I { s with pending := rest }
  tick : ∀ s, I s → I s.tick

theorem StepKeeps.step {I : State → Prop} (h : StepKeeps I) {s t : State} (hs : I s) (e : step s = .next t) : I t := by
  unfold Machine.step at e
  split at e
  next c rest _ => exact h.toEventKeeps.exec h.toPinsKeep c (h.dequeue s rest hs) e
  next =>
    unfold idleStep at e
    split at e
    next i _ => exact h.toEventKeeps.exec h.toPinsKeep i hs e
    next =>
      cases e
      split
      · exact h.tick s hs
      · exact hs

end Sys2Proof.Machine
end

section
/-! SUPPORT. The events that touch one block only, for a property that does not speak of the block; and the events that
change the operating state, for a property that may be broken between the change and its end. -/

namespace Sys2Proof.Machine

open Sys2Proof

variable {I E : State → Prop}

/-! ### Properties that do not speak of the slots -/

theorem SlotKeeps.of_quantity (h : BlockKeeps I I) (quantity : ∀ s f, I s → I (s.onQuantity f))
    (join : ∀ s e, I s → s.isFaulted e = false → s.integ.faultList.length < faultListCapacity → I (s.joinFaultList e)) :
    SlotKeeps I := by
  have lost (i : Fin 32) : Act.Stays I I (raiseInputLost i) :=
    .look_bind fun _ => .onlyIf (fun _ => (h.raiseAct _ _).pre fun _ hs => hs.1) fun _ hs => hs.1
  have fault (i : Fin 32) : Act.Stays I I (slotToFault i) :=
    .look_bind fun _ => .upd_bind (M := I) (fun s hs => quantity s _ hs.1) <|
      .onlyIf (fun _ => .upd_bind (h.reportSlot i) (lost i)) fun _ hs => hs
  have setup (i : Fin 32) : Act.Stays I I (Machine.readSetup i) :=
    Act.triple_bind (h.toReadKeeps.checkEntry_triple h.toReadKeeps (by simp) fun s => join s _) fun r => by
      cases r
      · exact fun v hv => hv.1
      · exact fun v hv => hv
      · exact Act.Leads.bind (fault i) fun _ => .pure (fun _ hs => hs) _
  have reject (i : Fin 32) (f : Slot → Slot) : Act.Stays I I (rejectReading i f) :=
    .look_bind fun _ => .upd_bind (M := I) (fun s hs => quantity s _ hs.1) <| .look_bind fun _ =>
      .onlyIf (fun _ => .upd_bind (fun s hs => h.reportSlot i s hs.1) (h.raiseAct _ _)) fun _ hs => hs.1
  have judged (i : Fin 32) (su : SlotSetup) (v : Int) : Act.Stays I I (judgeReading i su v) := by
    refine .look_bind fun verdict => ?_
    cases verdict
    · exact .bind ((reject i _).pre fun _ hs => hs.1) fun _ => h.giveAct _
    · exact .bind ((reject i _).pre fun _ hs => hs.1) fun _ => h.giveAct _
    · exact .upd_bind (M := I) (fun s hs => quantity s _ hs.1) (.upd_bind (h.reportSlot i) (h.giveAct _))
  constructor
  case readSetup => exact setup
  case deliverReading =>
    intro i v sensor
    refine .bind (setup i) fun su => ?_
    rcases su with _ | su
    · exact h.giveAct _
    · refine .ite (fun _ => h.giveAct _) fun _ => ?_
      cases sensor
      · exact judged i su v
      · exact h.giveAct _
      · exact .bind (fault i) fun _ => h.giveAct _
  case staleExpiry =>
    exact fun i => .look_bind fun _ => .onlyIf (fun _ => .look_bind fun _ =>
      .upd_bind (M := I) (fun s hs => quantity s _ hs.1.1) <| .onlyIf (fun _ => .upd_bind (fun s hs => quantity s _ hs) <|
        .upd_bind (h.reportSlot i) (lost i)) fun _ hs => hs) fun _ hs => hs.1
  case writeSetup =>
    exact fun s i su hs => h.reportSlot i _ (h.ctrl _ (fun c => { c with bindings := c.bindings.bind i su.kind })
      (fun _ => rfl) (quantity _ _ (h.rewritten _ _ (quantity s _ hs))))
  case writeComp =>
    intro s i n su c hs
    unfold State.writeComp
    dsimp only
    split
    · exact h.reportSlot i _ (quantity _ _ (quantity s _ hs))
    · exact quantity _ _ (quantity s _ hs)

/-! ### Properties that do not speak of the Command Engine -/

theorem CommandKeeps.of_cmd (h : BlockKeeps I I) (cmd : ∀ s f, I s → I (s.onCmd f)) : CommandKeeps I where
  entries s f := cmd s _
  dropPending s a := cmd s _
  dropOutstanding s a := cmd s _
  becomeDue s a o o' _ _ := cmd s _
  flushQueue := .upd_bind (fun s hs => cmd s _ hs) <| .bind (M := I)
    (.forAll (fun a => .look_bind fun out => by
      rcases out with _ | o
      · exact .pure (fun _ hs => hs.1) _
      · exact .upd_bind (fun s hs => cmd s _ hs.1) (.upd_bind (fun s hs => cmd s _ hs) (h.giveAct _))) _)
    fun _ => .upd fun s hs => cmd s _ hs
  unhalt s := cmd s _
  completion s b := cmd s _
  send s a n _ hs := by
    unfold State.sendCommand
    dsimp only
    split
    · exact h.port _ _ (fun hb => hb) (cmd s _ hs)
    · exact h.port _ _ (fun hb => hb) (cmd s _ hs)
    · exact hs
  sent s a o n _ _ := cmd s _

/-! ### Properties that do not speak of the Timer Unit -/

section
variable (h : BlockKeeps I I) (timer : ∀ s f, I s → I (s.onTimer f))
include h timer

theorem tryPurgeStart_stays (further : Bool) : Act.Stays I I (tryPurgeStart further) :=
  .look_bind fun _ => .onlyIf (fun _ => .bind (h.readParams.pre fun _ hs => hs.1) fun _ => .onlyIf
    (fun _ => .upd_bind (fun s hs => timer s _ hs) (.upd fun s hs => timer s _ hs)) fun _ hs => hs) fun _ hs => hs.1

theorem gapExpired_stays : Act.Stays I I gapExpired :=
  .upd_bind (fun s hs => timer s _ hs) <| .look_bind fun _ =>
    .onlyIf (fun _ => (tryPurgeStart_stays h timer _).pre fun _ hs => hs.1) fun _ hs => hs.1

theorem purgeUnresolved_stays : Act.Stays I I purgeUnresolved :=
  .bind h.readParams fun _ => .upd_bind (fun s hs => timer s _ hs) <| .look_bind fun _ => .look_bind fun _ => .ite
    (fun _ => (h.raiseAct _ _).pre fun _ hs => hs.1.1) fun _ => .upd_bind (fun s hs => timer s _ hs.1.1)
      (.onlyIf (fun _ => gapExpired_stays h timer) fun _ hs => hs)

theorem endOverride_stays : Act.Stays I I endOverride := .upd_bind (fun s hs => timer s _ hs) (.upd h.reportTimers)

theorem takeHandover_stays (ho : Handover) : Act.Stays I I (takeHandover ho) := by
  have starts : Act.Stays I I (handoverStarts ho) := by
    unfold handoverStarts
    split
    · exact .upd fun s hs => timer s _ hs
    · exact .look_bind fun _ => .look_bind fun _ => .onlyIf
        (fun _ => (tryPurgeStart_stays h timer _).pre fun _ hs => hs.1.1) fun _ hs => hs.1.1
    · exact .pure (fun _ hs => hs) _
    · exact .look_bind fun _ => .onlyIf (fun _ => (tryPurgeStart_stays h timer _).pre fun _ hs => hs.1) fun _ hs => hs.1
  have cancel (s : State) (hs : I s) : I s.cancelFresh := by
    unfold State.cancelFresh
    split
    · split
      · exact h.raise _ _ _ (timer s _ hs)
      · exact hs
    · exact hs
  have stop : Act.Stays I I severeStop :=
    .look_bind fun _ => .onlyIf (fun _ => .bind (h.readParams.pre fun _ hs => hs.1) fun _ =>
      .onlyIf (fun _ => .upd fun s hs => timer s _ hs) fun _ hs => hs) fun _ hs => hs.1
  exact .upd_bind (fun s hs => timer s _ hs) <| .bind (.onlyIf (fun _ => .bind stop fun _ => .upd cancel) fun _ hs => hs)
    fun _ => .bind (M := I) (.onlyIf (fun _ => .upd fun s hs => timer s _ hs) fun _ hs => hs) fun _ =>
      .bind starts fun _ => .upd h.reportTimers

omit h in
theorem onDoor_keeps (d : Door) (f : DoorLine → DoorLine) (s : State) (hs : I s) : I (s.onDoor d f) := timer s _ hs

theorem TimerKeeps.of_timer : TimerKeeps I where
  levelChange d low := .look_bind fun _ => .onlyIf (fun _ => .upd_bind
    (fun s hs => onDoor_keeps timer d (fun l => { l with rawLow := low }) s hs.1) <| .ite
      (fun _ => .upd (onDoor_keeps timer d _))
      fun _ => .upd_bind (onDoor_keeps timer d _) <| .bind h.readParams fun _ => .upd (onDoor_keeps timer d _))
        fun _ hs => hs.1
  recoveryExpiry := .look_bind fun _ => .onlyIf (fun _ => .upd_bind (fun s hs => timer s _ hs.1) <|
    .bind (h.giveAct _) fun _ => .upd h.reportTimers) fun _ hs => hs.1
  purgeExpiry := .look_bind fun _ => .onlyIf (fun _ => .upd_bind (M := I) (fun s hs => timer s _ hs.1) <| .look_bind fun _ =>
    .ite (fun _ => .bind ((purgeUnresolved_stays h timer).pre fun _ hs => hs.1) fun _ => .upd h.reportTimers)
      fun _ => .upd_bind (fun s hs => timer s _ hs.1) (.upd h.reportTimers)) fun _ hs => hs.1
  gapExpiry := .look_bind fun _ => .onlyIf (fun _ => .look_bind fun _ =>
    .bind ((gapExpired_stays h timer).pre fun _ hs => hs.1.1) fun _ => .look_bind fun _ =>
      .onlyIf (fun _ => .upd fun s hs => h.reportTimers s hs.1) fun _ hs => hs.1) fun _ hs => hs.1
  overrideExpiry := .look_bind fun _ => .onlyIf (fun _ => (endOverride_stays h timer).pre fun _ hs => hs.1) fun _ hs => hs.1
  controllerHandover := .look_bind fun ho => by
    cases ho
    · exact .pure (fun _ hs => hs.1) _
    · exact .upd_bind (fun s hs => timer s _ hs.1) (takeHandover_stays h timer _)
  purgeStart := .look_bind fun _ => .ite (fun _ => .pure (fun _ hs => hs.1.1) _) fun _ =>
    .bind (h.readParams.pre fun _ hs => hs.1.1) fun _ => .look_bind fun _ => .ite (fun _ => .pure (fun _ hs => hs.1) _)
      fun _ => .ite (fun _ => .pure (fun _ hs => hs.1) _) fun _ => .bind (M := I) (.onlyIf
        (fun _ => .upd_bind (fun s hs => timer s _ hs.1) (.upd h.reportTimers)) fun _ hs => hs.1) fun _ =>
          .pure (fun _ hs => hs) _
  purgeStop := .look_bind fun _ => .bind (M := I) (.onlyIf (fun _ => .bind (h.readParams.pre fun _ hs => hs.1) fun _ =>
    .upd_bind (fun s hs => timer s _ hs) (.upd h.reportTimers)) fun _ hs => hs.1) fun _ => .pure (fun _ hs => hs) _
  override r := by
    cases r
    · exact .pure (fun _ hs => hs.1) _
    · exact .look_bind fun _ => .ite (fun _ => .pure (fun _ hs => hs.1.1) _) fun _ =>
        .upd_bind (M := I) (fun s hs => timer s _ hs.1.1) <| .look_bind fun _ => .bind (M := I)
          (.onlyIf (fun _ => h.computeTargets.pre fun _ hs => hs.1) fun _ hs => hs.1) fun _ =>
            .upd_bind h.reportTimers (.pure (fun _ hs => hs) _)
  cancelOverride := .look_bind fun _ => .bind (M := I)
    (.onlyIf (fun _ => (endOverride_stays h timer).pre fun _ hs => hs.1) fun _ hs => hs.1) fun _ => .pure (fun _ hs => hs) _

theorem doorClosed_stays : Act.Stays I I doorClosed := by
  have bins (is : List (Fin 4)) : Act.Stays I I (readBins is) := by
    induction is with
    | nil => exact .pure (fun _ hs => hs) _
    | cons i is ih =>
      refine .bind (h.checkEntry (by simp)) fun r => .look_bind fun _ => .bind (ih.pre fun _ hs => hs.1) fun _ => ?_
      cases r <;> exact .pure (fun _ hs => hs) _
  refine .upd_bind (fun s hs => timer s _ hs) <| .bind (bins _) fun _ => .look_bind fun _ => ?_
  split
  · exact .upd fun s hs => timer s _ hs.1
  · exact .bind (h.readParams.pre fun _ hs => hs.1) fun _ => .ite (fun _ => .upd fun s hs => timer s _ hs)
      fun _ => .upd fun s hs => timer s _ hs

theorem doorOpened_stays : Act.Stays I I doorOpened :=
  .bind (h.giveAct _) fun _ => .look_bind fun _ => .ite
    (fun _ => .upd_bind (fun s hs => timer s _ hs.1) <| .bind (h.giveAct _) fun _ =>
      .upd_bind (fun s hs => timer s _ hs) (.upd fun s hs => timer s _ hs))
    fun _ => .upd_bind (fun s hs => timer s _ hs.1) (.upd fun s hs => timer s _ hs)

/-- The end of a debounce, given the two events it may turn into that change the operating state. -/
theorem debounceEnd_stays (wake : ∀ c busy, Act.Stays I I (Machine.wake c busy))
    (cancel : ∀ opened, Act.Stays I I (cancelParking opened)) (d : Door) (busy : LinesBusy) :
    Act.Stays I I (Machine.debounceEnd d busy) := by
  refine .look_bind fun line => .onlyIf (fun _ => .look_bind fun _ => .upd_bind (M := I)
    (fun s hs => timer s _ hs.1.1) <| .look_bind fun _ => Act.Leads.pre (P := I) ?_ fun _ hs => hs.1) fun _ hs => hs.1
  refine .look_bind fun o => Act.Leads.pre (P := I) ?_ fun _ hs => hs.1
  cases o
  · exact .bind (.onlyIf (fun _ => h.giveAct _) fun _ hs => hs) fun _ => .upd h.reportTimers
  · exact .bind (.onlyIf (fun _ => .upd h.stopPreclean) fun _ hs => hs) fun _ =>
      .bind (.onlyIf (fun _ => doorOpened_stays h timer) fun _ hs => hs) fun _ =>
        .bind (.onlyIf (fun _ => doorClosed_stays h timer) fun _ hs => hs) fun _ => .upd h.reportTimers
  · exact .ite (fun _ => cancel _) fun _ => .upd h.reportTimers
  · exact .bind h.readParams fun _ => .look_bind fun _ => .ite
      (fun _ => .onlyIf (fun _ => (wake _ _).pre fun _ hs => hs.1) fun _ hs => hs.1)
      fun _ => .upd fun s hs => h.park s _ hs.1

end

/-! ### Changes of the operating state -/

/-- A change of the operating state: the reports that wait are taken first, and the mode is chosen last. -/
theorem changeOpState_leads {J M M' J' : State → Prop} {o : OpState} {work : Act Unit} (waiting : ReportKeeps J E)
    (set : ∀ s, J s → M (s.setOpState o)) (hw : Act.Leads M M' E work) (settled : Act.Leads M' J' E opStateChanged) :
    Act.Leads J J' E (changeOpState o work) :=
  .bind waiting.takeWaiting fun _ => .upd_bind set <| .bind hw fun _ => settled

/-- What a wake does between RUN entry and the mode's choice: the slots' timers and the Timer Unit's measurement. -/
theorem wake_leads {M M' : State → Prop} (h : BlockKeeps I I) (set : ∀ s, I s → M (s.setOpState .run))
    (hm : BlockKeeps M I) (slots : ∀ s, M s → M s.wakeSlots) (run : ∀ s, M s → M' (s.onTimer TimerUnit.enterRun))
    (hm' : ReportKeeps M' I) (settled : Act.Leads M' I I opStateChanged) (c : StartCause) (busy : LinesBusy) :
    Act.Stays I I (wake c busy) := by
  refine .bind (changeOpState_leads h.toReportKeeps set ?_ settled) fun _ => .onlyIf
    (fun _ => .bind h.readParams fun _ => .upd fun s hs => h.park s _ hs) fun _ hs => hs
  exact .upd_bind (fun s hs => hm.port s _ (fun hb => hb) hs) <| .upd_bind (fun s hs => hm.park s _ hs) <|
    .upd_bind (fun s hs => hm.raise _ _ _ (hm.park s _ hs)) <| .upd_bind slots <|
      .upd_bind (fun s hs => hm.tally s _ hs) <| .bind hm.readParams fun _ =>
        .upd_bind (fun s hs => hm.integ s _ (fun _ => rfl) hs) <| .upd_bind run hm'.takeWaiting

theorem parkedEntry_stays (h : BlockKeeps I I) (hp : ReportKeeps (fun s => I s ∧ s.mgmt.opState = .parking) I)
    (set : ∀ s, I s → s.mgmt.opState = .parking → I (s.setOpState .parked))
    (empty : ∀ s timers, I s → I (s.emptySlots timers))
    (completion : ∀ s b, I s → I (s.onCmd fun c => { c with completion := b })) : Act.Stays I I parkedEntry := by
  have told : Act.Stays I I controllerParked :=
    .look_bind fun _ => .upd_bind (fun s hs => h.ctrl s _ (fun _ => rfl) hs.1) <| .upd_bind h.deriveAgain <|
      .bind h.causesAgain fun _ => .upd fun s hs => h.handOver s _ hs
  refine .look_bind fun _ => .onlyIf (fun _ => .upd_bind (M := I) (fun s hs => completion s false hs.1) <|
    .look_bind fun holds => .onlyIf (fun yes => ?_) fun _ hs => hs.1) fun _ hs => hs.1
  refine .bind (hp.takeWaiting.pre fun s hs => ⟨hs.1, ?_⟩) fun _ => ?_
  · have := hs.2.trans yes
    simp only [Bool.and_eq_true, beq_iff_eq] at this
    exact this.1
  · exact .upd_bind (fun s hs => set s hs.1 hs.2) <| .upd_bind (fun s hs => empty s _ hs) <| .bind told fun _ =>
      .upd_bind (fun s hs => h.intake s _ hs) <| .upd_bind (fun s hs => h.park s _ hs) <|
        .upd_bind (fun s hs => h.tally s _ hs) <| .upd fun s hs => h.integ s _ (fun _ => rfl) hs

theorem linkReset_stays (h : BlockKeeps I I)
    (cleared : ∀ s (reply : Option Frame), reply.toList.length ≤ 1 → I s → I (s.linkCleared reply)) (reply : Option Frame)
    (one : reply.toList.length ≤ 1) : Act.Stays I I (linkReset reply) :=
  .upd_bind (fun s hs => cleared s reply one hs) <| .bind h.causesAgain fun _ => .bind (h.handTargets _) fun _ =>
    .upd_bind (fun s hs => h.notice s _ hs) <| .upd fun s hs => h.raise _ _ _ (h.park s _ hs)

/-- A property that speaks neither of the operating state, nor of the mode, nor of the timers. -/
structure OpStateBlind (I : State → Prop) : Prop extends BlockKeeps I I where
  timer : ∀ s f, I s → I (s.onTimer f)
  setOpState : ∀ s o, I s → I (s.setOpState o)
  mode : ∀ s f, I s → I (s.onCtrl f)
  wakeSlots : ∀ s, I s → I s.wakeSlots
  emptySlots : ∀ s timers, I s → I (s.emptySlots timers)
  setCompletion : ∀ s b, I s → I (s.onCmd fun c => { c with completion := b })
  linkCleared : ∀ s (reply : Option Frame), reply.toList.length ≤ 1 → I s → I (s.linkCleared reply)

theorem reportCompletion_keeps (completion : ∀ s b, I s → I (s.onCmd fun c => { c with completion := b })) (s : State)
    (hs : I s) : I s.reportCompletion := by
  unfold State.reportCompletion
  split
  · exact completion s true hs
  · exact hs

/-- Beside a condition that speaks of the operating state alone. -/
theorem ReportKeeps.andOpState (h : ReportKeeps I E) (o : OpState) :
    ReportKeeps (fun s => I s ∧ s.mgmt.opState = o) E where
  toReadKeeps := h.toReadKeeps.and (.opState o)
  ctrl s f hf hs := ⟨h.ctrl s f hf hs.1, hs.2⟩
  setMode s m hm hs := ⟨h.setMode s m hm hs.1, hs.2⟩
  handOver s ho hs := ⟨h.handOver s ho hs.1, by simpa using hs.2⟩
  delivery s a f hf hs := ⟨h.delivery s a f hf hs.1, hs.2⟩
  queue s a v hh hs := ⟨h.queue s a v hh hs.1, hs.2⟩
  actuatorFaulted s a hs := ⟨h.actuatorFaulted s a hs.1, by
    unfold State.actuatorFaulted State.reportCompletion
    split <;> exact hs.2⟩

theorem OpStateBlind.opStateKeeps (h : OpStateBlind I) : OpStateKeeps I := by
  have change {o : OpState} {work : Act Unit} (hw : Act.Stays I I work) : Act.Stays I I (changeOpState o work) :=
    changeOpState_leads h.toReportKeeps (fun s => h.setOpState s o) hw h.opStateChanged
  have wakes (c : StartCause) (busy : LinesBusy) : Act.Stays I I (wake c busy) :=
    wake_leads h.toBlockKeeps (fun s => h.setOpState s _) h.toBlockKeeps h.wakeSlots (fun s => h.timer s _)
      h.toReportKeeps h.opStateChanged c busy
  have cancel (opened : Bool) : Act.Stays I I (cancelParking opened) :=
    change (.upd_bind (fun s hs => h.timer s _ hs) <| .bind (.onlyIf (fun _ => h.giveAct _) fun _ hs => hs) fun _ =>
      h.raiseOwed)
  constructor
  case parkingEntry =>
    exact fun n => .bind (change (.upd_bind (fun s hs => h.park s _ hs) <| .upd_bind (fun s hs => h.timer s _ hs) <|
      .upd fun s hs => h.park s _ hs)) fun _ => .upd (reportCompletion_keeps h.setCompletion)
  case enterConfig =>
    exact .bind (change (.upd_bind (fun s hs => h.timer s _ hs) (.upd h.stopPreclean))) fun _ => .pure (fun _ hs => hs) _
  case enterRun => exact change (.upd fun s hs => h.timer s _ hs)
  case wake => exact wakes
  case debounceEnd => exact debounceEnd_stays h.toBlockKeeps h.timer wakes cancel
  case parkedEntry =>
    exact parkedEntry_stays h.toBlockKeeps (h.toReportKeeps.andOpState _) (fun s hs _ => h.setOpState s _ hs) h.emptySlots
      h.setCompletion
  case linkReset => exact linkReset_stays h.toBlockKeeps h.linkCleared

end Sys2Proof.Machine
end

section
/-! SUPPORT. The mode that the operating state fixes (R12), and the queue of commands, through every event. -/

namespace Sys2Proof.Machine

open Sys2Proof

/-! ### The queue of commands that wait -/

theorem pending_withPins (s : State) (up low : Bool) : (s.withPins up low).pending = s.pending := by
  unfold State.withPins
  dsimp only
  split <;> rfl

theorem pending_blockKeeps (p : List Instr) : BlockKeeps (fun s => s.pending = p) (fun s => s.pending = p) where
  correct _ _ hs := by simpa using hs
  raise _ _ _ hs := by simpa using hs
  escalate _ _ _ hs := by simpa using hs
  wipe _ hs := by simpa using hs
  join _ _ _ hs _ _ := by simpa using hs
  ctrl _ _ _ hs := hs
  setMode _ _ _ hs := hs
  handOver _ _ hs := by simpa using hs
  delivery _ _ _ _ hs := hs
  queue _ _ _ _ hs := hs
  actuatorFaulted _ _ hs := by
    unfold State.actuatorFaulted State.reportCompletion
    split <;> exact hs
  tally _ _ hs := hs
  notice _ _ hs := hs
  intake _ _ hs := hs
  park _ _ hs := hs
  integ _ _ _ hs := hs
  params _ _ _ hs := hs
  bins _ _ hs := hs
  port _ _ _ hs := hs
  setFlips _ _ _ hs := by simpa using hs
  rewritten _ _ hs := by simpa using hs

theorem linkCleared_pending (reply : Option Frame) (s : State) : (s.linkCleared reply).pending = s.pending := by
  simp only [State.linkCleared, State.setMode, State.onNotice_pending, State.onCtrl_pending, State.setOpState_pending,
    State.onCmd_pending, State.onPark_pending, State.onIntake_pending, State.drawn, State.emptySlots,
    State.onQuantity_pending, State.onTimer_pending, State.onPort_pending]

theorem pending_opStateBlind (p : List Instr) : OpStateBlind fun s => s.pending = p where
  toBlockKeeps := pending_blockKeeps p
  timer _ _ hs := hs
  setOpState _ _ hs := hs
  mode _ _ hs := hs
  wakeSlots _ hs := hs
  emptySlots _ _ hs := hs
  setCompletion _ _ hs := hs
  linkCleared s reply _ hs := (linkCleared_pending reply s).trans hs

theorem pending_eventKeeps (p : List Instr) : EventKeeps fun s => s.pending = p :=
  have h := pending_opStateBlind p
  { h.toBlockKeeps, SlotKeeps.of_quantity h.toBlockKeeps (fun _ _ hs => hs) (fun s e hs _ _ => by simpa using hs),
    CommandKeeps.of_cmd h.toBlockKeeps fun _ _ hs => hs, TimerKeeps.of_timer h.toBlockKeeps h.timer,
    h.opStateKeeps with }

/-- No command changes the queue of those that wait. -/
theorem exec_pending (i : Instr) {s t : State} (e : exec i s = .next t) : t.pending = s.pending :=
  (pending_eventKeeps s.pending).exec ⟨fun s up low hs => (pending_withPins s up low).trans hs, fun _ _ _ _ hs => hs⟩
    i rfl e

/-! ### The mode that the operating state fixes -/

theorem State.ModeFollows.congr {s t : State} (h : s.ModeFollows) (ho : t.mgmt.opState = s.mgmt.opState)
    (hm : t.ctrl.mode = s.ctrl.mode) : t.ModeFollows := by
  simpa only [State.ModeFollows, ho, hm] using h

theorem State.modeFollows_of_safe {s : State} (ho : s.mgmt.opState = .config) (hm : s.ctrl.mode = .safe) :
    s.ModeFollows := by simpa only [State.ModeFollows, ho] using hm

theorem actuatorFaulted_opState (a : Actuator) (s : State) : (s.actuatorFaulted a).mgmt = s.mgmt := by
  unfold State.actuatorFaulted State.reportCompletion
  split <;> rfl

theorem actuatorFaulted_ctrl (a : Actuator) (s : State) : (s.actuatorFaulted a).ctrl = s.ctrl := by
  unfold State.actuatorFaulted State.reportCompletion
  split <;> rfl

theorem modeFollows_blockKeeps : BlockKeeps State.ModeFollows State.ModeFollows where
  correct _ _ hs := hs.congr (by simp) (by simp)
  raise _ _ _ hs := hs.congr (by simp) (by simp)
  escalate _ _ _ hs := hs.congr (by simp) (by simp)
  wipe _ _ := State.modeFollows_of_safe (by simp) (by simp)
  join _ _ _ hs _ _ := hs.congr (by simp) (by simp)
  ctrl s _ hf hs := hs.congr rfl (hf s.ctrl)
  setMode _ _ hm _ := hm
  handOver _ _ hs := hs.congr (by simp) (by simp)
  delivery _ _ _ _ hs := hs
  queue _ _ _ _ hs := hs
  actuatorFaulted _ _ hs := hs.congr (by rw [actuatorFaulted_opState]) (by rw [actuatorFaulted_ctrl])
  tally _ _ hs := hs
  notice _ _ hs := hs
  intake _ _ hs := hs
  park _ _ hs := hs
  integ _ _ _ hs := hs
  params s _ hf hs := hs.congr (hf s.mgmt) rfl
  bins _ _ hs := hs
  port _ _ _ hs := hs
  setFlips _ _ _ hs := hs.congr (by simp) (by simp)
  rewritten _ _ hs := hs.congr (by simp) (by simp)

/-- Between a change of the operating state and the choice of the mode anything may hold; a wipe leaves CONFIG and SAFE. -/
theorem true_blockKeeps : BlockKeeps (fun _ => True) State.ModeFollows where
  correct _ _ _ := trivial
  raise _ _ _ _ := trivial
  escalate _ _ _ _ := trivial
  wipe _ _ := State.modeFollows_of_safe (by simp) (by simp)
  join _ _ _ _ _ _ := trivial
  ctrl _ _ _ _ := trivial
  setMode _ _ _ _ := trivial
  handOver _ _ _ := trivial
  delivery _ _ _ _ _ := trivial
  queue _ _ _ _ _ := trivial
  actuatorFaulted _ _ _ := trivial
  tally _ _ _ := trivial
  notice _ _ _ := trivial
  intake _ _ _ := trivial
  park _ _ _ := trivial
  integ _ _ _ _ := trivial
  params _ _ _ _ := trivial
  bins _ _ _ := trivial
  port _ _ _ _ := trivial
  setFlips _ _ _ _ := trivial
  rewritten _ _ _ := trivial

/-- The mode chosen after a change of the operating state follows it, whatever held before (R12). -/
theorem opStateChanged_modeFollows : Act.Leads (fun _ => True) State.ModeFollows State.ModeFollows opStateChanged :=
  .upd_bind (M := fun _ => True) (fun _ _ => trivial) <|
    ReportKeeps.settle_leads true_blockKeeps.toReadKeeps modeFollows_blockKeeps.toReportKeeps (fun _ _ hs => hs)
      (fun _ _ _ hm => hm) _ _

theorem modeFollows_changeOpState (o : OpState) {work : Act Unit}
    (hw : Act.Leads (fun _ => True) (fun _ => True) State.ModeFollows work) :
    Act.Stays State.ModeFollows State.ModeFollows (changeOpState o work) :=
  changeOpState_leads modeFollows_blockKeeps.toReportKeeps (fun _ _ => trivial) hw opStateChanged_modeFollows

theorem modeFollows_timer (s : State) (f : TimerUnit → TimerUnit) (hs : s.ModeFollows) : (s.onTimer f).ModeFollows := hs

theorem modeFollows_opStateKeeps : OpStateKeeps State.ModeFollows := by
  have wakes (c : StartCause) (busy : LinesBusy) : Act.Stays State.ModeFollows State.ModeFollows (wake c busy) :=
    wake_leads modeFollows_blockKeeps (fun _ _ => trivial) true_blockKeeps (fun _ _ => trivial) (fun _ _ => trivial)
      true_blockKeeps.toReportKeeps opStateChanged_modeFollows c busy
  have cancel (opened : Bool) : Act.Stays State.ModeFollows State.ModeFollows (cancelParking opened) :=
    modeFollows_changeOpState .run <| .upd_bind (M := fun _ => True) (fun _ _ => trivial) <|
      .bind (.onlyIf (fun _ => .give true_blockKeeps.tally _) fun _ hs => hs) fun _ => true_blockKeeps.raiseOwed
  constructor
  case parkingEntry =>
    exact fun n => .bind (modeFollows_changeOpState .parking (.upd_bind (M := fun _ => True) (fun _ _ => trivial)
      (.upd_bind (M := fun _ => True) (fun _ _ => trivial) (.upd fun _ _ => trivial)))) fun _ =>
        .upd (reportCompletion_keeps fun _ _ hs => hs)
  case enterConfig =>
    exact .bind (modeFollows_changeOpState .config (.upd_bind (M := fun _ => True) (fun _ _ => trivial)
      (.upd fun _ _ => trivial))) fun _ => .pure (fun _ hs => hs) _
  case enterRun => exact modeFollows_changeOpState .run (.upd fun _ _ => trivial)
  case wake => exact wakes
  case debounceEnd => exact debounceEnd_stays modeFollows_blockKeeps modeFollows_timer wakes cancel
  case parkedEntry =>
    refine parkedEntry_stays modeFollows_blockKeeps (modeFollows_blockKeeps.toReportKeeps.andOpState _)
      (fun s hs ho => ?_) (fun _ _ hs => hs) fun _ _ hs => hs
    have mode : s.ctrl.mode = .park := by simpa only [State.ModeFollows, ho] using hs
    exact mode
  case linkReset => exact linkReset_stays modeFollows_blockKeeps fun _ _ _ _ => State.modeFollows_of_safe rfl rfl

theorem modeFollows_withPins (s : State) (up low : Bool) : (s.withPins up low).ModeFollows := by
  unfold State.withPins
  dsimp only
  split <;> exact State.modeFollows_of_safe rfl rfl

theorem modeFollows_stepKeeps : StepKeeps State.ModeFollows :=
  { modeFollows_blockKeeps,
    SlotKeeps.of_quantity modeFollows_blockKeeps (fun _ _ hs => hs) (fun s e hs _ _ => hs.congr (by simp) (by simp)),
    CommandKeeps.of_cmd modeFollows_blockKeeps fun _ _ hs => hs,
    TimerKeeps.of_timer modeFollows_blockKeeps modeFollows_timer, modeFollows_opStateKeeps with
    withPins := fun s up low _ => modeFollows_withPins s up low
    setLevel := fun _ _ _ _ hs => hs
    dequeue := fun _ _ hs => hs
    tick := fun _ hs => hs }

/-- Settles O56: the mode changes where the Controller chooses it, and with the operating state. -/
theorem theModeFollowsTheOperatingState : Obligations.TheModeFollowsTheOperatingState :=
  fun _ _ hs e => modeFollows_stepKeeps.step hs e

end Sys2Proof.Machine
end

section
/-! SUPPORT. The Fault List, the frame queues and the arbiters' counters through every event (R181, R127 to R132). -/

namespace Sys2Proof.Machine

open Sys2Proof

/-! ### The Port Unit through a raise -/

theorem State.queuesBounded_iff (s : State) : s.QueuesBounded ↔ s.port.Bounded := Iff.rfl

theorem offered_bounded {p : PortUnit} (h : p.Bounded) (f : Frame) :
    PortUnit.Bounded { p with rpq := offer rpqCapacity p.rpq f } := by
  obtain ⟨ptq, fwq, rpq, rest⟩ := h
  exact ⟨ptq, fwq, offer_length rpq, rest⟩

theorem raiseRecord_bounded (k : NoticeKind) (d : Detail) {s : State} (h : s.QueuesBounded) :
    (s.raiseRecord k d).QueuesBounded := by
  simp only [State.raiseRecord]
  split
  · exact offered_bounded h _
  · exact h

theorem State.QueuesBounded.congr {s t : State} (h : s.QueuesBounded) (hp : t.port = s.port) : t.QueuesBounded := by
  simpa only [State.queuesBounded_iff, hp] using h

theorem State.FaultListSound.congr {s t : State} (h : s.FaultListSound) (hi : t.integ.faultList = s.integ.faultList) :
    t.FaultListSound := by
  simpa only [State.FaultListSound, hi] using h

/-! ### The Fault List -/

theorem joinFaultList_sound {s : State} {e : EntryId} (h : s.FaultListSound) (hf : s.isFaulted e = false)
    (hl : s.integ.faultList.length < faultListCapacity) : (s.joinFaultList e).FaultListSound := by
  obtain ⟨_, distinct⟩ := h
  have fresh : e ∉ s.integ.faultList := by simpa [State.isFaulted] using hf
  refine ⟨?_, ?_⟩
  · rw [State.joinFaultList_faultList, List.length_append]
    exact hl
  · rw [State.joinFaultList_faultList, List.nodup_append]
    exact ⟨distinct, by simp, by grind⟩

theorem rewritten_sound {s : State} (e : EntryId) (h : s.FaultListSound) : (s.rewritten e).FaultListSound := by
  obtain ⟨short, distinct⟩ := h
  refine ⟨?_, ?_⟩
  · rw [State.rewritten_faultList]
    exact Nat.le_trans List.length_erase_le short
  · rw [State.rewritten_faultList]
    exact distinct.erase e

theorem raiseWith_bounded (n : Nat) (k : NoticeKind) (d : Detail) {s : State} (h : s.QueuesBounded) :
    (s.raiseWith n k d).QueuesBounded := by
  simp only [State.raiseWith]
  split
  · exact (raiseRecord_bounded k d h).congr (by simp)
  · exact raiseRecord_bounded k d h

theorem tableWipe_bounded (s : State) : s.tableWipe.QueuesBounded := by
  have empty : PowerOn.port.Bounded := by simp [PortUnit.Bounded, PowerOn.port]
  unfold State.tableWipe
  exact raiseWith_bounded _ _ _ (raiseRecord_bounded _ _ empty)

/-! ### Through every event -/

/-- The Fault List and the queues sound. -/
def State.ListsSound (s : State) : Prop := s.FaultListSound ∧ s.QueuesBounded

theorem State.ListsSound.congr {s t : State} (h : s.ListsSound) (hi : t.integ.faultList = s.integ.faultList)
    (hp : t.port = s.port) : t.ListsSound := ⟨h.1.congr hi, h.2.congr hp⟩

theorem listsSound_blockKeeps : BlockKeeps State.ListsSound State.ListsSound where
  correct _ _ hs := ⟨hs.1.congr (by simp [State.correct]), raiseRecord_bounded _ _ (hs.2.congr (by simp))⟩
  raise _ k d hs := ⟨hs.1.congr (by simp), raiseRecord_bounded k d hs.2⟩
  escalate _ _ _ hs := hs.congr (by simp) (by simp)
  wipe s _ := ⟨by simp [State.FaultListSound], tableWipe_bounded s⟩
  join _ _ _ hs hf hl := ⟨joinFaultList_sound hs.1 hf hl, hs.2.congr (by simp)⟩
  ctrl _ _ _ hs := hs
  setMode _ _ _ hs := hs
  handOver _ _ hs := hs.congr (by simp) (by simp)
  delivery _ _ _ _ hs := hs
  queue _ _ _ _ hs := hs
  actuatorFaulted _ _ hs := by
    unfold State.actuatorFaulted State.reportCompletion
    split <;> exact hs
  tally _ _ hs := hs
  notice _ _ hs := hs
  intake _ _ hs := hs
  park _ _ hs := hs
  integ s _ hf hs := hs.congr (hf s.integ) rfl
  params _ _ _ hs := hs
  bins _ _ hs := hs
  port _ _ hf hs := ⟨hs.1, hf hs.2⟩
  setFlips _ _ _ hs := hs.congr (by simp) (by simp)
  rewritten _ e hs := ⟨rewritten_sound e hs.1, hs.2.congr (by simp)⟩

theorem linkCleared_integ (reply : Option Frame) (s : State) : (s.linkCleared reply).integ = s.integ := by
  simp only [State.linkCleared, State.setMode, State.onNotice_integ, State.onCtrl_integ, State.setOpState_integ,
    State.onCmd_integ, State.onPark_integ, State.onIntake_integ, State.drawn, State.emptySlots,
    State.onQuantity_integ, State.onTimer_integ, State.onPort_integ]

theorem linkCleared_port (reply : Option Frame) (s : State) :
    (s.linkCleared reply).port = { PowerOn.port with rpq := reply.toList } := by
  simp only [State.linkCleared, State.setMode, State.onNotice_port, State.onCtrl_port, State.setOpState_port,
    State.onCmd_port, State.onPark_port, State.onIntake_port, State.drawn, State.emptySlots,
    State.onQuantity_port, State.onTimer_port, State.onPort_port]

theorem linkCleared_bounded {reply : Option Frame} (h : reply.toList.length ≤ 1) (s : State) :
    (s.linkCleared reply).QueuesBounded := by
  rw [State.queuesBounded_iff, linkCleared_port]
  exact ⟨by simp [PowerOn.port], by simp [PowerOn.port], by dsimp only; omega, by simp [PowerOn.port],
    by simp [PowerOn.port]⟩

theorem listsSound_opStateBlind : OpStateBlind State.ListsSound where
  toBlockKeeps := listsSound_blockKeeps
  timer _ _ hs := hs
  setOpState _ _ hs := hs
  mode _ _ hs := hs
  wakeSlots _ hs := hs
  emptySlots _ _ hs := hs
  setCompletion _ _ hs := hs
  linkCleared s _ one hs := ⟨hs.1.congr (by rw [linkCleared_integ]), linkCleared_bounded one s⟩

theorem withPins_faultList (s : State) (up low : Bool) : (s.withPins up low).integ.faultList = [] := by
  unfold State.withPins
  dsimp only
  split <;> rfl

theorem withPins_bounded (s : State) (up low : Bool) : (s.withPins up low).QueuesBounded := by
  have reset : State.reset.port.Bounded := by unfold PortUnit.Bounded; decide
  have empty : PowerOn.port.Bounded := by unfold PortUnit.Bounded; decide
  unfold State.withPins
  dsimp only
  split
  · exact reset
  · exact empty

theorem listsSound_stepKeeps : StepKeeps State.ListsSound :=
  have h := listsSound_opStateBlind
  { h.toBlockKeeps,
    SlotKeeps.of_quantity h.toBlockKeeps (fun _ _ hs => hs)
      (fun s e hs hf hl => ⟨joinFaultList_sound hs.1 hf hl, hs.2.congr (by simp)⟩),
    CommandKeeps.of_cmd h.toBlockKeeps fun _ _ hs => hs, TimerKeeps.of_timer h.toBlockKeeps h.timer,
    h.opStateKeeps with
    withPins := fun s up low _ => ⟨by simp [State.FaultListSound, withPins_faultList], withPins_bounded s up low⟩
    setLevel := fun _ _ _ _ hs => hs
    dequeue := fun _ _ hs => hs
    tick := fun _ hs => hs }

/-! ### Slots whose setup is faulted -/

/-- The Fault List is sound, and every slot but x whose setup is on it accepts nothing. -/
def State.QuietBut (x : Option (Fin 32)) (s : State) : Prop :=
  s.FaultListSound ∧ ∀ j : Fin 32, some j ≠ x → s.isFaulted (.slotSetup j) = true →
    s.quantity.slots[j].status = .fault ∨ s.quantity.slots[j].status = .empty

theorem State.quietBut_none (s : State) : s.QuietBut none ↔ s.FaultListSound ∧ s.FaultedSlotsAcceptNothing := by
  simp [State.QuietBut, State.FaultedSlotsAcceptNothing]

theorem State.QuietBut.congr {x : Option (Fin 32)} {s t : State} (h : s.QuietBut x)
    (hi : t.integ.faultList = s.integ.faultList)
    (hq : ∀ j : Fin 32, t.quantity.slots[j].status = s.quantity.slots[j].status) : t.QuietBut x := by
  obtain ⟨sound, quiet⟩ := h
  refine ⟨sound.congr hi, fun j hj hf => ?_⟩
  rw [hq]
  exact quiet j hj (by simpa only [State.isFaulted, hi] using hf)

theorem State.quietBut_of_emptyList {s : State} (x : Option (Fin 32)) (h : s.integ.faultList = []) : s.QuietBut x :=
  ⟨by simp [State.FaultListSound, h], fun j _ hf => by simp [State.isFaulted, h] at hf⟩

theorem State.quietBut_of_emptied {s : State} (hs : s.FaultListSound)
    (h : ∀ j : Fin 32, s.quantity.slots[j].status = .empty) (x : Option (Fin 32)) : s.QuietBut x :=
  ⟨hs, fun j _ _ => .inr (h j)⟩

/-- A slot written, the one excepted or one that still accepts nothing if its setup is faulted. -/
theorem State.QuietBut.onSlot {x : Option (Fin 32)} {s : State} {i : Fin 32} {f : Slot → Slot} (h : s.QuietBut x)
    (hx : ∀ j, j ≠ i → some j ≠ x) (hf : s.isFaulted (.slotSetup i) = true →
      (f s.quantity.slots[i]).status = .fault ∨ (f s.quantity.slots[i]).status = .empty) : (s.onSlot i f).QuietBut none := by
  refine ⟨h.1, fun j _ faulted => ?_⟩
  by_cases hj : i = j
  · subst hj
    simpa [State.onSlot] using hf faulted
  · simpa [State.onSlot, Vector.getElem_set_ne _ _ (fun e => hj (Fin.ext e))] using h.2 j (hx j (Ne.symm hj)) faulted

theorem setFlips_slots (e : EntryId) (cells : List Nat) (s : State) :
    (s.setFlips e cells).quantity.slots = s.quantity.slots := by
  cases e <;> rfl

theorem correct_slots (e : EntryId) (s : State) : (s.correct e).quantity.slots = s.quantity.slots := by
  simp [State.correct, setFlips_slots]

theorem quietBut_readKeeps (x : Option (Fin 32)) : ReadKeeps (State.QuietBut x) (State.QuietBut none) where
  correct _ _ hs := hs.congr (by simp [State.correct]) (by simp [correct_slots])
  raise _ _ _ hs := hs.congr (by simp) (by simp)
  escalate _ _ _ hs := hs.congr (by simp) (by simp)
  wipe _ _ := State.quietBut_of_emptyList none (by simp)
  join s _ he hs hf hl := by
    refine ⟨joinFaultList_sound hs.1 hf hl, fun j hj faulted => ?_⟩
    have listed : s.isFaulted (.slotSetup j) = true := by
      simpa [State.isFaulted, Ne.symm (he j)] using faulted
    simpa using hs.2 j hj listed

theorem rewritten_quiet {x : Option (Fin 32)} (e : EntryId) {s : State} (h : s.QuietBut x) : (s.rewritten e).QuietBut x :=
  ⟨rewritten_sound e h.1, fun j hj faulted => by
    have listed : s.isFaulted (.slotSetup j) = true := by
      simpa [State.isFaulted] using List.mem_of_mem_erase (by simpa [State.isFaulted] using faulted)
    simpa using h.2 j hj listed⟩

theorem quiet_blockKeeps : BlockKeeps (State.QuietBut none) (State.QuietBut none) where
  toReadKeeps := quietBut_readKeeps none
  ctrl _ _ _ hs := hs
  setMode _ _ _ hs := hs
  handOver _ _ hs := hs.congr (by simp) (by simp)
  delivery _ _ _ _ hs := hs
  queue _ _ _ _ hs := hs
  actuatorFaulted _ _ hs := by
    unfold State.actuatorFaulted State.reportCompletion
    split <;> exact hs
  tally _ _ hs := hs
  notice _ _ hs := hs
  intake _ _ hs := hs
  park _ _ hs := hs
  integ s _ hf hs := hs.congr (hf s.integ) fun _ => rfl
  params _ _ _ hs := hs
  bins _ _ hs := hs
  port _ _ _ hs := hs
  setFlips _ _ _ hs := hs.congr (by simp) (by simp [setFlips_slots])
  rewritten _ e hs := rewritten_quiet e hs

theorem linkCleared_status (reply : Option Frame) (s : State) (j : Fin 32) :
    (s.linkCleared reply).quantity.slots[j].status = .empty := by
  simp only [State.linkCleared, State.setMode, State.onNotice_quantity, State.onCtrl_quantity, State.setOpState_quantity,
    State.onCmd_quantity, State.onPark_quantity, State.onIntake_quantity, State.drawn, State.emptySlots_status]

theorem quiet_opStateBlind : OpStateBlind (State.QuietBut none) where
  toBlockKeeps := quiet_blockKeeps
  timer _ _ hs := hs
  setOpState _ _ hs := hs
  mode _ _ hs := hs
  wakeSlots _ hs := hs.congr rfl fun j => by rw [State.wakeSlots_get]
  emptySlots s timers hs :=
    State.quietBut_of_emptied (s := s.emptySlots timers) hs.1 (State.emptySlots_status timers s) none
  setCompletion _ _ hs := hs
  linkCleared s reply _ hs :=
    State.quietBut_of_emptied (hs.1.congr (by rw [linkCleared_integ])) (linkCleared_status reply s) none

theorem quiet_raiseInputLost (i : Fin 32) :
    Act.Stays (State.QuietBut none) (State.QuietBut none) (raiseInputLost i) :=
  .look_bind fun _ => .onlyIf (fun _ => (quiet_blockKeeps.raiseAct _ _).pre fun _ hs => hs.1) fun _ hs => hs.1

/-- A slot newly faulted takes FAULT, and with it what was excepted is as the others (R180). -/
theorem quiet_slotToFault (i : Fin 32) :
    Act.Leads (State.QuietBut (some i)) (State.QuietBut none) (State.QuietBut none) (slotToFault i) :=
  .look_bind fun _ => .upd_bind (M := State.QuietBut none)
    (fun _ hs => hs.1.onSlot (fun j hj => by simpa using hj) fun _ => .inl rfl)
    (.onlyIf (fun _ => .upd_bind (quiet_blockKeeps.reportSlot i) (quiet_raiseInputLost i)) fun _ hs => hs)

/-- A setup read is that of a slot not faulted. -/
theorem quiet_readSetup (i : Fin 32) :
    Act.Triple (fun v => v.state.QuietBut none) (readSetup i)
      (fun su v => v.state.QuietBut none ∧ (su.isSome = true → v.state.isFaulted (.slotSetup i) = false))
      (fun v => v.state.QuietBut none) := by
  refine Act.triple_bind ((quietBut_readKeeps none).checkEntry_triple (M := State.QuietBut (some i)) (quietBut_readKeeps _)
    (by simp) fun s hs hf hl => ⟨joinFaultList_sound hs.1 hf hl, fun j hj faulted => ?_⟩) fun r => ?_
  · have listed : s.isFaulted (.slotSetup j) = true := by
      simpa [State.isFaulted, show j ≠ i by simpa using hj] using faulted
    simpa using hs.2 j (by simp) listed
  · cases r
    · exact fun v hv => ⟨hv.1, fun _ => hv.2⟩
    · exact fun v hv => ⟨hv, by simp⟩
    · exact Act.triple_bind (quiet_slotToFault i) fun _ v hv => ⟨hv, by simp⟩

/-- A slot whose setup is good may be written as a reading has it. -/
theorem quiet_judgeReading (i : Fin 32) (su : SlotSetup) (v : Int) :
    Act.Leads (fun s => s.QuietBut none ∧ s.isFaulted (.slotSetup i) = false) (State.QuietBut none) (State.QuietBut none)
      (judgeReading i su v) := by
  have h := quiet_blockKeeps
  have write (f : Slot → Slot) (s : State) (hs : s.QuietBut none ∧ s.isFaulted (.slotSetup i) = false) :
      (s.onSlot i f).QuietBut none := hs.1.onSlot (by simp) fun hf => by simp [hs.2] at hf
  have reject (f : Slot → Slot) : Act.Leads (fun s => s.QuietBut none ∧ s.isFaulted (.slotSetup i) = false)
      (State.QuietBut none) (State.QuietBut none) (rejectReading i f) :=
    .look_bind fun _ => .upd_bind (M := State.QuietBut none) (fun s hs => write _ s hs.1) <| .look_bind fun _ =>
      .onlyIf (fun _ => .upd_bind (fun s hs => h.reportSlot i s hs.1) (h.raiseAct _ _)) fun _ hs => hs.1
  refine .look_bind fun verdict => Act.Leads.pre ?_ fun _ hs => hs.1
  cases verdict
  · exact .bind (reject _) fun _ => h.giveAct _
  · exact .bind (reject _) fun _ => h.giveAct _
  · exact .upd_bind (write _) (.upd_bind (h.reportSlot i) (h.giveAct _))

theorem quiet_slotKeeps : SlotKeeps (State.QuietBut none) := by
  have h := quiet_blockKeeps
  have read (i : Fin 32) : Act.Stays (State.QuietBut none) (State.QuietBut none) (readSetup i) :=
    Act.triple_mono (quiet_readSetup i) (fun _ hv => hv) (fun _ _ hv => hv.1) fun _ hv => hv
  constructor
  case readSetup => exact read
  case deliverReading =>
    intro i v sensor
    refine Act.triple_bind (quiet_readSetup i) fun setup => ?_
    rcases setup with _ | su
    · exact (h.giveAct _).pre (P' := fun s => s.QuietBut none ∧ (_ → s.isFaulted (.slotSetup i) = false)) fun _ hs => hs.1
    · refine Act.Leads.pre (P := fun s => s.QuietBut none ∧ s.isFaulted (.slotSetup i) = false)
        (P' := fun s => s.QuietBut none ∧ ((some su).isSome = true → s.isFaulted (.slotSetup i) = false)) ?_
        fun _ hs => ⟨hs.1, hs.2 rfl⟩
      refine .ite (fun _ => (h.giveAct _).pre fun _ hs => hs.1) fun _ => ?_
      cases sensor
      · exact quiet_judgeReading i su v
      · exact (h.giveAct _).pre fun _ hs => hs.1
      · exact .bind ((quiet_slotToFault i).pre fun _ hs => ⟨hs.1.1, fun j _ => hs.1.2 j (by simp)⟩) fun _ => h.giveAct _
  case staleExpiry =>
    intro i
    refine .look_bind fun _ => .onlyIf (fun _ => .look_bind fun fault => ?_) fun _ hs => hs.1
    have ended (s : State) (hs : s.QuietBut none) : (s.onSlot i Slot.endStale).QuietBut none :=
      hs.onSlot (by simp) fun hf => by
        have := hs.2 i (by simp) hf
        simpa only [Slot.endStale, Slot.countSecond, apply_ite Slot.status, ite_self] using this
    refine Act.Leads.upd_bind (M := fun s => s.QuietBut none ∧ (fault = false → s.isFaulted (.slotSetup i) = false))
      (fun s hs => ⟨ended s hs.1.1, fun hn => ?_⟩) ?_
    · have seen := hs.2.trans hn
      change s.isFaulted (.slotSetup i) = false
      by_contra hf
      rw [State.slotSeen_faulted (by simpa using hf)] at seen
      simp at seen
    · refine .onlyIf (fun hn => ?_) fun _ hs => hs.1
      refine .upd_bind (fun s hs => hs.1.onSlot (by simp) fun hf => ?_)
        (.upd_bind (h.reportSlot i) (quiet_raiseInputLost i))
      have good : s.isFaulted (.slotSetup i) = false := hs.2 (by simpa using hn)
      simp [good] at hf
  case writeSetup =>
    intro s i su hs
    have written : (State.onQuantity (fun q => { q with setups := q.setups.set i (PowerOn.fresh su) }) s).QuietBut none := hs
    have emptied := (rewritten_quiet (.slotSetup i) written).onSlot (i := i) (f := fun _ => emptiedSlot su.staleStart)
      (by simp) fun _ => .inr rfl
    exact h.reportSlot i _ (h.ctrl _ (fun c => { c with bindings := c.bindings.bind i su.kind }) (fun _ => rfl) emptied)
  case writeComp =>
    intro s i n su c hs
    have written : (State.onQuantity (fun q => { q with setups := q.setups.set i (PowerOn.fresh (su.setComp n c)) }) s).QuietBut
      none := hs
    have slot := written.onSlot (i := i) (f := fun sl => sl.setComp n ((sl.comp n).rewritten c.direction)) (by simp)
      fun hf => by cases n <;> exact hs.2 i (by simp) hf
    unfold State.writeComp
    dsimp only
    split
    · exact h.reportSlot i _ slot
    · exact slot

theorem slot_tick_status (sl : Slot) : sl.tick.status = sl.status := by
  unfold Slot.tick
  dsimp only
  split <;> rfl

theorem quiet_stepKeeps : StepKeeps (State.QuietBut none) :=
  have h := quiet_opStateBlind
  { h.toBlockKeeps, quiet_slotKeeps, CommandKeeps.of_cmd h.toBlockKeeps fun _ _ hs => hs,
    TimerKeeps.of_timer h.toBlockKeeps h.timer, h.opStateKeeps with
    withPins := fun s up low _ => State.quietBut_of_emptyList none (withPins_faultList s up low)
    setLevel := fun _ _ _ _ hs => hs
    dequeue := fun _ _ hs => hs
    tick := fun s hs => hs.congr rfl fun j => by
      simp only [State.tick, QuantityTable.tick]
      split
      · rfl
      · rw [mapTable_get, slot_tick_status] }

/-- Settles O57: each queue is offered frames only while it has room, an entry joins the Fault List only while it is not
on it and there is room, and a setup that joins it makes its slot FAULT. -/
theorem listsQueuesAndCountersStayBounded : Obligations.ListsQueuesAndCountersStayBounded := by
  refine ⟨fun s t hl hq e => listsSound_stepKeeps.step ⟨hl, hq⟩ e, fun s t hl hf e => ?_⟩
  exact ((State.quietBut_none t).mp (quiet_stepKeeps.step ((State.quietBut_none s).mpr ⟨hl, hf⟩) e)).2

end Sys2Proof.Machine
end

section
/-! SUPPORT. The Command Engine's queues, timers and halted flag in agreement with the delivery states, through every
event (R98 to R112). -/

namespace Sys2Proof.Machine

open Sys2Proof

/-! ### One delivery changed -/

theorem PerActuator.get_set {α : Type} (t : PerActuator α) (a b : Actuator) (x : α) :
    (t.set a x).get b = if b = a then x else t.get b := by
  cases a <;> cases b <;> rfl

@[simp] theorem PerActuator.get_map {α β : Type} (f : α → β) (t : PerActuator α) (a : Actuator) :
    (t.map f).get a = f (t.get a) := by
  cases a <;> rfl

theorem CommandEngine.onDelivery_get (c : CommandEngine) (a b : Actuator) (f : Delivery → Delivery) :
    (c.onDelivery a f).delivery.get b = if b = a then f (c.delivery.get a) else c.delivery.get b :=
  PerActuator.get_set _ _ _ _

/-- Soundness speaks of the queues, the halted flag, and three fields of each delivery. -/
theorem CommandEngine.Sound.congr {c c' : CommandEngine} (h : c.Sound) (hq : c'.cmq = c.cmq) (hd : c'.due = c.due)
    (hh : c'.halted = c.halted) (hp : ∀ a, (c'.delivery.get a).pendingValue = (c.delivery.get a).pendingValue)
    (ho : ∀ a, (c'.delivery.get a).outstanding = (c.delivery.get a).outstanding)
    (ht : ∀ a, (c'.delivery.get a).ackTimer.isSome = (c.delivery.get a).ackTimer.isSome) : c'.Sound := by
  simpa only [CommandEngine.Sound, hq, hd, hh, hp, ho, ht] using h

/-- One actuator's delivery and the queues changed together, the other actuators' places kept. -/
theorem CommandEngine.Sound.set {c : CommandEngine} (h : c.Sound) {a : Actuator} {d : Delivery} {cmq due : List Actuator}
    (nq : cmq.Nodup) (nd : due.Nodup) (oq : ∀ b, b ≠ a → (b ∈ cmq ↔ b ∈ c.cmq)) (od : ∀ b, b ≠ a → (b ∈ due ↔ b ∈ c.due))
    (pend : a ∈ cmq ↔ d.pendingValue.isSome = true) (out : a ∈ due ↔ ∃ o, d.outstanding = some o ∧ o.phase = .due)
    (timer : d.ackTimer.isSome = true ↔ ∃ o, d.outstanding = some o ∧ o.phase = .waiting)
    (halted : c.halted = true → cmq = [] ∧ d.outstanding = none) :
    ({ c with delivery := c.delivery.set a d, cmq := cmq, due := due } : CommandEngine).Sound := by
  obtain ⟨_, _, hpend, hout, htimer, hhalted⟩ := h
  refine ⟨nq, nd, fun b => ?_, fun b => ?_, fun b => ?_, fun hh => ⟨(halted hh).1, fun b => ?_⟩⟩ <;>
    rw [PerActuator.get_set] <;> by_cases hb : b = a
  · simpa only [hb, if_true] using pend
  · simpa only [hb, if_false] using (oq b hb).trans (hpend b)
  · simpa only [hb, if_true] using out
  · simpa only [hb, if_false] using (od b hb).trans (hout b)
  · simpa only [hb, if_true] using timer
  · simpa only [hb, if_false] using htimer b
  · simpa only [hb, if_true] using (halted hh).2
  · simpa only [hb, if_false] using (hhalted hh).2 b

theorem CommandEngine.Sound.onDelivery {c : CommandEngine} (h : c.Sound) (a : Actuator) {f : Delivery → Delivery}
    (hf : ∀ d : Delivery, (f d).pendingValue = d.pendingValue ∧ (f d).outstanding = d.outstanding ∧
      (f d).ackTimer = d.ackTimer) : (c.onDelivery a f).Sound := by
  have same (b : Actuator) : ((c.onDelivery a f).delivery.get b).pendingValue = (c.delivery.get b).pendingValue ∧
      ((c.onDelivery a f).delivery.get b).outstanding = (c.delivery.get b).outstanding ∧
      ((c.onDelivery a f).delivery.get b).ackTimer = (c.delivery.get b).ackTimer := by
    rw [c.onDelivery_get a b f]
    split
    next hb => exact hb ▸ hf _
    next => exact ⟨rfl, rfl, rfl⟩
  exact h.congr rfl rfl rfl (fun b => (same b).1) (fun b => (same b).2.1) fun b => by rw [(same b).2.2]

theorem mem_erase_of_ne {a b : Actuator} (h : b ≠ a) (l : List Actuator) : b ∈ l.erase a ↔ b ∈ l :=
  List.mem_erase_of_ne h

theorem CommandEngine.Sound.queueValue {c : CommandEngine} (h : c.Sound) (a : Actuator) (v : Nat)
    (free : c.halted = false) : (c.queueValue a v).Sound := by
  obtain ⟨nq, nd, hpend, hout, htimer, _⟩ := id h
  refine h.set (d := { c.delivery.get a with pendingValue := some v }) ?_ nd ?_ (fun _ _ => Iff.rfl) ?_ (hout a) (htimer a)
    (by simp [free])
  all_goals
    cases hp : (c.delivery.get a).pendingValue.isSome
    · have absent : a ∉ c.cmq := by simp [hpend, hp]
      grind
    · have present : a ∈ c.cmq := (hpend a).mpr hp
      grind

theorem CommandEngine.Sound.dropPending {c : CommandEngine} (h : c.Sound) (a : Actuator) : (c.dropPending a).Sound := by
  obtain ⟨nq, nd, _, hout, htimer, hhalted⟩ := id h
  exact h.set (d := { c.delivery.get a with pendingValue := none }) (nq.erase a) nd (fun b hb => mem_erase_of_ne hb _)
    (fun _ _ => Iff.rfl) (by simp [nq.mem_erase_iff]) (hout a) (htimer a)
    fun hh => ⟨by simp [(hhalted hh).1], (hhalted hh).2 a⟩

theorem CommandEngine.Sound.dropOutstanding {c : CommandEngine} (h : c.Sound) (a : Actuator) :
    (c.dropOutstanding a).Sound := by
  obtain ⟨nq, nd, hpend, _, _, hhalted⟩ := id h
  exact h.set (d := { c.delivery.get a with outstanding := none, ackTimer := none }) nq (nd.erase a) (fun _ _ => Iff.rfl)
    (fun b hb => mem_erase_of_ne hb _) (hpend a) (by simp [nd.mem_erase_iff]) (by simp)
    fun hh => ⟨(hhalted hh).1, rfl⟩

theorem CommandEngine.Sound.not_halted {c : CommandEngine} (h : c.Sound) {a : Actuator} {o : Outstanding}
    (ho : (c.delivery.get a).outstanding = some o) : c.halted ≠ true := fun hh => by
  obtain ⟨_, _, _, _, _, hhalted⟩ := h
  simp [(hhalted hh).2 a] at ho

theorem CommandEngine.Sound.becomeDue {c : CommandEngine} (h : c.Sound) {a : Actuator} {o' : Outstanding}
    (o : Outstanding) (ho : (c.delivery.get a).outstanding = some o') (hp : o'.phase ≠ .due) : (c.becomeDue a o).Sound := by
  obtain ⟨nq, nd, hpend, hout, _, _⟩ := id h
  have absent : a ∉ c.due := fun ha => by
    obtain ⟨x, hx, due⟩ := (hout a).mp ha
    exact hp (by rwa [← Option.some.inj (ho.symm.trans hx)] at due)
  exact h.set (d := { c.delivery.get a with outstanding := some { o with phase := .due }, ackTimer := none }) nq
    (by grind) (fun _ _ => Iff.rfl) (by grind) (hpend a) (by simp) (by simp) fun hh => absurd hh (h.not_halted ho)

theorem CommandEngine.Sound.sent {c : CommandEngine} (h : c.Sound) {a : Actuator} {o : Outstanding} (n : Nat)
    (ho : (c.delivery.get a).outstanding = some o) (hp : o.phase = .onLine) :
    (c.onDelivery a fun d => { d with outstanding := some { o with phase := .waiting }, ackTimer := some n }).Sound := by
  obtain ⟨nq, nd, hpend, hout, _, _⟩ := id h
  refine h.set (d := { c.delivery.get a with outstanding := some { o with phase := .waiting }, ackTimer := some n }) nq nd
    (fun _ _ => Iff.rfl) (fun _ _ => Iff.rfl) (hpend a) ?_ (by simp) fun hh => absurd hh (h.not_halted ho)
  simp [hout, ho, hp]

/-- What is on offer is a command DUE again, or a value waiting for an actuator with nothing outstanding (R101). -/
theorem CommandEngine.offered_spec {c : CommandEngine} {a : Actuator} (h : c.offered = some a) :
    c.halted = false ∧ (a ∈ c.due ∨ a ∈ c.cmq ∧ (c.delivery.get a).outstanding = none) := by
  unfold CommandEngine.offered at h
  split at h
  · cases h
  next free =>
    refine ⟨by simpa using free, ?_⟩
    split at h
    next due => exact .inl (by simp_all)
    next => exact .inr ⟨List.mem_of_find?_eq_some h, by simpa using List.find?_some h⟩

theorem sendCommand_sound {s : State} (h : s.cmd.Sound) {a : Actuator} (n : Nat) (ho : s.cmd.offered = some a) :
    (s.sendCommand a n).cmd.Sound := by
  obtain ⟨nq, nd, hpend, hout, htimer, _⟩ := id h
  obtain ⟨free, offer⟩ := CommandEngine.offered_spec ho
  have free : s.cmd.halted ≠ true := by simp [free]
  unfold State.sendCommand
  dsimp only
  split
  next o out =>
    obtain ⟨x, hx, due⟩ : ∃ x, (s.cmd.delivery.get a).outstanding = some x ∧ x.phase = .due := by
      rcases offer with member | ⟨_, none⟩
      · exact (hout a).mp member
      · simp [out] at none
    have phase : o.phase = .due := by rwa [← Option.some.inj (out.symm.trans hx)] at due
    have timer := htimer a
    simp only [out, Option.some.injEq, exists_eq_left', phase, reduceCtorEq, iff_false] at timer
    refine h.set (d := { s.cmd.delivery.get a with outstanding := some { o with phase := .onLine } }) nq (nd.erase a)
      (fun _ _ => Iff.rfl) (fun b hb => mem_erase_of_ne hb _) (hpend a) (by simp [nd.mem_erase_iff]) (by simpa using timer)
      fun hh => absurd hh free
  next v out pend =>
    have timer := htimer a
    have due := hout a
    simp only [out, reduceCtorEq, false_and, exists_false, iff_false] at timer due
    exact CommandEngine.Sound.set (c := { s.cmd with tagCounter := s.cmd.tagCounter + 1 }) h
      (d := { s.cmd.delivery.get a with
        pendingValue := none, outstanding := some ⟨s.cmd.tagCounter, v, 1, .onLine, false⟩ })
      (nq.erase a) nd (fun b hb => mem_erase_of_ne hb _) (fun _ _ => Iff.rfl) (by simp [nq.mem_erase_iff])
      (by simpa [CommandEngine.onDelivery] using due) (by simpa using timer) fun hh => absurd hh free
  next => exact h

/-! ### Through every event -/

theorem sound_reportCompletion {s : State} (h : s.cmd.Sound) : s.reportCompletion.cmd.Sound :=
  reportCompletion_keeps (I := fun s => s.cmd.Sound) (fun _ _ hs => hs) s h

theorem sound_actuatorFaulted {s : State} (a : Actuator) (h : s.cmd.Sound) : (s.actuatorFaulted a).cmd.Sound :=
  sound_reportCompletion (s := s.onCmd fun c =>
    ((c.dropPending a).dropOutstanding a).onDelivery a fun d => { d with lastAbandoned := none })
    (((h.dropPending a).dropOutstanding a).onDelivery a fun _ => ⟨rfl, rfl, rfl⟩)

theorem CommandEngine.sound_of_idle {c : CommandEngine} (hq : c.cmq = []) (hd : c.due = [])
    (h : ∀ a, (c.delivery.get a).pendingValue = none ∧ (c.delivery.get a).outstanding = none ∧
      (c.delivery.get a).ackTimer = none) : c.Sound := by
  simp [CommandEngine.Sound, hq, hd, h]

theorem setFlips_sound {s : State} (e : EntryId) (cells : List Nat) (h : s.cmd.Sound) : (s.setFlips e cells).cmd.Sound := by
  rw [State.setFlips_cmd]
  exact h

theorem sound_blockKeeps : BlockKeeps (fun s => s.cmd.Sound) (fun s => s.cmd.Sound) where
  correct _ _ hs := by
    rw [State.correct_cmd]
    exact hs
  raise _ _ _ hs := by simpa using hs
  escalate _ _ _ hs := by simpa using hs
  wipe _ _ := by
    rw [State.tableWipe_cmd]
    exact CommandEngine.sound_of_idle rfl rfl fun a => by cases a <;> exact ⟨rfl, rfl, rfl⟩
  join _ _ _ hs _ _ := by simpa using hs
  ctrl _ _ _ hs := hs
  setMode _ _ _ hs := hs
  handOver _ _ hs := by simpa using hs
  delivery _ a _ hf hs := hs.onDelivery a hf
  queue _ a v hh hs := hs.queueValue a v hh
  actuatorFaulted _ a hs := sound_actuatorFaulted a hs
  tally _ _ hs := hs
  notice _ _ hs := hs
  intake _ _ hs := hs
  park _ _ hs := hs
  integ _ _ _ hs := hs
  params _ _ _ hs := hs
  bins _ _ hs := hs
  port _ _ _ hs := hs
  setFlips _ e c hs := setFlips_sound e c hs
  rewritten _ _ hs := by simpa using hs

/-- Nothing waits, and of the actuators outside as nothing is outstanding. -/
def CommandEngine.EmptiedBut (as : List Actuator) (c : CommandEngine) : Prop :=
  c.Sound ∧ c.cmq = [] ∧ ∀ b, b ∉ as → (c.delivery.get b).outstanding = none

theorem flushOther_leads (a : Actuator) (as : List Actuator) :
    Act.Leads (fun s => s.cmd.EmptiedBut (a :: as)) (fun s => s.cmd.EmptiedBut as) (fun s => s.cmd.Sound) (flushOther a) := by
  refine .look_bind fun out => ?_
  rcases out with _ | o
  · refine .pure (fun s ⟨⟨sound, empty, others⟩, out⟩ => ⟨sound, empty, fun b hb => ?_⟩) _
    by_cases h : b = a
    · exact h ▸ out
    · exact others b (by simp [h, hb])
  · refine .upd_bind (M := fun s => s.cmd.EmptiedBut as) (fun s ⟨⟨sound, empty, others⟩, _⟩ =>
      ⟨sound.dropOutstanding a, empty, fun b hb => ?_⟩) ?_
    · rw [State.onCmd_cmd]
      simp only [CommandEngine.dropOutstanding, CommandEngine.onDelivery_get]
      split
      · rfl
      next h => exact others b (by simp [h, hb])
    · refine .upd_bind (M := fun s => s.cmd.EmptiedBut as) (fun s ⟨sound, empty, others⟩ =>
        ⟨sound.onDelivery a fun _ => ⟨rfl, rfl, rfl⟩, empty, fun b hb => ?_⟩) (.give (fun _ _ hs => hs) _)
      rw [State.onDelivery, State.onCmd_cmd, CommandEngine.onDelivery_get]
      split
      next h => exact others a (h ▸ hb)
      next => exact others b hb

theorem flushOthers_leads (as : List Actuator) :
    Act.Leads (fun s => s.cmd.EmptiedBut as) (fun s => s.cmd.EmptiedBut []) (fun s => s.cmd.Sound)
      (forAll as flushOther) := by
  induction as with
  | nil => exact .pure (fun _ hs => hs) _
  | cons a as ih => exact .bind (flushOther_leads a as) fun _ => ih

theorem sound_flushQueue : Act.Stays (fun s => s.cmd.Sound) (fun s => s.cmd.Sound) flushQueue := by
  refine .upd_bind (M := fun s => s.cmd.EmptiedBut Actuator.all) (fun s hs => ⟨?_, rfl, fun b hb => ?_⟩)
    (.bind (flushOthers_leads _) fun _ => .upd fun s ⟨sound, empty, others⟩ => ?_)
  · obtain ⟨nq, nd, hpend, hout, htimer, hhalted⟩ := hs
    refine ⟨List.nodup_nil, nd, by simp, fun a => ?_, fun a => ?_, fun hh => ⟨rfl, fun a => ?_⟩⟩
    · simpa using hout a
    · simpa using htimer a
    · simpa using (hhalted hh).2 a
  · cases b <;> simp [Actuator.all] at hb
  · obtain ⟨nq, nd, hpend, hout, htimer, _⟩ := sound
    exact ⟨nq, nd, hpend, hout, htimer, fun _ => ⟨empty, fun a => others a (by simp)⟩⟩

theorem sound_commandKeeps : CommandKeeps fun s => s.cmd.Sound where
  entries _ _ hs := hs
  dropPending _ a hs := hs.dropPending a
  dropOutstanding _ a hs := hs.dropOutstanding a
  becomeDue s a o o' ho hp hs := hs.becomeDue o ho hp
  flushQueue := sound_flushQueue
  unhalt _ hs := by
    obtain ⟨nq, nd, hpend, hout, htimer, _⟩ := hs
    exact ⟨nq, nd, hpend, hout, htimer, by simp⟩
  completion _ _ hs := hs
  send _ _ n ho hs := sendCommand_sound hs n ho
  sent _ _ _ n ho hp hs := hs.sent n ho hp

theorem linkCleared_cmd (reply : Option Frame) (s : State) : (s.linkCleared reply).cmd = s.cmd.cleared := by
  simp only [State.linkCleared, State.setMode, State.onNotice_cmd, State.onCtrl_cmd, State.setOpState_cmd,
    State.onCmd_cmd, State.onPark_cmd, State.onIntake_cmd, State.drawn, State.emptySlots,
    State.onQuantity_cmd, State.onTimer_cmd, State.onPort_cmd]

theorem cleared_sound (c : CommandEngine) : c.cleared.Sound :=
  CommandEngine.sound_of_idle rfl rfl fun a => by cases a <;> exact ⟨rfl, rfl, rfl⟩

theorem sound_opStateBlind : OpStateBlind fun s => s.cmd.Sound where
  toBlockKeeps := sound_blockKeeps
  timer _ _ hs := hs
  setOpState _ _ hs := hs
  mode _ _ hs := hs
  wakeSlots _ hs := hs
  emptySlots _ _ hs := hs
  setCompletion _ _ hs := hs
  linkCleared s _ _ _ := by
    rw [linkCleared_cmd]
    exact cleared_sound s.cmd

theorem withPins_cmd (s : State) (up low : Bool) : (s.withPins up low).cmd = PowerOn.commandEngine := by
  unfold State.withPins
  dsimp only
  split <;> rfl

theorem commandEngine_sound : PowerOn.commandEngine.Sound :=
  CommandEngine.sound_of_idle rfl rfl fun a => by cases a <;> exact ⟨rfl, rfl, rfl⟩

theorem sound_tick {s : State} (h : s.cmd.Sound) : s.tick.cmd.Sound :=
  h.congr rfl rfl rfl (by simp [State.tick, Delivery.tick]) (by simp [State.tick, Delivery.tick])
    (by simp [State.tick, Delivery.tick, tickTimer])

theorem sound_stepKeeps : StepKeeps fun s => s.cmd.Sound :=
  have h := sound_opStateBlind
  { h.toBlockKeeps, SlotKeeps.of_quantity h.toBlockKeeps (fun _ _ hs => hs) (fun s e hs _ _ => by simpa using hs),
    sound_commandKeeps, TimerKeeps.of_timer h.toBlockKeeps h.timer, h.opStateKeeps with
    withPins := fun s up low _ => by
      rw [withPins_cmd]
      exact commandEngine_sound
    setLevel := fun _ _ _ _ hs => hs
    dequeue := fun _ _ hs => hs
    tick := fun _ hs => sound_tick hs }

/-- Settles O58: every event changes one delivery and its places in the queues together. -/
theorem theCommandEngineStaysSound : Obligations.TheCommandEngineStaysSound := fun _ _ hs e => sound_stepKeeps.step hs e

end Sys2Proof.Machine
end

section
/-! SUPPORT. The Timer Unit's timers in agreement with the operating state and the doors, and the debounces with the
lines' levels, through every event (R72 to R92, R144, R186 to R191). -/

namespace Sys2Proof.Machine

open Sys2Proof

/-! ### The Timer Unit in an operating state -/

/-- The Timer Unit as it is sound to be in the operating state o. -/
def TimerUnit.SoundIn (o : OpState) (t : TimerUnit) : Prop :=
  (o ≠ .run → t.recovery = none ∧ t.purge = none ∧ t.gap = none ∧ t.overrideTimer = none ∧ t.purgeCount = 0) ∧
    (t.doorOpen = true → t.recovery = none ∧ t.purge = none) ∧
    (t.overrideTimer.isSome = t.overrideRecord.isSome) ∧
    (t.measurement.counting = (o == .run && t.doorOpen))

/-- A condition on the operating state and the Timer Unit, beside sound debounces. -/
def State.Timed (p : OpState → TimerUnit → Prop) (s : State) : Prop := p s.mgmt.opState s.timer ∧ s.DebouncesSound

theorem State.timed_sound (s : State) :
    s.Timed (fun o t => t.SoundIn o) ↔ s.TimersSound ∧ s.DebouncesSound := Iff.rfl

/-- A condition that does not speak of the recovery bins, nor of what waits to be taken. -/
def TimedRest (p : OpState → TimerUnit → Prop) : Prop :=
  ∀ o t bins handovers, p o t → p o { t with bins := bins, handovers := handovers }

theorem State.DebouncesSound.congr {s t : State} (h : s.DebouncesSound) (ha : t.alive = s.alive)
    (hd : t.timer.doors = s.timer.doors) : t.DebouncesSound := by
  simpa only [State.DebouncesSound, ha, hd] using h

theorem State.Timed.congr {p : OpState → TimerUnit → Prop} {s t : State} (h : s.Timed p) (ho : t.mgmt = s.mgmt)
    (ht : t.timer = s.timer) (hu : t.supplyUp = s.supplyUp) (hl : t.resetLow = s.resetLow) : t.Timed p :=
  ⟨by rw [ho, ht]; exact h.1, h.2.congr (by rw [State.alive, State.alive, hu, hl]) (by rw [ht])⟩

/-- What a step changes of the Timer Unit outside its own work: the recovery bins and what waits to be taken. -/
theorem State.Timed.rest {p : OpState → TimerUnit → Prop} (hp : TimedRest p) {s t : State} (h : s.Timed p)
    (ho : t.mgmt.opState = s.mgmt.opState)
    (ht : t.timer = { s.timer with bins := t.timer.bins, handovers := t.timer.handovers })
    (hu : t.supplyUp = s.supplyUp) (hl : t.resetLow = s.resetLow) : t.Timed p :=
  ⟨by rw [ho, ht]; exact hp _ _ _ _ h.1, h.2.congr (by rw [State.alive, State.alive, hu, hl]) (by rw [ht])⟩

theorem setFlips_timer (e : EntryId) (cells : List Nat) (s : State) : (s.setFlips e cells).timer =
    { s.timer with bins := (s.setFlips e cells).timer.bins, handovers := (s.setFlips e cells).timer.handovers } := by
  cases e <;> rfl

theorem correct_timer (e : EntryId) (s : State) : (s.correct e).timer =
    { s.timer with bins := (s.correct e).timer.bins, handovers := (s.correct e).timer.handovers } := by
  simpa [State.correct] using setFlips_timer e [] s

theorem handOver_timer (h : Handover) (s : State) : (s.handOver h).timer =
    { s.timer with bins := (s.handOver h).timer.bins, handovers := (s.handOver h).timer.handovers } := by
  unfold State.handOver
  split <;> rfl

theorem timerUnit_soundIn (doors : PerDoor DoorLine) : (PowerOn.timerUnit doors).SoundIn .config := by
  simp [TimerUnit.SoundIn, PowerOn.timerUnit]

/-- Sound timers and sound debounces. -/
abbrev State.TimersAll : State → Prop := State.Timed fun o t => t.SoundIn o

theorem tableWipe_timed {p : OpState → TimerUnit → Prop} {s : State} (h : s.Timed p) : s.tableWipe.TimersAll := by
  refine ⟨?_, h.2.congr (by simp [State.alive]) (by simp [PowerOn.timerUnit])⟩
  rw [State.tableWipe_opState, State.tableWipe_timer]
  exact timerUnit_soundIn _

theorem actuatorFaulted_timed {p : OpState → TimerUnit → Prop} {s : State} (a : Actuator) (h : s.Timed p) :
    (s.actuatorFaulted a).Timed p := by
  unfold State.actuatorFaulted State.reportCompletion
  split <;> exact h

theorem timed_blockKeeps {p : OpState → TimerUnit → Prop} (hp : TimedRest p) :
    BlockKeeps (State.Timed p) State.TimersAll where
  correct s e hs := hs.rest hp (by simp) (correct_timer e s) (by simp) (by simp)
  raise _ _ _ hs := hs.congr (by simp) (by simp) (by simp) (by simp)
  escalate _ _ _ hs := hs.congr (by simp) (by simp) (by simp) (by simp)
  wipe _ hs := tableWipe_timed hs
  join _ _ _ hs _ _ := hs.congr (by simp) (by simp) (by simp) (by simp)
  ctrl _ _ _ hs := hs
  setMode _ _ _ hs := hs
  handOver s h hs := hs.rest hp (by simp) (handOver_timer h s) (by simp) (by simp)
  delivery _ _ _ _ hs := hs
  queue _ _ _ _ hs := hs
  actuatorFaulted _ a hs := actuatorFaulted_timed a hs
  tally _ _ hs := hs
  notice _ _ hs := hs
  intake _ _ hs := hs
  park _ _ hs := hs
  integ _ _ _ hs := hs
  params s _ hf hs := hs.rest hp (hf s.mgmt) rfl rfl rfl
  bins _ _ hs := hs.rest hp rfl rfl rfl rfl
  port _ _ _ hs := hs
  setFlips s e c hs := hs.rest hp (by simp) (setFlips_timer e c s) (by simp) (by simp)
  rewritten _ _ hs := hs.congr (by simp) (by simp) (by simp) (by simp)

/-! ### The Timer Unit's own changes -/

/-- A change of the Timer Unit that leaves the doors alone. -/
theorem State.Timed.onTimer {p q : OpState → TimerUnit → Prop} {s : State} {f : TimerUnit → TimerUnit} (h : s.Timed p)
    (hd : (f s.timer).doors = s.timer.doors) (hf : p s.mgmt.opState s.timer → q s.mgmt.opState (f s.timer)) :
    (s.onTimer f).Timed q := ⟨hf h.1, h.2.congr rfl hd⟩

/-- In RUN, sound. -/
def RunSound (o : OpState) (t : TimerUnit) : Prop := o = .run ∧ t.SoundIn .run

/-- In RUN with the doors closed, sound. -/
def ClosedSound (o : OpState) (t : TimerUnit) : Prop := o = .run ∧ t.SoundIn .run ∧ t.doorOpen = false

theorem timedRest_soundIn : TimedRest fun o t => t.SoundIn o := fun _ _ _ _ h => h
theorem timedRest_run : TimedRest RunSound := fun _ _ _ _ h => h
theorem timedRest_closed : TimedRest ClosedSound := fun _ _ _ _ h => h

theorem all_blockKeeps : BlockKeeps State.TimersAll State.TimersAll := timed_blockKeeps timedRest_soundIn

theorem run_blockKeeps : BlockKeeps (State.Timed RunSound) State.TimersAll := timed_blockKeeps timedRest_run

theorem closed_blockKeeps : BlockKeeps (State.Timed ClosedSound) State.TimersAll := timed_blockKeeps timedRest_closed

theorem State.Timed.of_run {s : State} (h : s.Timed RunSound) : s.TimersAll := ⟨h.1.1 ▸ h.1.2, h.2⟩

theorem State.Timed.of_closed {s : State} (h : s.Timed ClosedSound) : s.TimersAll := ⟨h.1.1 ▸ h.1.2.1, h.2⟩

theorem State.Timed.in_run {s : State} (h : s.TimersAll) (ho : s.mgmt.opState = .run) : s.Timed RunSound :=
  ⟨⟨ho, ho ▸ h.1⟩, h.2⟩

/-- A purge or a recovery runs in RUN only, with the doors closed. -/
theorem State.Timed.of_purge {s : State} (h : s.TimersAll) (hp : s.timer.purge.isSome = true) : s.Timed ClosedSound := by
  obtain ⟨⟨idle, doors, override, count⟩, deb⟩ := h
  have run : s.mgmt.opState = .run := by
    by_contra ho
    simp [(idle ho).2.1] at hp
  refine ⟨⟨run, run ▸ ⟨idle, doors, override, count⟩, ?_⟩, deb⟩
  by_contra hd
  simp [(doors (by simpa using hd)).2] at hp

theorem State.Timed.of_recovery {s : State} (h : s.TimersAll) (hp : s.timer.recovery.isSome = true) :
    s.Timed ClosedSound := by
  obtain ⟨⟨idle, doors, override, count⟩, deb⟩ := h
  have run : s.mgmt.opState = .run := by
    by_contra ho
    simp [(idle ho).1] at hp
  refine ⟨⟨run, run ▸ ⟨idle, doors, override, count⟩, ?_⟩, deb⟩
  by_contra hd
  simp [(doors (by simpa using hd)).1] at hp

/-! ### Expiries -/

theorem all_reportTimers (s : State) (h : s.TimersAll) : s.reportTimers.TimersAll := all_blockKeeps.reportTimers s h

/-- A purge started in RUN with the doors closed. -/
theorem ClosedSound.purge {o : OpState} {t : TimerUnit} (h : ClosedSound o t) (n : Nat) :
    ClosedSound o { t with purge := startedTimer n } := by
  obtain ⟨run, ⟨_, _, override, count⟩, closed⟩ := h
  exact ⟨run, ⟨by simp, fun open_ => absurd open_ (by simpa [TimerUnit.doorOpen] using closed), override, count⟩, closed⟩

theorem ClosedSound.count {o : OpState} {t : TimerUnit} (h : ClosedSound o t) (n : Nat) :
    ClosedSound o { t with purgeCount := n } := by
  obtain ⟨run, ⟨_, doors, override, count⟩, closed⟩ := h
  exact ⟨run, ⟨by simp, doors, override, count⟩, closed⟩

theorem tryPurgeStart_sound (further : Bool) : Act.Stays State.TimersAll State.TimersAll (tryPurgeStart further) := by
  refine .look_bind fun ready => .onlyIf (fun yes => ?_) fun _ hs => hs.1
  refine Act.Leads.pre (P := State.Timed ClosedSound) ?_ fun s hs => ?_
  · refine .bind closed_blockKeeps.readParams fun p => .onlyIf (fun _ => ?_) fun _ hs => hs.of_closed
    refine .upd_bind (M := State.Timed ClosedSound) (fun s hs => hs.onTimer rfl fun h => h.count _)
      (.upd fun s hs => State.Timed.of_closed ?_)
    refine hs.onTimer (q := ClosedSound) ?_ fun h => ?_
    · split <;> rfl
    · split
      · exact h.purge _
      · exact h
  · have holds := hs.2.trans yes
    simp only [Bool.and_eq_true, beq_iff_eq, Bool.not_eq_true'] at holds
    obtain ⟨⟨⟨run, closed⟩, _⟩, _⟩ := holds
    have inRun := State.Timed.in_run hs.1 run
    exact ⟨⟨run, inRun.1.2, closed⟩, inRun.2⟩

/-- The gap timer may stop, or in RUN start, at any time. -/
theorem TimerUnit.SoundIn.noGap {o : OpState} {t : TimerUnit} (h : t.SoundIn o) : TimerUnit.SoundIn o { t with gap := none } := by
  obtain ⟨idle, rest⟩ := h
  exact ⟨fun ho => ⟨(idle ho).1, (idle ho).2.1, rfl, (idle ho).2.2.2⟩, rest⟩

theorem gapExpired_sound : Act.Stays State.TimersAll State.TimersAll gapExpired :=
  .upd_bind (fun _ hs => hs.onTimer (q := fun o t => t.SoundIn o) rfl fun h => h.noGap) <| .look_bind fun _ =>
    .onlyIf (fun _ => (tryPurgeStart_sound _).pre fun _ hs => hs.1) fun _ hs => hs.1

theorem RunSound.gap {o : OpState} {t : TimerUnit} (h : RunSound o t) (g : Option Nat) : RunSound o { t with gap := g } :=
  ⟨h.1, by simp, h.2.2⟩

theorem RunSound.count {o : OpState} {t : TimerUnit} (h : RunSound o t) (n : Nat) : RunSound o { t with purgeCount := n } :=
  ⟨h.1, by simp, h.2.2⟩

theorem RunSound.noPurge {o : OpState} {t : TimerUnit} (h : RunSound o t) : RunSound o { t with purge := none } := by
  obtain ⟨run, _, doors, rest⟩ := h
  exact ⟨run, by simp, fun hd => ⟨(doors hd).1, rfl⟩, rest⟩

theorem ClosedSound.toRun {o : OpState} {t : TimerUnit} (h : ClosedSound o t) : RunSound o t := ⟨h.1, h.2.1⟩

theorem purgeUnresolved_sound : Act.Leads (State.Timed RunSound) State.TimersAll State.TimersAll purgeUnresolved :=
  .bind run_blockKeeps.readParams fun _ =>
    .upd_bind (M := State.Timed RunSound) (fun _ hs => hs.onTimer rfl fun h => h.count _) <|
      .look_bind fun _ => .look_bind fun _ => .ite (fun _ => (all_blockKeeps.raiseAct _ _).pre fun _ hs => hs.1.1.of_run)
        fun _ => .upd_bind (M := State.TimersAll)
          (fun _ hs => (hs.1.1.onTimer (q := RunSound) rfl fun h => h.gap _).of_run)
          (.onlyIf (fun _ => gapExpired_sound) fun _ hs => hs)

theorem purgeExpiry_sound : Act.Stays State.TimersAll State.TimersAll purgeExpiry := by
  refine .look_bind fun running => .onlyIf (fun yes => ?_) fun _ hs => hs.1
  refine .upd_bind (M := State.Timed RunSound) (fun s hs => ?_) (.look_bind fun stuffy => ?_)
  · exact (State.Timed.of_purge hs.1 (hs.2.trans yes)).onTimer rfl fun h => h.toRun.noPurge
  · refine .ite (fun _ => .bind (purgeUnresolved_sound.pre fun _ hs => hs.1) fun _ => .upd all_reportTimers) fun _ => ?_
    exact .upd_bind (fun s hs => (hs.1.onTimer (q := RunSound) rfl fun h => h.count 0).of_run) (.upd all_reportTimers)

theorem recoveryExpiry_sound : Act.Stays State.TimersAll State.TimersAll recoveryExpiry := by
  refine .look_bind fun running => .onlyIf (fun yes => ?_) fun _ hs => hs.1
  refine .upd_bind (M := State.TimersAll) (fun s hs => ?_) (.bind (all_blockKeeps.giveAct _) fun _ => .upd all_reportTimers)
  refine (State.Timed.onTimer (q := ClosedSound) (State.Timed.of_recovery hs.1 (hs.2.trans yes)) rfl fun h => ?_).of_closed
  obtain ⟨run, ⟨_, doors, override, _⟩, closed⟩ := h
  refine ⟨run, ⟨by simp, fun hd => ⟨rfl, (doors hd).2⟩, override, ?_⟩, closed⟩
  simpa [Measurement.rearmed, TimerUnit.doorOpen] using closed

theorem TimerUnit.SoundIn.endOverride {o : OpState} {t : TimerUnit} (h : t.SoundIn o) : t.endOverride.SoundIn o := by
  obtain ⟨idle, doors, _, count⟩ := h
  refine ⟨fun ho => ?_, doors, rfl, count⟩
  obtain ⟨recovery, purge, gap, _, n⟩ := idle ho
  exact ⟨recovery, purge, gap, rfl, n⟩

theorem endOverride_sound : Act.Stays State.TimersAll State.TimersAll endOverride :=
  .upd_bind (fun _ hs => hs.onTimer (q := fun o t => t.SoundIn o) rfl fun h => h.endOverride) (.upd all_reportTimers)

/-! ### Hand-overs -/

theorem severeStop_sound : Act.Stays State.TimersAll State.TimersAll severeStop := by
  refine .look_bind fun due => .onlyIf (fun yes => ?_) fun _ hs => hs.1
  refine Act.Leads.pre (P := State.Timed RunSound) ?_ fun s hs => ?_
  · exact .bind run_blockKeeps.readParams fun _ => .onlyIf (fun _ => .upd fun s hs =>
      (hs.onTimer (q := RunSound) rfl fun h => RunSound.gap (RunSound.noPurge (t := s.timer.raiseCount _) (h.count _)) _).of_run)
      fun _ hs => hs.of_run
  · have holds := hs.2.trans yes
    simp only [Bool.and_eq_true] at holds
    have closed := State.Timed.of_purge hs.1 holds.1
    exact ⟨closed.1.toRun, closed.2⟩

theorem cancelFresh_sound (s : State) (h : s.TimersAll) : s.cancelFresh.TimersAll := by
  unfold State.cancelFresh
  split
  · split
    · exact all_blockKeeps.raise _ _ _ (h.onTimer (q := fun o t => t.SoundIn o) rfl fun h => h.endOverride)
    · exact h
  · exact h

theorem stuffyCleared_sound {o : OpState} {t : TimerUnit} (h : t.SoundIn o) : t.stuffyCleared.SoundIn o := by
  unfold TimerUnit.stuffyCleared
  split
  · obtain ⟨idle, rest⟩ := h
    refine ⟨fun ho => ?_, rest⟩
    obtain ⟨recovery, purge, _, override, _⟩ := idle ho
    exact ⟨recovery, purge, rfl, override, rfl⟩
  · exact h

theorem handoverStarts_sound (ho : Handover) : Act.Stays State.TimersAll State.TimersAll (handoverStarts ho) := by
  unfold handoverStarts
  split
  · refine .upd fun s hs => hs.onTimer (q := fun o t => t.SoundIn o) rfl fun h => ?_
    obtain ⟨idle, doors, rest⟩ := h
    refine ⟨fun ho => ?_, fun hd => ⟨(doors hd).1, rfl⟩, rest⟩
    obtain ⟨recovery, _, _, override⟩ := idle ho
    exact ⟨recovery, rfl, rfl, override⟩
  · exact .look_bind fun _ => .look_bind fun _ => .onlyIf (fun _ => (tryPurgeStart_sound _).pre fun _ hs => hs.1.1)
      fun _ hs => hs.1.1
  · exact .pure (fun _ hs => hs) _
  · exact .look_bind fun _ => .onlyIf (fun _ => (tryPurgeStart_sound _).pre fun _ hs => hs.1) fun _ hs => hs.1

theorem takeHandover_sound (ho : Handover) : Act.Stays State.TimersAll State.TimersAll (takeHandover ho) :=
  .upd_bind (M := State.TimersAll) (fun s hs => hs.onTimer rfl id) <|
    .bind (M := State.TimersAll) (.onlyIf (fun _ => .bind severeStop_sound fun _ => .upd cancelFresh_sound) fun _ hs => hs)
      fun _ => .bind (M := State.TimersAll)
        (.onlyIf (fun _ => .upd fun s hs => hs.onTimer (by unfold TimerUnit.stuffyCleared; split <;> rfl) stuffyCleared_sound)
          fun _ hs => hs) fun _ => .bind (handoverStarts_sound ho) fun _ => .upd all_reportTimers

/-! ### Requests -/

theorem purgeStart_sound :
    Act.Leads (fun s => s.TimersAll ∧ s.mgmt.opState = .run) State.TimersAll State.TimersAll purgeStartReply := by
  refine .look_bind fun _ => .ite (fun _ => .pure (fun _ hs => hs.1.1) _) fun _ => ?_
  refine .bind (M := State.Timed RunSound) (run_blockKeeps.readParams.pre fun s hs => State.Timed.in_run hs.1.1 hs.1.2)
    fun p => .look_bind fun t => ?_
  refine .ite (fun _ => .pure (fun _ hs => hs.1.of_run) _) fun _ => .ite (fun _ => .pure (fun _ hs => hs.1.of_run) _)
    fun closed => .bind (M := State.TimersAll) ?_ fun _ => .pure (fun _ hs => hs) _
  refine .onlyIf (fun _ => .upd_bind (fun s hs => ?_) (.upd all_reportTimers)) fun _ hs => hs.1.of_run
  obtain ⟨⟨⟨run, sound⟩, deb⟩, same⟩ := hs
  have closed : s.timer.doorOpen = false := by
    rw [same]
    simpa using closed
  exact (State.Timed.onTimer (p := ClosedSound) (q := ClosedSound) ⟨⟨run, sound, closed⟩, deb⟩ rfl
    fun h => h.purge _).of_closed

theorem purgeStop_sound : Act.Stays State.TimersAll State.TimersAll purgeStopReply := by
  refine .look_bind fun running => .bind (M := State.TimersAll) (.onlyIf (fun yes => ?_) fun _ hs => hs.1)
    fun _ => .pure (fun _ hs => hs) _
  refine .bind (M := State.Timed RunSound) (run_blockKeeps.readParams.pre fun s hs => ?_) fun p =>
    .upd_bind (fun s hs => (hs.onTimer (q := RunSound) rfl fun h => h.noPurge.gap _).of_run) (.upd all_reportTimers)
  have closed := State.Timed.of_purge hs.1 (hs.2.trans yes)
  exact ⟨closed.1.toRun, closed.2⟩

theorem override_sound (r : Option OverrideRecord) :
    Act.Leads (fun s => s.TimersAll ∧ s.mgmt.opState = .run) State.TimersAll State.TimersAll (overrideReply r) := by
  rcases r with _ | r
  · exact .pure (fun _ hs => hs.1) _
  · refine .look_bind fun _ => .ite (fun _ => .pure (fun _ hs => hs.1.1) _) fun _ => ?_
    refine .upd_bind (M := State.TimersAll) (fun s hs => ?_) <| .look_bind fun _ => .bind (M := State.TimersAll)
      (.onlyIf (fun _ => all_blockKeeps.computeTargets.pre fun _ hs => hs.1) fun _ hs => hs.1) fun _ =>
        .upd_bind all_reportTimers (.pure (fun _ hs => hs) _)
    refine (State.Timed.onTimer (q := RunSound) (State.Timed.in_run hs.1.1 hs.1.2) rfl fun h => ?_).of_run
    obtain ⟨run, _, doors, _, count⟩ := h
    exact ⟨run, by simp, doors, rfl, count⟩

/-! ### Door lines -/

theorem PerDoor.get_set {α : Type} (t : PerDoor α) (d e : Door) (x : α) :
    (t.set d x).get e = if e = d then x else t.get e := by
  cases d <;> cases e <;> rfl

theorem onDoor_get (d e : Door) (f : DoorLine → DoorLine) (s : State) :
    (s.onDoor d f).timer.doors.get e = if e = d then f (s.timer.doors.get d) else s.timer.doors.get e :=
  PerDoor.get_set _ _ _ _

/-- A door line's debounce runs while its level differs from its debounced state. -/
def DoorLine.Settled (l : DoorLine) : Prop := l.debounce.isSome = (l.rawLow != l.isOpen)

theorem State.debouncesSound_iff (s : State) :
    s.DebouncesSound ↔ (s.alive = true → ∀ d, (s.timer.doors.get d).Settled) := Iff.rfl

theorem onDoor_debounces {d : Door} {f : DoorLine → DoorLine} {s : State}
    (h : s.alive = true → ∀ e, e ≠ d → (s.timer.doors.get e).Settled) (hf : (f (s.timer.doors.get d)).Settled) :
    (s.onDoor d f).DebouncesSound := fun ha e => by
  change ((s.onDoor d f).timer.doors.get e).Settled
  rw [onDoor_get]
  split
  · exact hf
  next other => exact h ha e other

/-- Out of RUN soundness does not speak of the doors; in RUN it speaks of whether one is open. -/
theorem TimerUnit.SoundIn.onDoors {o : OpState} {t : TimerUnit} (h : t.SoundIn o) (doors : PerDoor DoorLine)
    (same : o = .run → TimerUnit.doorOpen { t with doors := doors } = t.doorOpen) :
    TimerUnit.SoundIn o { t with doors := doors } := by
  obtain ⟨idle, open_, override, count⟩ := h
  by_cases run : o = .run
  · exact ⟨idle, fun hd => open_ ((same run).symm.trans hd), override, by rw [same run]; exact count⟩
  · obtain ⟨recovery, purge, rest⟩ := idle run
    refine ⟨idle, fun _ => ⟨recovery, purge⟩, override, ?_⟩
    have off : (o == .run) = false := by simpa using run
    simpa [off] using count

theorem setLine_doorOpen {t : TimerUnit} {d : Door} {l : DoorLine} (h : l.isOpen = (t.doors.get d).isOpen) :
    TimerUnit.doorOpen { t with doors := t.doors.set d l } = t.doorOpen := by
  cases d <;> simp only [TimerUnit.doorOpen, PerDoor.set, h, PerDoor.get]

theorem onDoor_soundIn {o : OpState} {d : Door} {f : DoorLine → DoorLine} {s : State} (h : s.timer.SoundIn o)
    (hf : (f (s.timer.doors.get d)).isOpen = (s.timer.doors.get d).isOpen) : (s.onDoor d f).timer.SoundIn o :=
  h.onDoors _ fun _ => setLine_doorOpen hf

/-- The line of door d at a new level, its debounce still to follow. -/
def State.LevelSet (d : Door) (low isOpen : Bool) (s : State) : Prop :=
  s.timer.SoundIn s.mgmt.opState ∧ (s.alive = true → ∀ e, e ≠ d → (s.timer.doors.get e).Settled) ∧
    (s.timer.doors.get d).rawLow = low ∧ (s.timer.doors.get d).isOpen = isOpen

theorem State.LevelSet.debounced {d : Door} {low isOpen : Bool} {s : State} (h : s.LevelSet d low isOpen)
    (x : Option Nat) (hx : x.isSome = (low != isOpen)) : (s.onDoor d fun l => { l with debounce := x }).TimersAll := by
  obtain ⟨sound, others, hlow, hopen⟩ := h
  exact ⟨onDoor_soundIn sound rfl, onDoor_debounces others (by simp [DoorLine.Settled, hlow, hopen, hx])⟩

/-- Sound, with a debounce of door d running. -/
theorem timedRest_debounce (d : Door) : TimedRest fun o t => t.SoundIn o ∧ (t.doors.get d).debounce.isSome = true :=
  fun _ _ _ _ h => h

theorem startDebounce_sound {d : Door} {low isOpen : Bool} (differ : isOpen ≠ low) :
    Act.Leads (State.LevelSet d low isOpen) State.TimersAll State.TimersAll (startDebounce d) := by
  have runs : (low != isOpen) = true := by simpa using Ne.symm differ
  refine .upd_bind (M := State.Timed fun o t => t.SoundIn o ∧ (t.doors.get d).debounce.isSome = true) (fun s hs => ?_) <|
    .bind (timed_blockKeeps (timedRest_debounce d)).readParams fun p => .upd fun s hs => ?_
  · have all := hs.debounced (some (PowerOn.debounceMs .short)) (by simp [runs])
    refine ⟨⟨all.1, ?_⟩, all.2⟩
    rw [onDoor_get, if_pos rfl]
    rfl
  · obtain ⟨⟨sound, running⟩, deb⟩ := hs
    refine ⟨onDoor_soundIn sound rfl, fun ha e => ?_⟩
    refine onDoor_debounces (fun ha e _ => deb ha e) ?_ ha e
    have line := (State.debouncesSound_iff s).mp deb ha d
    simpa [DoorLine.Settled, running] using line

theorem levelChange_sound (d : Door) (low : Bool) : Act.Stays State.TimersAll State.TimersAll (levelChange d low) := by
  refine .look_bind fun line => .onlyIf (fun _ => ?_) fun _ hs => hs.1
  refine .upd_bind (M := State.LevelSet d low line.isOpen) (fun s hs => ?_) (.ite (fun same => ?_) fun differ =>
    startDebounce_sound differ)
  · obtain ⟨⟨sound, deb⟩, hl⟩ := hs
    refine ⟨onDoor_soundIn sound rfl, fun ha e he => ?_, ?_, ?_⟩
    · rw [State.setLevel, onDoor_get, if_neg he]
      exact deb ha e
    · rw [State.setLevel, onDoor_get, if_pos rfl]
    · rw [State.setLevel, onDoor_get, if_pos rfl, hl]
  · exact .upd fun s hs => hs.debounced none (by simp [same])

theorem sound_timerKeeps : TimerKeeps State.TimersAll where
  levelChange := levelChange_sound
  recoveryExpiry := recoveryExpiry_sound
  purgeExpiry := purgeExpiry_sound
  gapExpiry := .look_bind fun _ => .onlyIf (fun _ => .look_bind fun _ =>
    .bind (gapExpired_sound.pre fun _ hs => hs.1.1) fun _ => .look_bind fun _ =>
      .onlyIf (fun _ => .upd fun s hs => all_reportTimers s hs.1) fun _ hs => hs.1) fun _ hs => hs.1
  overrideExpiry := .look_bind fun _ => .onlyIf (fun _ => endOverride_sound.pre fun _ hs => hs.1) fun _ hs => hs.1
  controllerHandover := .look_bind fun ho => by
    cases ho
    · exact .pure (fun _ hs => hs.1) _
    · exact .upd_bind (M := State.TimersAll) (fun s hs => hs.1.onTimer rfl id) (takeHandover_sound _)
  purgeStart := purgeStart_sound
  purgeStop := purgeStop_sound
  override := override_sound
  cancelOverride := .look_bind fun _ => .bind (M := State.TimersAll)
    (.onlyIf (fun _ => endOverride_sound.pre fun _ hs => hs.1) fun _ hs => hs.1) fun _ => .pure (fun _ hs => hs) _

/-! ### Changes of the operating state -/

theorem opStateChanged_sound : Act.Stays State.TimersAll State.TimersAll opStateChanged := all_blockKeeps.opStateChanged

/-- Whatever the operating state, the Timer Unit is sound in some. -/
def SoundSomewhere (o : OpState) (t : TimerUnit) : Prop := o = .run ∧ ∃ o', t.SoundIn o'

theorem timedRest_somewhere : TimedRest SoundSomewhere := fun _ _ _ _ h => h

theorem enterRun_sound {t : TimerUnit} {o : OpState} (h : t.SoundIn o) : t.enterRun.SoundIn .run := by
  obtain ⟨_, doors, override, count⟩ := h
  unfold TimerUnit.enterRun
  split
  next open_ => exact ⟨by simp, doors, override, by simpa [Measurement.countFrom, TimerUnit.doorOpen] using open_.symm⟩
  next closed =>
    refine ⟨by simp, doors, override, ?_⟩
    simpa [Bool.eq_false_iff.mpr closed] using count

theorem somewhere_enterRun (s : State) (h : s.Timed SoundSomewhere) : (s.onTimer TimerUnit.enterRun).TimersAll := by
  refine (h.onTimer (q := RunSound) ?_ fun ⟨run, _, sound⟩ => ⟨run, enterRun_sound sound⟩).of_run
  unfold TimerUnit.enterRun
  split <;> rfl

theorem set_run (s : State) (h : s.TimersAll) : (s.setOpState .run).Timed SoundSomewhere :=
  ⟨⟨rfl, _, h.1⟩, h.2⟩

theorem stopAll_sound (t : TimerUnit) (o : OpState) (ho : o ≠ .run) : t.stopAll.SoundIn o := by
  have off : (o == .run) = false := by simpa using ho
  simp [TimerUnit.SoundIn, TimerUnit.stopAll, Measurement.rearmed, off]

/-- In the operating state o, the Timer Unit still to be stopped. -/
def StateIs (x o : OpState) (_ : TimerUnit) : Prop := o = x

theorem stopAll_timed {o : OpState} (ho : o ≠ .run) (s : State) (h : s.Timed (StateIs o)) :
    (s.onTimer TimerUnit.stopAll).TimersAll :=
  h.onTimer (q := fun o t => t.SoundIn o) rfl fun h => stopAll_sound _ _ (h ▸ ho)

theorem set_stateIs (o : OpState) (s : State) (h : s.TimersAll) : (s.setOpState o).Timed (StateIs o) := ⟨rfl, h.2⟩

theorem wake_sound (c : StartCause) (busy : LinesBusy) : Act.Stays State.TimersAll State.TimersAll (wake c busy) :=
  wake_leads all_blockKeeps set_run (timed_blockKeeps timedRest_somewhere) (fun _ hs => hs) somewhere_enterRun
    all_blockKeeps.toReportKeeps opStateChanged_sound c busy

/-- In PARKING, sound, with a door open. -/
def ParkingOpen (o : OpState) (t : TimerUnit) : Prop := o = .parking ∧ t.SoundIn .parking ∧ t.doorOpen = true

theorem timedRest_parkingOpen : TimedRest ParkingOpen := fun _ _ _ _ h => h

/-- Back in RUN with a door open, the measurement still to start. -/
def RunOpenIdle (o : OpState) (t : TimerUnit) : Prop := o = .run ∧ t.SoundIn .parking ∧ t.doorOpen = true

theorem cancelParking_sound (opened : Bool) :
    Act.Leads (State.Timed ParkingOpen) State.TimersAll State.TimersAll (cancelParking opened) := by
  refine changeOpState_leads (M := State.Timed RunOpenIdle) (timed_blockKeeps timedRest_parkingOpen).toReportKeeps
    (fun s hs => ⟨⟨rfl, hs.1.2⟩, hs.2⟩) ?_ opStateChanged_sound
  refine .upd_bind (M := State.TimersAll) (fun s hs => ?_) (.bind (M := State.TimersAll)
    (.onlyIf (fun _ => all_blockKeeps.giveAct _) fun _ hs => hs) fun _ => all_blockKeeps.raiseOwed)
  refine (hs.onTimer (q := RunSound) rfl fun ⟨run, ⟨_, doors, override, _⟩, open_⟩ => ?_).of_run
  exact ⟨run, by simp, doors, override, by simpa [Measurement.countFrom, TimerUnit.doorOpen] using open_.symm⟩

/-! ### Door changes in RUN -/

/-- In RUN with a door just open, its recovery and purge still to end. -/
def JustOpened (o : OpState) (t : TimerUnit) : Prop :=
  o = .run ∧ t.overrideTimer.isSome = t.overrideRecord.isSome ∧ t.doorOpen = true

theorem timedRest_justOpened : TimedRest JustOpened := fun _ _ _ _ h => h

theorem doorOpened_sound : Act.Leads (State.Timed JustOpened) State.TimersAll State.TimersAll doorOpened := by
  have counts (v : TimerUnit → Nat) : Act.Leads (State.Timed fun o t => JustOpened o t ∧ t.recovery = none)
      (State.Timed fun o t => (JustOpened o t ∧ t.recovery = none) ∧ t.measurement.counting = true) State.TimersAll
      (upd (State.onTimer fun t => { t with measurement := Measurement.countFrom (v t) })) :=
    .upd fun s hs => hs.onTimer rfl fun h => ⟨h, rfl⟩
  have shut : Act.Leads (State.Timed fun o t => (JustOpened o t ∧ t.recovery = none) ∧ t.measurement.counting = true)
      State.TimersAll State.TimersAll (upd (State.onTimer fun t => { t with purge := none })) :=
    .upd fun s hs => (hs.onTimer (q := RunSound) rfl fun ⟨⟨⟨run, override, open_⟩, recovery⟩, count⟩ =>
      ⟨run, by simp, fun _ => ⟨recovery, rfl⟩, override, by simpa [TimerUnit.doorOpen, count] using open_.symm⟩).of_run
  refine .bind (.give (timed_blockKeeps timedRest_justOpened).tally _) fun _ => .look_bind fun cut =>
    .ite (fun _ => ?_) fun no => ?_
  · exact .upd_bind (M := State.Timed fun o t => JustOpened o t ∧ t.recovery = none)
      (fun s hs => hs.1.onTimer rfl fun h => ⟨h, rfl⟩) <|
        .bind (.give (fun _ _ hs => hs) _) fun _ => .bind (counts _) fun _ => shut
  · refine .bind ((counts fun _ => 0).pre fun s hs => ⟨⟨hs.1.1, ?_⟩, hs.1.2⟩) fun _ => shut
    simpa [← hs.2] using no

/-- In RUN with the doors just closed, the measurement still to be held. -/
def JustClosed (o : OpState) (t : TimerUnit) : Prop :=
  o = .run ∧ t.overrideTimer.isSome = t.overrideRecord.isSome ∧ t.doorOpen = false

theorem readBins_stays {J : State → Prop} (h : ReadKeeps J State.TimersAll) (is : List (Fin 4)) :
    Act.Stays J State.TimersAll (readBins is) := by
  induction is with
  | nil => exact .pure (fun _ hs => hs) _
  | cons i is ih =>
    refine .bind (h.checkEntry (by simp)) fun r => .look_bind fun _ => .bind (ih.pre fun _ hs => hs.1) fun _ => ?_
    cases r <;> exact .pure (fun _ hs => hs) _

theorem doorClosed_sound : Act.Leads (State.Timed JustClosed) State.TimersAll State.TimersAll doorClosed := by
  have rearm : Act.Leads (State.Timed ClosedSound) State.TimersAll State.TimersAll
      (upd (State.onTimer fun t => { t with measurement := Measurement.rearmed })) :=
    .upd fun s hs => (hs.onTimer (q := ClosedSound) rfl fun ⟨run, ⟨_, doors, override, _⟩, closed⟩ =>
      ⟨run, ⟨by simp, doors, override, by simpa [Measurement.rearmed, TimerUnit.doorOpen] using closed⟩, closed⟩).of_closed
  refine .upd_bind (M := State.Timed ClosedSound) (fun s hs => ?_) <|
    .bind (readBins_stays closed_blockKeeps.toReadKeeps _) fun bins => .look_bind fun m => ?_
  · refine hs.onTimer rfl fun ⟨run, override, closed⟩ => ⟨run, ⟨by simp, fun open_ => ?_, override, ?_⟩, closed⟩
    · exact absurd (closed.symm.trans open_) (by simp)
    · simpa [Measurement.held, TimerUnit.doorOpen] using closed
  · split
    · exact rearm.pre fun _ hs => hs.1
    · refine .bind (closed_blockKeeps.readParams.pre fun _ hs => hs.1) fun p => .ite (fun _ => .upd fun s hs => ?_)
        fun _ => rearm
      refine (hs.onTimer (q := ClosedSound) rfl fun ⟨run, ⟨_, doors, override, count⟩, closed⟩ => ?_).of_closed
      exact ⟨run, ⟨by simp, fun open_ => absurd (closed.symm.trans open_) (by simp), override, count⟩, closed⟩

/-- The Timer Unit was sound with doors of which one was open, or none, as `before` says. -/
def DoorsChanged (before : Bool) (o : OpState) (t : TimerUnit) : Prop :=
  ∃ doors, TimerUnit.SoundIn o { t with doors := doors } ∧ TimerUnit.doorOpen { t with doors := doors } = before

theorem timedRest_doorsChanged (before now : Bool) : TimedRest fun o t => DoorsChanged before o t ∧ t.doorOpen = now :=
  fun _ _ _ _ h => h

theorem DoorsChanged.soundIn {before : Bool} {o : OpState} {t : TimerUnit} (h : DoorsChanged before o t)
    (same : o = .run → t.doorOpen = before) : t.SoundIn o := by
  obtain ⟨doors, sound, was⟩ := h
  exact sound.onDoors t.doors fun run => (same run).trans was.symm

theorem DoorsChanged.override {before : Bool} {o : OpState} {t : TimerUnit} (h : DoorsChanged before o t) :
    t.overrideTimer.isSome = t.overrideRecord.isSome := by
  obtain ⟨_, ⟨_, _, override, _⟩, _⟩ := h
  exact override

/-- In RUN: the doors just opened, just closed, or open or closed as before. -/
theorem doorChanged_run (isOpen before now : Bool) :
    Act.Leads (fun s => s.Timed (fun o t => DoorsChanged before o t ∧ t.doorOpen = now) ∧ s.mgmt.opState = .run)
      State.TimersAll State.TimersAll (do
        onlyIf isOpen (upd State.stopPreclean)
        onlyIf (now && !before) doorOpened
        onlyIf (before && !now) doorClosed
        upd State.reportTimers) := by
  have same (h : now = before) (s : State)
      (hs : s.Timed (fun o t => DoorsChanged before o t ∧ t.doorOpen = now) ∧ s.mgmt.opState = .run) : s.TimersAll :=
    ⟨hs.1.1.1.soundIn fun _ => hs.1.1.2.trans h, hs.1.2⟩
  have idle : Act.Stays State.TimersAll State.TimersAll (onlyIf false doorClosed >>= fun _ => upd State.reportTimers) :=
    .bind (.pure (fun _ hs => hs) _) fun _ => .upd all_reportTimers
  refine .bind (M := fun s => s.Timed (fun o t => DoorsChanged before o t ∧ t.doorOpen = now) ∧ s.mgmt.opState = .run)
    (.onlyIf (fun _ => .upd fun _ hs => hs) fun _ hs => hs) fun _ => ?_
  cases before <;> cases now
  case false.false => exact .bind (.pure (same rfl) _) fun _ => idle
  case true.true => exact .bind (.pure (same rfl) _) fun _ => idle
  case false.true =>
    exact .bind (doorOpened_sound.pre fun s ⟨⟨⟨changed, open_⟩, deb⟩, run⟩ => ⟨⟨run, changed.override, open_⟩, deb⟩)
      fun _ => idle
  case true.false =>
    refine .bind (M := State.Timed JustClosed) (.pure (fun s ⟨⟨⟨changed, closed⟩, deb⟩, run⟩ => ?_) _)
      fun _ => .bind doorClosed_sound fun _ => .upd all_reportTimers
    exact ⟨⟨run, changed.override, closed⟩, deb⟩

theorem doorChanged_sound (d : Door) (isOpen before now : Bool) (busy : LinesBusy) (shows : isOpen = true → now = true) :
    Act.Leads (State.Timed fun o t => DoorsChanged before o t ∧ t.doorOpen = now) State.TimersAll State.TimersAll
      (doorChanged d isOpen (now && !before) (before && !now) busy) := by
  have settled (o : OpState) (ho : o ≠ .run) (s : State)
      (hs : s.Timed (fun o t => DoorsChanged before o t ∧ t.doorOpen = now) ∧ s.mgmt.opState = o) : s.TimersAll :=
    ⟨hs.1.1.1.soundIn fun run => absurd (hs.2.symm.trans run) ho, hs.1.2⟩
  refine .look_bind fun o => ?_
  cases o
  case run => exact doorChanged_run isOpen before now
  case config =>
    refine .bind (M := State.TimersAll) (.onlyIf (fun _ => (all_blockKeeps.giveAct _).pre (settled _ (by simp)))
      (settled _ (by simp))) fun _ => .upd all_reportTimers
  case parking =>
    refine .ite (fun opens => (cancelParking_sound _).pre fun s hs => ?_)
      fun _ => .upd fun s hs => all_reportTimers s (settled _ (by simp) s hs)
    have sound := settled _ (by simp) s hs
    exact ⟨⟨hs.2, hs.2 ▸ sound.1, hs.1.1.2.trans (shows opens)⟩, sound.2⟩
  case parked =>
    refine Act.Leads.pre ?_ (settled .parked (by simp))
    exact .bind all_blockKeeps.readParams fun _ => .look_bind fun _ => .ite
      (fun _ => .onlyIf (fun _ => (wake_sound _ _).pre fun _ hs => hs.1) fun _ hs => hs.1)
      fun _ => .upd fun s hs => all_blockKeeps.park s _ hs.1

theorem doorOpen_of_get {t : TimerUnit} {d : Door} (h : (t.doors.get d).isOpen = true) : t.doorOpen = true := by
  cases d <;> simp_all [TimerUnit.doorOpen, PerDoor.get]

theorem debounceEnd_sound (d : Door) (busy : LinesBusy) :
    Act.Stays State.TimersAll State.TimersAll (debounceEnd d busy) := by
  refine .look_bind fun line => .onlyIf (fun _ => .look_bind fun before => ?_) fun _ hs => hs.1
  refine .upd_bind (M := fun s => s.Timed (DoorsChanged before) ∧ (line.rawLow = true → s.timer.doorOpen = true))
    (fun s ⟨⟨⟨sound, deb⟩, hl⟩, was⟩ => ⟨⟨⟨s.timer.doors, sound, was⟩, ?_⟩, fun low => ?_⟩) (.look_bind fun now => ?_)
  · exact fun ha => onDoor_debounces (fun _ e _ => deb ha e) (by simp [DoorLine.Settled]) ha
  · refine doorOpen_of_get (d := d) ?_
    rw [onDoor_get, if_pos rfl, hl]
    exact low
  · by_cases shows : line.rawLow = true → now = true
    · exact (doorChanged_sound d line.rawLow before now busy shows).pre
        fun s hs => ⟨⟨hs.1.1.1, hs.2⟩, hs.1.1.2⟩
    · exact fun v hv => absurd (fun low => hv.2.symm.trans (hv.1.2 low)) shows

theorem linkCleared_timer (reply : Option Frame) (s : State) : (s.linkCleared reply).timer = s.timer.linkReset := by
  simp only [State.linkCleared, State.setMode, State.onNotice_timer, State.onCtrl_timer, State.setOpState_timer,
    State.onCmd_timer, State.onPark_timer, State.onIntake_timer, State.drawn, State.emptySlots,
    State.onQuantity_timer, State.onTimer_timer, State.onPort_timer]

theorem linkCleared_opState (reply : Option Frame) (s : State) : (s.linkCleared reply).mgmt.opState = .config := rfl

theorem linkCleared_alive (reply : Option Frame) (s : State) : (s.linkCleared reply).alive = s.alive := by
  simp only [State.alive, State.linkCleared, State.setMode, State.onNotice_supplyUp, State.onCtrl_supplyUp,
    State.setOpState_supplyUp, State.onCmd_supplyUp, State.onPark_supplyUp, State.onIntake_supplyUp, State.drawn,
    State.emptySlots, State.onQuantity_supplyUp, State.onTimer_supplyUp, State.onPort_supplyUp,
    State.onNotice_resetLow, State.onCtrl_resetLow, State.setOpState_resetLow, State.onCmd_resetLow, State.onPark_resetLow,
    State.onIntake_resetLow, State.onQuantity_resetLow, State.onTimer_resetLow, State.onPort_resetLow]

theorem linkCleared_sound (s : State) (reply : Option Frame) (h : s.TimersAll) : (s.linkCleared reply).TimersAll := by
  refine ⟨?_, h.2.congr (linkCleared_alive reply s) (by rw [linkCleared_timer]; rfl)⟩
  rw [linkCleared_timer, linkCleared_opState]
  exact timerUnit_soundIn s.timer.doors

theorem sound_opStateKeeps : OpStateKeeps State.TimersAll where
  parkingEntry n := .bind (changeOpState_leads (M := State.Timed (StateIs .parking)) all_blockKeeps.toReportKeeps
    (set_stateIs _) (.upd_bind (fun _ hs => hs) <| .upd_bind (stopAll_timed (by simp)) <|
      .upd fun s hs => all_blockKeeps.park s _ hs) opStateChanged_sound) fun _ =>
        .upd (reportCompletion_keeps fun _ _ hs => hs)
  enterConfig := .bind (changeOpState_leads (M := State.Timed (StateIs .config)) all_blockKeeps.toReportKeeps
    (set_stateIs _) (.upd_bind (stopAll_timed (by simp)) (.upd all_blockKeeps.stopPreclean)) opStateChanged_sound)
      fun _ => .pure (fun _ hs => hs) _
  enterRun := changeOpState_leads all_blockKeeps.toReportKeeps set_run (.upd somewhere_enterRun) opStateChanged_sound
  wake := wake_sound
  debounceEnd := debounceEnd_sound
  parkedEntry := by
    refine parkedEntry_stays all_blockKeeps (all_blockKeeps.toReportKeeps.andOpState _) (fun s hs ho => ?_)
      (fun _ _ hs => hs) fun _ _ hs => hs
    obtain ⟨⟨idle, doors, override, count⟩, deb⟩ := hs
    rw [ho] at idle count
    exact ⟨⟨fun _ => idle (by simp), doors, override, count.trans rfl⟩, deb⟩
  linkReset := linkReset_stays all_blockKeeps fun s reply _ hs => linkCleared_sound s reply hs

/-! ### Every step -/

theorem withPins_sound (s : State) (up low : Bool) : (s.withPins up low).TimersAll := by
  unfold State.withPins
  dsimp only
  split
  · refine ⟨timerUnit_soundIn _, fun _ d => ?_⟩
    cases d <;> simp only [PerDoor.get, State.powerOnSequence, PowerOn.timerUnit, PerDoor.map, PowerOn.doorLine] <;>
      split <;> simp_all
  next dead => exact ⟨timerUnit_soundIn _, fun alive => absurd alive dead⟩

theorem tickTimer_isSome (t : Option Nat) : (tickTimer t).isSome = t.isSome := by
  simp [tickTimer]

theorem tickTimer_none : tickTimer none = none := rfl

theorem measurement_tick_counting (m : Measurement) : m.tick.counting = m.counting := by
  unfold Measurement.tick
  split
  next counts => simp [counts]
  next => rfl

theorem tick_doorOpen (t : TimerUnit) : t.tick.doorOpen = t.doorOpen := rfl

theorem TimerUnit.SoundIn.tick {o : OpState} {t : TimerUnit} (h : t.SoundIn o) : t.tick.SoundIn o := by
  obtain ⟨idle, doors, override, count⟩ := h
  refine ⟨fun ho => ?_, fun hd => ?_, (tickTimer_isSome _).trans override, ?_⟩
  · obtain ⟨recovery, purge, gap, over_, n⟩ := idle ho
    simp [TimerUnit.tick, recovery, purge, gap, over_, n, tickTimer_none]
  · obtain ⟨recovery, purge⟩ := doors hd
    simp [TimerUnit.tick, recovery, purge, tickTimer_none]
  · rw [tick_doorOpen]
    exact (measurement_tick_counting _).trans count

theorem tick_sound (s : State) (h : s.TimersAll) : s.tick.TimersAll := by
  refine ⟨h.1.tick, fun ha d => ?_⟩
  have line := (State.debouncesSound_iff s).mp h.2 ha d
  cases d <;> exact (tickTimer_isSome _).trans line

theorem sound_timersStepKeeps : StepKeeps State.TimersAll :=
  { all_blockKeeps,
    SlotKeeps.of_quantity all_blockKeeps (fun _ _ hs => hs)
      (fun s e hs _ _ => hs.congr (by simp) (by simp) (by simp) (by simp)),
    CommandKeeps.of_cmd all_blockKeeps fun _ _ hs => hs, sound_timerKeeps, sound_opStateKeeps with
    withPins := fun s up low _ => withPins_sound s up low
    setLevel := fun s d low dead hs => ⟨onDoor_soundIn hs.1 rfl, fun alive => absurd (dead.symm.trans alive) (by simp)⟩
    dequeue := fun _ _ hs => hs
    tick := tick_sound }

/-- Settles O59: a timer starts and stops with what it is coupled to; where a change of the operating state or of a door
comes first, what is left to do is known at each point in between. -/
theorem theTimersStaySound : Obligations.TheTimersStaySound :=
  fun _ _ hs hd e => sound_timersStepKeeps.step ⟨hs, hd⟩ e

end Sys2Proof.Machine
end

section
/-! SUPPORT. The step on a queue and on an empty one, the state after reset, and the pins. -/

namespace Sys2Proof.Machine

open Sys2Proof

/-! ### What is due -/

/-- The timers in the model's order, each with the command of its expiry (log entry 2). -/
def dueTimers (s : State) : List (Option Nat × Instr) := unitTimers s ++ staleTimers s ++ escalationTimers s

theorem dueTimers_ranked (s : State) : (dueTimers s).Pairwise fun p q => expiryRank p.2 < expiryRank q.2 := by
  have ranks : ((unitTimers s ++ staleTimers s).map fun p => expiryRank p.2) = List.range 46 := by
    simp only [unitTimers, staleTimers, List.map_append, List.map_map, Function.comp_def, List.map_cons, List.map_nil]
    decide
  have late : (NoticeKind.all.map fun k => expiryRank (.escalationTimerExpiry k)) = List.range' 46 14 := by decide
  rw [← List.pairwise_map (f := fun p : Option Nat × Instr => expiryRank p.2) (R := (· < ·)), dueTimers, List.map_append, ranks]
  unfold escalationTimers
  split
  · decide
  · rw [List.map_map]
    exact late ▸ (by decide : (List.range 46 ++ List.range' 46 14).Pairwise (· < ·))

/-- Each timer of the list is the one of its command. -/
theorem dueTimers_timerOf {s : State} {p : Option Nat × Instr} (h : p ∈ dueTimers s) : s.timerOf p.2 = p.1 := by
  rcases List.mem_append.mp h with h | h
  · rcases List.mem_append.mp h with h | h
    · simp only [unitTimers, List.mem_cons, List.not_mem_nil, or_false] at h
      rcases h with h | h | h | h | h | h | h | h | h | h | h | h | h | h <;> subst h <;> rfl
    · obtain ⟨i, _, rfl⟩ := List.mem_map.mp h
      rfl
  · unfold escalationTimers at h
    split at h
    · cases h
    next awake =>
      obtain ⟨k, _, rfl⟩ := List.mem_map.mp h
      simp only [State.timerOf, if_neg (by simpa using awake)]

/-- A command whose timer has run out has its place in the list. -/
theorem mem_dueTimers {s : State} {i : Instr} {n : Nat} (h : s.timerOf i = some n) : (some n, i) ∈ dueTimers s := by
  unfold State.timerOf at h
  split at h
  case h_1 d busy =>
    split at h
    next idle =>
      subst idle
      cases d <;> simp [dueTimers, unitTimers, ← h, PerDoor.get, linesIdle]
    next => cases h
  case h_2 a => cases a <;> simp [dueTimers, unitTimers, ← h, PerActuator.get]
  case h_7 busy =>
    split at h
    next idle =>
      subst idle
      simp [dueTimers, unitTimers, ← h, linesIdle]
    next => cases h
  case h_11 i =>
    rw [← h]
    exact List.mem_append_left _ (List.mem_append_right _ (List.mem_map.mpr ⟨i, List.mem_finRange i, rfl⟩))
  case h_12 k =>
    split at h
    next => cases h
    next awake =>
      refine List.mem_append_right _ ?_
      have awake : (s.mgmt.opState == .parked) = false := by simpa using awake
      simp only [escalationTimers, awake]
      exact List.mem_map.mpr ⟨k, by cases k <;> decide, by rw [h]⟩
  case h_13 => cases h
  all_goals simp [dueTimers, unitTimers, ← h]

theorem find?_first {α : Type} {r : α → Nat} {p : α → Bool} {l : List α} (ranked : l.Pairwise fun a b => r a < r b) {x : α}
    (hx : x ∈ l) (px : p x = true) (least : ∀ y ∈ l, p y = true → r x ≤ r y) : l.find? p = some x := by
  induction l with
  | nil => cases hx
  | cons a l ih =>
    obtain ⟨first, ranked⟩ := List.pairwise_cons.mp ranked
    by_cases pa : p a = true
    · rcases List.mem_cons.mp hx with rfl | later
      · rw [List.find?_cons_of_pos pa]
      · have := first x later
        have := least a (by simp) pa
        omega
    · rw [List.find?_cons_of_neg pa]
      rcases List.mem_cons.mp hx with rfl | later
      · exact absurd px pa
      · exact ih ranked later fun y hy => least y (by simp [hy])

theorem State.due_timers {s : State} (alive : s.alive = true) (handovers : s.timer.handovers = [])
    (reports : s.ctrl.reports = []) (completion : s.cmd.completion = false) :
    s.due = ((dueTimers s).find? fun p => expired p.1).map (·.2) := by
  simp [State.due, alive, waitingEvent, handovers, reports, completion, dueTimers]

theorem expired_iff (t : Option Nat) : expired t = true ↔ t = some 0 := by
  simp [expired]

theorem State.due_first {s : State} (alive : s.alive = true) (handovers : s.timer.handovers = [])
    (reports : s.ctrl.reports = []) (completion : s.cmd.completion = false) {i : Instr} (out : s.timerOf i = some 0)
    (first : ∀ j, s.timerOf j = some 0 → expiryRank i ≤ expiryRank j) : s.due = some i := by
  rw [State.due_timers alive handovers reports completion,
    find?_first (r := fun p => expiryRank p.2) (dueTimers_ranked s) (mem_dueTimers out) rfl fun p hp hx => ?_]
  · rfl
  · exact first p.2 ((dueTimers_timerOf hp).trans ((expired_iff _).mp hx))

theorem State.due_none {s : State} (alive : s.alive = true) (handovers : s.timer.handovers = [])
    (reports : s.ctrl.reports = []) (completion : s.cmd.completion = false) (out : ∀ i, s.timerOf i ≠ some 0) :
    s.due = none := by
  rw [State.due_timers alive handovers reports completion, Option.map_eq_none_iff, List.find?_eq_none]
  exact fun p hp hx => out p.2 ((dueTimers_timerOf hp).trans ((expired_iff _).mp hx))

/-! ### One millisecond -/

theorem slot_tick (sl : Slot) : sl.tick =
    if sl.staleTimer = some 1 ∨ sl.staleTimer = some 0 then
      { sl with agePart := min 1000 (sl.agePart + 1), staleTimer := some 0 }
    else if sl.agePart + 1 < 1000 then { sl with agePart := sl.agePart + 1, staleTimer := sl.staleTimer.map (· - 1) }
    else { sl with age := min 255 (sl.age + 1), agePart := 0, staleTimer := sl.staleTimer.map (· - 1) } := by
  have ran : expired (tickTimer sl.staleTimer) = true ↔ sl.staleTimer = some 1 ∨ sl.staleTimer = some 0 := by
    rcases sl.staleTimer with _ | n
    · simp [expired, tickTimer]
    · simp [expired, tickTimer, Config.tickMs]
      omega
  have left (h : sl.staleTimer = some 1 ∨ sl.staleTimer = some 0) : tickTimer sl.staleTimer = some 0 := by
    rcases h with h | h <;> rw [h] <;> rfl
  unfold Slot.tick
  dsimp only
  by_cases h : sl.staleTimer = some 1 ∨ sl.staleTimer = some 0
  · rw [if_pos (ran.mpr h), if_pos h, left h]
    rfl
  · rw [if_neg (mt ran.mp h), if_neg h]
    by_cases hp : sl.agePart + 1 < 1000
    · rw [if_pos hp]
      simp [tickSeconds, Config.tickMs, Config.msPerSecond, hp, tickTimer]
    · rw [if_neg hp]
      simp [tickSeconds, Config.tickMs, Config.msPerSecond, hp, tickTimer]

theorem measurement_tick (m : Measurement) : m.tick =
    if m.counting then (if m.part + 1 < 1000 then ⟨m.value, true, m.part + 1⟩ else ⟨min 1023 (m.value + 1), true, 0⟩)
    else m := by
  unfold Measurement.tick
  split
  · have seconds : tickSeconds m.value m.part 1023 =
        if m.part + 1 < 1000 then (m.value, m.part + 1) else (min 1023 (m.value + 1), 0) := rfl
    rw [seconds]
    by_cases h : m.part + 1 < 1000
    · simp only [if_pos h]
    · simp only [if_neg h]
  · rfl

theorem lamp_tick (l : Lamp) : l.tick = ⟨l.pattern, (l.part + 1) % (match l.pattern with
    | .slow => 2000
    | .double => 2000
    | .fast => 500
    | .on => 1
    | .off => 1)⟩ := by
  cases l with
  | mk p n => cases p <;> rfl

theorem tick_oneMsLater {s : State} (out : ∀ i, s.timerOf i ≠ some 0) : s.OneMsLater s.tick := by
  refine ⟨?_, fun d => ?_, rfl, fun a => ?_, rfl, lamp_tick _, lamp_tick _, fun k => ?_, rfl, rfl, rfl, ?_, fun i => ?_, ?_⟩
  · change s.timer.tick = _
    simp only [TimerUnit.tick, measurement_tick]
    rfl
  · cases d <;> rfl
  · cases a <;> rfl
  · change (mapTable _ s.notice.records)[k.index] = _
    rw [mapTable_get]
    by_cases parked : s.mgmt.opState = .parked
    · simp [NoticeRecord.tick, parked, State.noticeRecord]
    · simp [NoticeRecord.tick, parked, State.noticeRecord, tickTimer, Config.tickMs]
  · simp only [State.tick, QuantityTable.tick]
    split <;> rfl
  · by_cases parked : s.mgmt.opState = .parked
    · simp [State.tick, QuantityTable.tick, parked]
    · have running : s.quantity.slots[i].staleTimer ≠ some 0 := out (.staleTimerExpiry i)
      have awake : (s.mgmt.opState == .parked) = false := by simpa using parked
      simp only [State.tick, QuantityTable.tick, awake, Bool.false_eq_true, if_false, parked]
      rw [mapTable_get, slot_tick]
      simp only [running, or_false]
  · rfl

/-! ### The step -/

/-- Settles O1. -/
theorem stepTakesTheFrontOfTheQueue : Obligations.StepTakesTheFrontOfTheQueue := fun _ _ _ => rfl

theorem exec_next (i : Instr) (s : State) : ∃ t, exec i s = .next t := by
  cases i
  case doorLevelChange d low =>
    simp only [exec, execDoorLevelChange]
    split
    · exact live_next _ _
    · exact ⟨_, rfl⟩
  all_goals exact ⟨_, rfl⟩

theorem step_idle {s : State} (empty : s.pending = []) : step s = idleStep s := by
  simp [step, empty]

theorem step_due {s : State} (empty : s.pending = []) {i : Instr} (due : s.due = some i) : step s = exec i s := by
  simp [step_idle empty, idleStep, due]

/-- Settles O2: no command's meaning stops the machine, none touches the queue, and an idle step takes the first of what
waits or has run out. -/
theorem everyCommandAnswersANextStateAndKeepsTheQueue : Obligations.EveryCommandAnswersANextStateAndKeepsTheQueue := by
  refine ⟨fun i s => ?_, fun s empty => ⟨fun dead => ?_, fun alive => ⟨fun waits => ?_, fun none r rest waits => ?_,
    fun none none' completion => ?_, fun none none' completion => ⟨fun i out first => ?_, fun out => ?_⟩⟩⟩⟩
  · obtain ⟨t, ht⟩ := exec_next i s
    exact ⟨t, ht, exec_pending i ht⟩
  · simp [step_idle empty, idleStep, State.due, dead]
  · exact step_due empty (by simp [State.due, alive, waitingEvent, waits])
  · exact step_due empty (by simp [State.due, alive, waitingEvent, none, waits])
  · exact step_due empty (by simp [State.due, alive, waitingEvent, none, none', completion])
  · exact step_due empty (State.due_first alive none none' completion out first)
  · refine ⟨s.tick, ?_, tick_oneMsLater out⟩
    simp [step_idle empty, idleStep, State.due_none alive none none' completion out, alive]

/-! ### The resets and the pins -/

/-- Settles O3: each block of the reset state, read off. -/
theorem resetStateHoldsThePowerOnValues : Obligations.ResetStateHoldsThePowerOnValues := by
  unfold Obligations.ResetStateHoldsThePowerOnValues
  refine ⟨rfl, rfl, rfl, by decide, by decide, fun r => by cases r <;> rfl, rfl, rfl, fun i => ?_, fun i => ?_, fun i => ?_,
    fun i => ?_, fun i => ?_, ⟨rfl, rfl, rfl, rfl, rfl, rfl, rfl⟩, fun d => by cases d <;> exact ⟨rfl, rfl⟩, rfl, rfl, rfl, rfl,
    fun a => by cases a <;> rfl, rfl, rfl, rfl, rfl, rfl, rfl, fun i => ?_, rfl, rfl, rfl, rfl, rfl, rfl, rfl, rfl,
    ⟨_, rfl, rfl, rfl, rfl, rfl, by decide⟩, rfl, rfl, rfl, rfl, rfl, rfl, by decide, by decide, fun k => ?_, rfl, rfl, rfl⟩
  · exact Vector.getElem_replicate _
  · exact Vector.getElem_replicate _
  · exact Vector.getElem_replicate _
  · exact Vector.getElem_replicate _
  · exact Vector.getElem_replicate _
  · exact Vector.getElem_replicate _
  · cases k <;> decide

theorem powerOnSequence_rest (s : State) (hs : s.supplyUp = true) (hr : s.resetLow = false) :
    { s.powerOnSequence with
      pending := [], draws := 0, timer := { s.powerOnSequence.timer with doors := State.reset.timer.doors } } =
    State.reset := by
  simp only [State.powerOnSequence, hs, hr]
  rfl

/-- Settles O4: both resets are the power-on sequence once the pins allow it. -/
theorem powerOnSequenceRunsAtBothResets : Obligations.PowerOnSequenceRunsAtBothResets := by
  intro i s h
  have runs (up low : Bool) (hu : up = true) (hl : low = false) : s.withPins up low =
      ({ s with supplyUp := up, resetLow := low } : State).powerOnSequence := by
    simp [State.withPins, State.alive, hu, hl]
  have post (t : State) (ht : t.supplyUp = true) (hl : t.resetLow = false) :=
    powerOnSequence_rest t ht hl
  rcases h with ⟨rfl, low⟩ | ⟨rfl, up⟩
  · exact ⟨_, congrArg Host.Outcome.next (runs true s.resetLow rfl low), rfl, rfl, fun d => by cases d <;> rfl, post _ rfl low⟩
  · exact ⟨_, congrArg Host.Outcome.next (runs s.supplyUp false up rfl), rfl, rfl, fun d => by cases d <;> rfl, post _ up rfl⟩

/-- A device held in reset or without supply: neither line is driven, the lamps are dark and no timer runs. -/
theorem notRunning_quiet (s : State) :
    s.notRunning.dnEn = false ∧ s.notRunning.port.upTx = none ∧ s.notRunning.notice.airLamp.lit = false ∧
      s.notRunning.notice.serviceLamp.lit = false ∧ s.notRunning.timer.recovery = none ∧ s.notRunning.timer.purge = none ∧
      s.notRunning.timer.gap = none ∧ s.notRunning.timer.overrideTimer = none ∧
      (∀ d, (s.notRunning.timer.doors.get d).debounce = none) ∧
      (∀ a, (s.notRunning.cmd.delivery.get a).ackTimer = none) ∧
      (∀ k, (s.notRunning.noticeRecord k).escalationTimer = none) ∧
      (∀ j : Fin 32, s.notRunning.quantity.slots[j].staleTimer = none) ∧
      s.notRunning.tally.interval = none ∧ s.notRunning.integ.scrubTimer = none ∧ s.notRunning.park.wakeTimer = none ∧
      s.notRunning.park.preclean = none := by
  refine ⟨rfl, rfl, rfl, rfl, rfl, rfl, rfl, rfl, fun d => by cases d <;> rfl, fun a => by cases a <;> rfl,
    fun k => by cases k <;> rfl, fun j => ?_, rfl, rfl, rfl, rfl⟩
  exact congrArg Slot.staleTimer (Vector.getElem_replicate j.isLt)

theorem State.withPins_dead (s : State) {up low : Bool} (h : (up && !low) = false) :
    s.withPins up low = ({ s with supplyUp := up, resetLow := low } : State).notRunning := by
  simp [State.withPins, State.alive, h]

/-- Settles O5: a device held in reset or without supply idles, and its commands are no events. -/
theorem nothingRunsWithoutSupplyOrInReset : Obligations.NothingRunsWithoutSupplyOrInReset := by
  refine ⟨fun i s h => ?_, fun i s dead h₁ h₂ h₃ h₄ h₅ => ?_, fun d low s dead => ?_⟩
  · rcases h with rfl | rfl
    · exact ⟨_, congrArg Host.Outcome.next (s.withPins_dead (Bool.and_false _)), Bool.and_false _, notRunning_quiet _⟩
    · exact ⟨_, congrArg Host.Outcome.next (s.withPins_dead (Bool.false_and _)), Bool.false_and _, notRunning_quiet _⟩
  · cases i
    case powerOnReset => exact absurd rfl h₁
    case resetLineAssert => exact absurd rfl h₂
    case resetLineReset => exact absurd rfl h₃
    case lossOfSupply => exact absurd rfl h₄
    case doorLevelChange d low => exact absurd rfl (h₅ d low)
    all_goals exact live_not_alive dead
  · simp [exec, execDoorLevelChange, dead]

/-- Settles O60: the power-on values, as O3 lists them, satisfy each condition. -/
theorem theResetStateIsSound : Obligations.TheResetStateIsSound := by
  refine ⟨State.modeFollows_of_safe rfl rfl, ⟨by decide, List.nodup_nil⟩, ?_, commandEngine_sound, timerUnit_soundIn _,
    fun _ d => by cases d <;> rfl, fun i faulted => by cases faulted⟩
  unfold State.QueuesBounded
  decide

end Sys2Proof.Machine
end

section
/-! SUPPORT. Frames and requests read from their bytes (R122, R123, R140, R197). -/

namespace Sys2Proof.Machine

open Sys2Proof

/-! ### Two-byte fields -/

theorem joinWord16_bytes (w : Word16) : joinWord16 (w.extractLsb' 8 8) (w.extractLsb' 0 8) = w := by
  simp only [joinWord16]
  ext i hi
  simp only [BitVec.getElem_append, BitVec.getElem_extractLsb']
  split
  · simp only [Nat.zero_add, BitVec.getLsbD_eq_getElem hi]
  · rw [show 8 + (i - 8) = i by omega, BitVec.getLsbD_eq_getElem hi]

theorem joinWord32_bytes (w : Word32) :
    joinWord32 (w.extractLsb' 24 8) (w.extractLsb' 16 8) (w.extractLsb' 8 8) (w.extractLsb' 0 8) = w := by
  simp only [joinWord32]
  ext i hi
  simp only [BitVec.getElem_append, BitVec.getElem_extractLsb']
  split_ifs
  · simp only [Nat.zero_add, BitVec.getLsbD_eq_getElem hi]
  · rw [show 8 + (i - 8) = i by omega, BitVec.getLsbD_eq_getElem hi]
  · rw [show 16 + (i - 8 - 8) = i by omega, BitVec.getLsbD_eq_getElem hi]
  · rw [show 24 + (i - 8 - 8 - 8) = i by omega, BitVec.getLsbD_eq_getElem hi]

/-! ### The judgment of a frame -/

theorem FrameKind.ofCode_code (k : FrameKind) : FrameKind.ofCode k.code = some k := by
  cases k <;> rfl

theorem FrameKind.ofCode_none {n : Nat} (h : n = 0 ∨ 6 < n) : FrameKind.ofCode n = none := by
  unfold FrameKind.ofCode
  split <;> first | rfl | omega

theorem byteOf_toNat_of_lt {n : Nat} (h : n < 256) : (byteOf n).toNat = n := by
  simp [byteOf, Nat.mod_eq_of_lt h]

theorem FrameKind.code_le (k : FrameKind) : k.code ≤ 6 := by
  cases k <;> decide

theorem word16Bytes_eq (w : Word16) : word16Bytes w = [w.extractLsb' 8 8, w.extractLsb' 0 8] := rfl

/-- A reception of no more than 31 bytes, five of them before the payload and two for a CHECK. -/
theorem classify_bytes (dest src kind tag len : Byte) {p : List Byte} (hp : p.length ≤ 24) (c : Word16) :
    classify ⟨dest :: src :: kind :: tag :: len :: p ++ word16Bytes c, false⟩ =
      if checkOf (dest :: src :: kind :: tag :: len :: p) = c then judgeFields dest src kind tag len p c
      else .checkError := by
  have size : (dest :: src :: kind :: tag :: len :: p ++ word16Bytes c).length = p.length + 7 := by
    simp [word16Bytes]
  unfold classify
  simp only [Bool.false_eq_true, if_false, size]
  rw [if_neg (by omega), if_neg (by omega)]
  by_cases h : checkOf (dest :: src :: kind :: tag :: len :: p) = c <;> simp [h, word16Bytes, joinWord16_bytes]

theorem judgeFields_malformed {dest src kind tag len : Byte} {p : List Byte} (c : Word16)
    (h : 24 < len.toNat ∨ p.length ≠ len.toNat ∨ 63 < dest.toNat ∨ src = 1 ∨ 62 < src.toNat ∨ kind = 0 ∨ 6 < kind.toNat ∨
      ∃ k : FrameKind, kind.toNat = k.code ∧ payloadOk k p = false) :
    judgeFields dest src kind tag len p c = .malformed := by
  unfold judgeFields
  by_cases hl : (decide (24 < len.toNat) || p.length != len.toNat) = true
  · rw [if_pos hl]
  rw [if_neg hl]
  by_cases ha : (decide (63 < dest.toNat) || src.toNat == 1 || decide (62 < src.toNat)) = true
  · rw [if_pos ha]
  rw [if_neg ha]
  simp only [Bool.or_eq_true, decide_eq_true_eq, bne_iff_ne, not_or, beq_iff_eq] at hl ha
  rcases h with h | h | h | rfl | h | rfl | h | ⟨k, hk, bad⟩
  · exact absurd h hl.1
  · exact absurd h hl.2
  · exact absurd h ha.1.1
  · exact absurd rfl ha.1.2
  · exact absurd h ha.2
  · rfl
  · rw [FrameKind.ofCode_none (.inr h)]
  · rw [hk, FrameKind.ofCode_code]
    simp [bad]

theorem judgeFields_of_fits {f : Frame} (hd : f.dest.toNat ≤ 63) (h1 : f.src ≠ 1) (hs : f.src.toNat ≤ 62)
    (hl : f.payload.length ≤ 24) (ok : payloadOk f.kind f.payload = true) :
    judgeFields f.dest f.src (byteOf f.kind.code) f.tag (byteOf f.payload.length) f.payload f.check = .good f := by
  have len := byteOf_toNat_of_lt (n := f.payload.length) (by omega)
  have code := byteOf_toNat_of_lt (n := f.kind.code) (Nat.lt_of_le_of_lt f.kind.code_le (by decide))
  have src : f.src.toNat ≠ 1 := fun e => h1 (BitVec.eq_of_toNat_eq e)
  unfold judgeFields
  rw [len, code, if_neg (by simp; omega), if_neg (by simp; omega), FrameKind.ofCode_code]
  simp [ok]

/-! ### Payloads by kind -/

theorem sensorState_isSome (n : Nat) : (SensorState.ofCode n).isSome = true ↔ n ≤ 2 := by
  rcases n with _ | _ | _ | n <;> simp [SensorState.ofCode]

theorem ackStatus_isSome (n : Nat) : (AckStatus.ofCode n).isSome = true ↔ n ≤ 3 := by
  rcases n with _ | _ | _ | _ | n <;> simp [AckStatus.ofCode]

theorem readingsOf_cons (ch st hi lo : Byte) (rest : List Byte) :
    (readingsOf (ch :: st :: hi :: lo :: rest)).isSome = true ↔
      (ch.toNat ≤ 15 ∧ st.toNat ≤ 2) ∧ (readingsOf rest).isSome = true := by
  rw [← sensorState_isSome]
  cases hs : SensorState.ofCode st.toNat <;> cases hr : readingsOf rest <;> simp [readingsOf, hs, hr]

theorem readingsOf_isSome : ∀ p : List Byte, (readingsOf p).isSome = true ↔ p.length % 4 = 0 ∧
    ∀ j < p.length / 4, (p.getD (4 * j) 0).toNat ≤ 15 ∧ (p.getD (4 * j + 1) 0).toNat ≤ 2
  | [] => by simp [readingsOf]
  | [_] => by simp [readingsOf]
  | [_, _] => by simp [readingsOf]
  | [_, _, _] => by simp [readingsOf]
  | ch :: st :: hi :: lo :: rest => by
    have size : (ch :: st :: hi :: lo :: rest).length = rest.length + 4 := rfl
    have later (j k : Nat) : (ch :: st :: hi :: lo :: rest).getD (4 * (j + 1) + k) 0 = rest.getD (4 * j + k) 0 := by
      rw [show 4 * (j + 1) + k = 4 * j + k + 1 + 1 + 1 + 1 by omega]
      simp only [List.getD_cons_succ]
    have first := fun j => later j 0
    simp only [Nat.add_zero] at first
    rw [readingsOf_cons, readingsOf_isSome rest, size, Nat.add_mod_right, Nat.add_div_right _ (by decide),
      Nat.forall_lt_succ_left]
    simp only [later, first, Nat.mul_zero, List.getD_cons_zero, Nat.zero_add, List.getD_cons_succ]
    exact and_left_comm

theorem payloadOk_sample (p : List Byte) : payloadOk .sample p = true ↔
    (p.length = 4 ∨ p.length = 8 ∨ p.length = 12 ∨ p.length = 16) ∧
      ∀ j < p.length / 4, (p.getD (4 * j) 0).toNat ≤ 15 ∧ (p.getD (4 * j + 1) 0).toNat ≤ 2 := by
  simp only [payloadOk, Bool.and_eq_true, decide_eq_true_eq, readingsOf_isSome, ← and_assoc]
  exact and_congr_left' (by omega)

theorem payloadOk_ack : ∀ p : List Byte, payloadOk .ack p = true ↔ p.length = 2 ∧ (p.getD 1 0).toNat ≤ 3
  | [] => by simp [payloadOk, ackOf]
  | [_] => by simp [payloadOk, ackOf]
  | [_, st] => by
    rw [List.getD_cons_succ, List.getD_cons_zero, ← ackStatus_isSome]
    cases h : AckStatus.ofCode st.toNat <;> simp [payloadOk, ackOf, h]
  | _ :: _ :: _ :: _ => by simp [payloadOk, ackOf]

/-- Settles O7: the bytes are taken apart as they were put together, and each check is met or fails by itself. -/
theorem wellBuiltFramesAreJudgedGood : Obligations.WellBuiltFramesAreJudgedGood := by
  refine ⟨fun f hd h1 hs hl ok => ⟨fun check => ?_, fun check => ?_, rfl⟩, fun bs => ⟨fun short => ?_, fun long => ?_⟩,
    fun dest src kind tag len p hp bad => ?_, fun p => ⟨?_, by simp [payloadOk], ?_, by simp [payloadOk],
      by simp [payloadOk], by simp [payloadOk]⟩⟩
  · rw [Frame.wire, Frame.covered, classify_bytes _ _ _ _ _ hl, ← Frame.covered, if_pos check.symm]
    exact judgeFields_of_fits hd h1 hs hl ok
  · rw [Frame.wire, Frame.covered, classify_bytes _ _ _ _ _ hl, ← Frame.covered, if_neg (Ne.symm check)]
  · simp [classify, short]
  · rw [classify, if_neg (by simp), if_neg (by simpa using by omega), if_pos long]
  · rw [classify_bytes _ _ _ _ _ hp, if_pos rfl]
    exact judgeFields_malformed _ bad
  · exact payloadOk_sample p
  · exact payloadOk_ack p

/-! ### Requests -/

theorem codeByte_toNat {n : Nat} (h : n < 64) (part : Fin 4) : (codeByte n part).toNat = 64 * part.val + n :=
  byteOf_toNat_of_lt (by omega)

theorem codePart_codeByte {n : Nat} (h : n < 64) (part : Fin 4) : codePart (codeByte n part) = part := by
  ext
  simp only [codePart, codeByte_toNat h]
  omega

theorem decodeRequest_form (o : Origin) {n : Nat} (h : n < 64) (part : Fin 4) (args : List Byte)
    (known : knownCode n part.val = true) {i : Instr}
    (hi : (tableRequestOf o part n args).orElse (fun _ => controlRequestOf o part n args) = some i) :
    decodeRequest o (codeByte n part) args = .known i := by
  have number : (codeByte n part).toNat % 64 = n := by
    rw [codeByte_toNat h]
    omega
  simp only [decodeRequest, number, codePart_codeByte h, known, hi, Bool.not_true, Bool.false_eq_true, if_false]

/-- Settles O8: each form's bytes name the request and hold its operands in order. -/
theorem requestsAreReadBackFromTheirBytes : Obligations.RequestsAreReadBackFromTheirBytes := by
  intro i o n part args form ok
  cases i <;> simp only [requestForm, reduceCtorEq, Option.some.injEq, Prod.mk.injEq] at form
  case readState =>
    obtain ⟨rfl, rfl, rfl, rfl⟩ := form
    exact decodeRequest_form _ (by decide) _ _ (by simpa [knownCode, Instr.partOk] using ok) rfl
  case readSlot =>
    obtain ⟨rfl, rfl, rfl, rfl⟩ := form
    exact decodeRequest_form _ (by decide) _ _ (by simpa [knownCode, Instr.partOk] using ok) rfl
  case readNotices =>
    obtain ⟨rfl, rfl, rfl, rfl⟩ := form
    exact decodeRequest_form _ (by decide) _ _ (by simp [knownCode]; omega) rfl
  all_goals
    obtain ⟨rfl, rfl, rfl, rfl⟩ := form
    refine decodeRequest_form _ (by decide) _ _ (by decide) (Eq.trans (b := some _) rfl ?_)
    simp only [joinWord16_bytes, joinWord32_bytes]

end Sys2Proof.Machine
end

section
/-! SUPPORT. Raises.

What a raise leaves in the notice unit and in the UP queue of replies, said once, field by field. -/
namespace Sys2Proof.Machine
open Sys2Proof

/-! ### The records -/

theorem NoticeKind.index_ne {j k : NoticeKind} (h : j ≠ k) : k.index.val ≠ j.index.val := by
  intro e
  refine h ?_
  revert e
  cases j <;> cases k <;> decide

theorem noticeRecord_setNotice_same (k : NoticeKind) (r : NoticeRecord) (s : State) :
    (s.setNotice k r).noticeRecord k = r := by
  simp [State.noticeRecord, State.setNotice, NoticeUnit.setRecord]

theorem noticeRecord_setNotice_other {j k : NoticeKind} (h : j ≠ k) (r : NoticeRecord) (s : State) :
    (s.setNotice k r).noticeRecord j = s.noticeRecord j := by
  simp [State.noticeRecord, State.setNotice, NoticeUnit.setRecord, Vector.getElem_set_ne _ _ (NoticeKind.index_ne h)]

@[simp] theorem noticeRecord_sendNotice (j k : NoticeKind) (d : Detail) (s : State) :
    (s.sendNotice k d).noticeRecord j = s.noticeRecord j := rfl

theorem records_any (s : State) (p : NoticeRecord → Bool) :
    s.notice.records.toList.any p = NoticeKind.all.any fun k => p (s.noticeRecord k) := by
  simp only [State.noticeRecord]
  generalize s.notice.records = rs
  obtain ⟨⟨l⟩, hl⟩ := rs
  match l, hl with
  | [_, _, _, _, _, _, _, _, _, _, _, _, _, _], _ => rfl

/-- The lamp's pattern of the model is the one the statements ask for. -/
theorem servicePattern_records (s : State) : servicePattern s.notice.records = s.servicePatternDue := by
  unfold servicePattern State.servicePatternDue
  rw [records_any]
  rfl

theorem Lamp.show_eq_turned (l : Lamp) (p : LampPattern) : l.show p = l.turned p := rfl

theorem Lamp.turned_twice (l : Lamp) (p : LampPattern) : (l.turned p).turned p = l.turned p := by
  unfold Lamp.turned
  by_cases h : l.pattern = p <;> simp [h]

theorem setNotice_serviceLamp (k : NoticeKind) (r : NoticeRecord) (s : State) :
    (s.setNotice k r).notice.serviceLamp = s.notice.serviceLamp.turned (s.setNotice k r).servicePatternDue := by
  rw [← servicePattern_records]
  rfl

theorem setNotice_tagCounter (k : NoticeKind) (r : NoticeRecord) (s : State) :
    (s.setNotice k r).notice.tagCounter = s.notice.tagCounter := rfl

theorem setNotice_airLamp (k : NoticeKind) (r : NoticeRecord) (s : State) :
    (s.setNotice k r).notice.airLamp = s.notice.airLamp := rfl

/-- The pattern due looks at the pending and escalated flags alone. -/
theorem servicePatternDue_congr {s t : State}
    (h : ∀ k, (t.noticeRecord k).pending = (s.noticeRecord k).pending ∧
      (t.noticeRecord k).escalated = (s.noticeRecord k).escalated) : t.servicePatternDue = s.servicePatternDue := by
  simp only [State.servicePatternDue, fun k => (h k).1, fun k => (h k).2]

/-! ### Raises -/

theorem escalating_eq (k : NoticeKind) : k.escalating = escalatingKinds.contains k := by
  cases k <;> rfl

theorem raiseWith_zero (k : NoticeKind) (d : Detail) (s : State) : s.raiseWith 0 k d = s.raiseRecord k d := by
  simp [State.raiseWith, State.startEscalation]

/-- The record of a kind once it is raised, before its escalation timer starts. -/
def NoticeRecord.raised (r : NoticeRecord) (d : Detail) : NoticeRecord :=
  { r with pending := true, detail := some d, count := min 255 (r.count + 1) }

/-- The NOTICE frames a raise sends: one, or none when the kind is pending already or masked. -/
def State.noticesOf (s : State) (k : NoticeKind) (d : Detail) : List Frame :=
  if (s.noticeRecord k).pending || (s.noticeRecord k).masked then [] else [noticeFrame 0 s.notice.tagCounter k d]

theorem raiseRecord_noticeRecord_same (k : NoticeKind) (d : Detail) (s : State) :
    (s.raiseRecord k d).noticeRecord k = (s.noticeRecord k).raised d := by
  simp only [State.raiseRecord]
  split <;> simp only [noticeRecord_sendNotice, noticeRecord_setNotice_same, NoticeRecord.raised]

theorem raiseRecord_noticeRecord_other {j k : NoticeKind} (h : j ≠ k) (d : Detail) (s : State) :
    (s.raiseRecord k d).noticeRecord j = s.noticeRecord j := by
  simp only [State.raiseRecord]
  split <;> simp only [noticeRecord_sendNotice, noticeRecord_setNotice_other h]

theorem raiseRecord_airLamp (k : NoticeKind) (d : Detail) (s : State) :
    (s.raiseRecord k d).notice.airLamp = s.notice.airLamp := by
  simp only [State.raiseRecord]
  split <;> rfl

theorem raiseRecord_serviceLamp (k : NoticeKind) (d : Detail) (s : State) :
    (s.raiseRecord k d).notice.serviceLamp = s.notice.serviceLamp.turned (s.raiseRecord k d).servicePatternDue := by
  simp only [State.raiseRecord]
  split <;> exact setNotice_serviceLamp k _ s

theorem raiseRecord_tagCounter (k : NoticeKind) (d : Detail) (s : State) :
    (s.raiseRecord k d).notice.tagCounter = s.notice.tagCounter + BitVec.ofNat 8 (s.noticesOf k d).length := by
  simp only [State.raiseRecord, State.noticesOf]
  cases (s.noticeRecord k).pending <;> cases (s.noticeRecord k).masked <;>
    simp [State.sendNotice, setNotice_tagCounter]

theorem raiseRecord_port (k : NoticeKind) (d : Detail) (s : State) :
    (s.raiseRecord k d).port =
      { s.port with rpq := s.port.rpq ++ (if s.port.rpq.length < 8 then s.noticesOf k d else []) } := by
  simp only [State.raiseRecord, State.noticesOf]
  cases (s.noticeRecord k).pending <;> cases (s.noticeRecord k).masked <;>
    by_cases h : s.port.rpq.length < 8 <;>
    simp [State.sendNotice, setNotice_tagCounter, offer, rpqCapacity, h]

theorem startEscalation_noticeRecord_same (k : NoticeKind) (n : Nat) (s : State) :
    (s.startEscalation k n).noticeRecord k = { s.noticeRecord k with
      escalationTimer := if n = 0 then (s.noticeRecord k).escalationTimer else some (n * 1000) } := by
  unfold State.startEscalation
  split
  · simp
  · rw [noticeRecord_setNotice_same]
    rfl

theorem startEscalation_noticeRecord_other {j k : NoticeKind} (h : j ≠ k) (n : Nat) (s : State) :
    (s.startEscalation k n).noticeRecord j = s.noticeRecord j := by
  unfold State.startEscalation
  split
  · rfl
  · exact noticeRecord_setNotice_other h _ s

theorem startEscalation_servicePatternDue (k : NoticeKind) (n : Nat) (s : State) :
    (s.startEscalation k n).servicePatternDue = s.servicePatternDue := by
  refine servicePatternDue_congr fun j => ?_
  by_cases h : j = k
  · subst h
    rw [startEscalation_noticeRecord_same]
    exact ⟨rfl, rfl⟩
  · rw [startEscalation_noticeRecord_other h]
    exact ⟨rfl, rfl⟩

theorem startEscalation_tagCounter (k : NoticeKind) (n : Nat) (s : State) :
    (s.startEscalation k n).notice.tagCounter = s.notice.tagCounter := by
  unfold State.startEscalation
  split <;> rfl

theorem startEscalation_airLamp (k : NoticeKind) (n : Nat) (s : State) :
    (s.startEscalation k n).notice.airLamp = s.notice.airLamp := by
  unfold State.startEscalation
  split <;> rfl

theorem startEscalation_serviceLamp (k : NoticeKind) (n : Nat) {s : State} {l : Lamp}
    (h : s.notice.serviceLamp = l.turned s.servicePatternDue) :
    (s.startEscalation k n).notice.serviceLamp = l.turned s.servicePatternDue := by
  by_cases hn : n = 0
  · simpa [State.startEscalation, hn] using h
  · have due := startEscalation_servicePatternDue k n s
    simp only [State.startEscalation, hn, if_false] at due ⊢
    rw [setNotice_serviceLamp, due, h, Lamp.turned_twice]

/-- A raise does what its statement says. -/
theorem raiseWith_raisedFrom (n : Nat) (k : NoticeKind) (d : Detail) (s : State) :
    s.RaisedFrom (s.raiseWith n k d) k d n := by
  have same := raiseRecord_noticeRecord_same k d s
  have rest : ∀ j, j ≠ k → (s.raiseRecord k d).noticeRecord j = s.noticeRecord j :=
    fun j h => raiseRecord_noticeRecord_other h d s
  have tag := raiseRecord_tagCounter k d s
  have air := raiseRecord_airLamp k d s
  have lamp := raiseRecord_serviceLamp k d s
  have port := raiseRecord_port k d s
  simp only [State.raiseWith, escalating_eq, State.RaisedFrom]
  cases hs : (!(s.noticeRecord k).pending && escalatingKinds.contains k)
  · refine ⟨?_, rest, tag, air, lamp, port⟩
    simpa [NoticeRecord.raised, hs] using same
  · simp only [if_true]
    refine ⟨?_, fun j h => ?_, ?_, ?_, ?_, ?_⟩
    · rw [startEscalation_noticeRecord_same, same]
      by_cases hn : n = 0 <;> simp [NoticeRecord.raised, hn]
    · rw [startEscalation_noticeRecord_other h, rest j h]
    · rw [startEscalation_tagCounter, tag]
      rfl
    · rw [startEscalation_airLamp, air]
    · rw [startEscalation_serviceLamp k n lamp, startEscalation_servicePatternDue]
    · rw [State.startEscalation_port, port]
      rfl

theorem raiseRecord_raisedFrom (k : NoticeKind) (d : Detail) (s : State) : s.RaisedFrom (s.raiseRecord k d) k d 0 :=
  raiseWith_zero k d s ▸ raiseWith_raisedFrom 0 k d s

/-- A raise works on the notice unit and the ports alone. -/
theorem raiseWith_rest (n : Nat) (k : NoticeKind) (d : Detail) (s : State) :
    { s.raiseWith n k d with notice := s.notice, port := s.port } = s := by
  obtain ⟨⟩ := s
  simp

theorem raiseRecord_rest (k : NoticeKind) (d : Detail) (s : State) :
    { s.raiseRecord k d with notice := s.notice, port := s.port } = s :=
  raiseWith_zero k d s ▸ raiseWith_rest 0 k d s

theorem raiseRecord_raised (k : NoticeKind) (d : Detail) (s : State) : (s.raiseRecord k d).Raised k d := by
  simp [State.Raised, raiseRecord_noticeRecord_same, NoticeRecord.raised]

/-- Settles O12: the offers by room, and the raise field by field. -/
theorem fullQueuesDropTheFrameWithANotice : Obligations.FullQueuesDropTheFrameWithANotice := by
  refine ⟨fun s f => ⟨(State.offerPtq_room · f), (State.offerFwq_room · f), fun h => ?_, fun h => ?_⟩,
    fun s f => ⟨fun h => ?_, fun h => ?_⟩, fun s k d n => ⟨raiseWith_raisedFrom n k d s, raiseWith_rest n k d s⟩⟩
  · rw [State.offerPtq_full h]
    exact ⟨rfl, by simp, by simp, raiseRecord_raised ..⟩
  · rw [State.offerFwq_full h]
    exact ⟨rfl, by simp, by simp, raiseRecord_raised ..⟩
  · rw [State.offerPtq_full h]
    exact raiseRecord_raisedFrom ..
  · rw [State.offerFwq_full h]
    exact raiseRecord_raisedFrom ..

end Sys2Proof.Machine
end

section
/-! SUPPORT. Reads of protected entries whose damage is known.

An entry is known when it is faulted or free of damage: a read of it then finds what stands, raises nothing and leaves
the state as it is. What each read of the model finds is said once here. -/
namespace Sys2Proof.Machine
open Sys2Proof

/-- The entry is on the Fault List or has no flipped cell: a check brings nothing new. -/
def State.Known (s : State) (e : EntryId) : Prop := s.isFaulted e = false → s.flips e = []

/-- The protected tables and the Fault List: all that a check looks at. -/
def State.tables (s : State) :=
  (s.integ.faultList, s.intake.map, s.quantity.setups, s.ctrl.records, s.timer.bins, s.cmd.entries, s.mgmt.params)

theorem isFaulted_of_tables {s t : State} (h : t.tables = s.tables) (e : EntryId) : t.isFaulted e = s.isFaulted e := by
  simp only [State.tables, Prod.mk.injEq] at h
  simp only [State.isFaulted, h.1]

theorem flips_of_tables {s t : State} (h : t.tables = s.tables) (e : EntryId) : t.flips e = s.flips e := by
  simp only [State.tables, Prod.mk.injEq] at h
  obtain ⟨-, hm, hq, hr, hb, hc, hp⟩ := h
  cases e <;> simp only [State.flips, hm, hq, hr, hb, hc, hp]

theorem State.Known.of_tables {s t : State} {e : EntryId} (k : s.Known e) (h : t.tables = s.tables) : t.Known e := by
  simpa only [State.Known, isFaulted_of_tables h, flips_of_tables h] using k

theorem State.Undamaged.of_tables {s t : State} (u : s.Undamaged) (h : t.tables = s.tables) : t.Undamaged := by
  refine ⟨?_, fun e => (flips_of_tables h e).trans (u.2 e)⟩
  exact (Prod.mk.inj h).1.trans u.1

theorem State.Undamaged.isFaulted {s : State} (u : s.Undamaged) (e : EntryId) : s.isFaulted e = false := by
  simp [State.isFaulted, u.1]

theorem State.Undamaged.known {s : State} (u : s.Undamaged) (e : EntryId) : s.Known e := fun _ => u.2 e

theorem State.Undamaged.good {s : State} (u : s.Undamaged) (e : EntryId) : s.Good e := ⟨u.isFaulted e, u.2 e⟩

theorem State.ParamsGood.known {s : State} (h : s.ParamsGood) : s.Known .params := fun _ => h.2

theorem State.Undamaged.paramsGood {s : State} (u : s.Undamaged) : s.ParamsGood := u.good .params

/-! ### What a read finds -/

theorem checkEntry_known {e : EntryId} {v : Event} (k : v.state.Known e) :
    checkEntry e v = .ok (if v.state.isFaulted e then .faulted else .good) v := by
  cases h : v.state.isFaulted e
  · exact checkEntry_good ⟨h, k h⟩
  · exact checkEntry_faulted h

theorem checkParams_known {v : Event} (k : v.state.Known .params) :
    checkParams v = .ok (if v.state.isFaulted .params then .faulted else .good) v := by
  cases h : v.state.isFaulted .params
  · exact checkParams_good ⟨h, k h⟩
  · exact checkParams_faulted h

/-- The parameters as a read finds them. -/
def State.paramsSeen (s : State) : Params := if s.isFaulted .params then PowerOn.params else s.mgmt.params.content

/-- The map entry, the setup, the record, the fitted actuator and the bin as a read finds them: none of a faulted one. -/
def State.mapSeen (s : State) (i : Fin 64) : Option MapContent :=
  if s.isFaulted (.channelMap i) then none else some s.intake.map[i].content
def State.setupSeen (s : State) (i : Fin 32) : Option SlotSetup :=
  if s.isFaulted (.slotSetup i) then none else some s.quantity.setups[i].content
def State.recordSeen (s : State) (i : Fin 7) : Option ModeRecord :=
  if s.isFaulted (.modeRecord i) then none else some s.ctrl.records[i].content
def State.actuatorSeen (s : State) (a : Actuator) : Option ActuatorEntry :=
  if s.isFaulted (.actuator a) then none
  else if (s.cmd.entries.get a).content.present then some (s.cmd.entries.get a).content else none
def State.binSeen (s : State) (i : Fin 4) : Option RecoveryBin :=
  if s.isFaulted (.recovery i) then none else some s.timer.bins[i].content

theorem readParams_known {v : Event} (k : v.state.Known .params) : readParams v = .ok v.state.paramsSeen v := by
  rw [readParams, Act.bind_ok (checkParams_known k), State.paramsSeen]
  cases v.state.isFaulted .params <;> rfl

theorem readMapEntry_known {i : Fin 64} {v : Event} (k : v.state.Known (.channelMap i)) :
    readMapEntry i v = .ok (v.state.mapSeen i) v := by
  rw [readMapEntry, Act.bind_ok (checkEntry_known k), State.mapSeen]
  cases v.state.isFaulted (.channelMap i) <;> rfl

theorem readSetup_known {i : Fin 32} {v : Event} (k : v.state.Known (.slotSetup i)) :
    readSetup i v = .ok (v.state.setupSeen i) v := by
  rw [readSetup, Act.bind_ok (checkEntry_known k), State.setupSeen]
  cases v.state.isFaulted (.slotSetup i) <;> rfl

theorem readRecord_known {i : Fin 7} {v : Event} (k : v.state.Known (.modeRecord i)) :
    readRecord i v = .ok (v.state.recordSeen i) v := by
  rw [readRecord, Act.bind_ok (checkEntry_known k), State.recordSeen]
  cases v.state.isFaulted (.modeRecord i) <;> rfl

theorem readActuator_known {a : Actuator} {v : Event} (k : v.state.Known (.actuator a)) :
    readActuator a v = .ok (v.state.actuatorSeen a) v := by
  rw [readActuator, Act.bind_ok (checkEntry_known k), State.actuatorSeen]
  cases v.state.isFaulted (.actuator a) <;> rfl

theorem readBins_known {v : Event} (is : List (Fin 4)) (k : ∀ i ∈ is, v.state.Known (.recovery i)) :
    readBins is v = .ok (is.filterMap v.state.binSeen) v := by
  induction is with
  | nil => rfl
  | cons i is ih =>
    have rest := ih fun j hj => k j (List.mem_cons_of_mem _ hj)
    simp only [readBins, Act.bind_ok (checkEntry_known (k i List.mem_cons_self)), Act.bind_run, Act.look_run, rest,
      List.filterMap_cons, State.binSeen]
    cases v.state.isFaulted (.recovery i) <;> rfl

/-- The nodes of the actuators of a list that are fitted. -/
def State.nodesSeen (s : State) (as : List Actuator) : List (Actuator × Nat) :=
  as.filterMap fun a => (s.actuatorSeen a).map fun e => (a, e.node)

theorem readNodes_known {v : Event} (as : List Actuator) (k : ∀ a ∈ as, v.state.Known (.actuator a)) :
    readNodes as v = .ok (v.state.nodesSeen as) v := by
  induction as with
  | nil => rfl
  | cons a as ih =>
    have rest := ih fun j hj => k j (List.mem_cons_of_mem _ hj)
    simp only [readNodes, Act.bind_ok (readActuator_known (k a List.mem_cons_self)), Act.bind_run, rest,
      State.nodesSeen, List.filterMap_cons]
    cases v.state.actuatorSeen a <;> rfl

theorem lookup_known (src ch : Nat) {v : Event} (is : List (Fin 64)) (k : ∀ i ∈ is, v.state.Known (.channelMap i)) :
    lookup src ch is v = .ok (is.find? fun i => hasKey src ch (v.state.mapSeen i)) v := by
  induction is with
  | nil => rfl
  | cons i is ih =>
    have rest := ih fun j hj => k j (List.mem_cons_of_mem _ hj)
    simp only [lookup, Act.bind_ok (readMapEntry_known (k i List.mem_cons_self)), Act.bind_ok rest, List.find?_cons]
    cases hasKey src ch (v.state.mapSeen i) <;> rfl

/-! ### What a read finds without damage -/

section
variable {s : State} (u : s.Undamaged)
include u

theorem State.Undamaged.paramsSeen : s.paramsSeen = s.mgmt.params.content := by simp [State.paramsSeen, u.isFaulted]
theorem State.Undamaged.mapSeen (i : Fin 64) : s.mapSeen i = some s.intake.map[i].content := by
  simp [State.mapSeen, u.isFaulted]
theorem State.Undamaged.setupSeen (i : Fin 32) : s.setupSeen i = some s.quantity.setups[i].content := by
  simp [State.setupSeen, u.isFaulted]
theorem State.Undamaged.recordSeen (i : Fin 7) : s.recordSeen i = some s.ctrl.records[i].content := by
  simp [State.recordSeen, u.isFaulted]
theorem State.Undamaged.actuatorSeen (a : Actuator) : s.actuatorSeen a =
    if (s.cmd.entries.get a).content.present then some (s.cmd.entries.get a).content else none := by
  simp [State.actuatorSeen, u.isFaulted]
theorem State.Undamaged.binSeen (i : Fin 4) : s.binSeen i = some s.timer.bins[i].content := by
  simp [State.binSeen, u.isFaulted]
theorem State.Undamaged.slotSeen (i : Fin 32) : s.slotSeen i = s.quantity.slots[i] :=
  State.slotSeen_good (u.isFaulted _)

end

theorem State.ParamsGood.paramsSeen {s : State} (h : s.ParamsGood) : s.paramsSeen = s.mgmt.params.content := by
  simp [State.paramsSeen, h.1]

end Sys2Proof.Machine
end

section
/-! SUPPORT. What is common to all requests: the place of the reply, the class of the sender, the states. -/
namespace Sys2Proof.Machine
open Sys2Proof

/-! ### Replies -/

/-- The reply that stands at a place of the queue of replies is exchanged. -/
def State.setReply (port : Port) (n : Nat) (f : Frame) (s : State) : State := s.onReplies port (·.set n f)

theorem answered_setReply (s : State) (tag code : Byte) (r r' : Reply) :
    (s.answered tag code r).setReply .up s.port.rpq.length (replyFrame 0 tag code r') = s.answered tag code r' := by
  simp [State.setReply, State.onReplies, State.answered, State.onPort, State.stopPreclean, State.onPark]

theorem answeredDn_setReply (s : State) (src tag code : Byte) (r r' : Reply) :
    (s.answeredDn src tag code r).setReply .dn s.port.ptq.length (replyFrame src tag code r') =
      s.answeredDn src tag code r' := by
  simp [State.setReply, State.onReplies, State.answeredDn, State.onPort]

/-- Exchanging a reply for the same one changes nothing. -/
theorem setReply_same {s : State} {xs more : List Frame} {f : Frame} (h : s.port.rpq = xs ++ f :: more) :
    s.setReply .up xs.length f = s := by
  have e : s.port.rpq.set xs.length f = s.port.rpq := by simp [h]
  simp only [State.setReply, State.onReplies, State.onPort, e]

theorem setReply_same_dn {s : State} {xs more : List Frame} {f : Frame} (h : s.port.ptq = xs ++ f :: more) :
    s.setReply .dn xs.length f = s := by
  have e : s.port.ptq.set xs.length f = s.port.ptq := by simp [h]
  simp only [State.setReply, State.onReplies, State.onPort, e]

/-! ### Serving a request -/

/-- The class a request has on UP. -/
def upClass (o : Origin) : Option OriginClass := if o.src = 0 then some .gateway else none

/-- The class a request has on DN, as the parameters are found. -/
def State.dnClass (s : State) (o : Origin) : Option OriginClass :=
  if s.paramsSeen.panelNode ≠ 0 ∧ o.src.toNat = s.paramsSeen.panelNode then some .panel else none

/-- The gateway's requests stop the pre-clean. -/
def State.heard (s : State) (o : Origin) : State := if fromGateway o then s.stopPreclean else s

theorem serve_parked (o : Origin) (code : Byte) (answer : Option OriginClass → Act Reply) {v : Event}
    (h : v.state.mgmt.opState = .parked) : serve o code answer v = .ok () v := by
  simp [serve, Act.bind_run, Act.look_run, Act.pure_run, h]

section
variable {o : Origin} {code : Byte} {answer : Option OriginClass → Act Reply} {s : State}
variable (run : s.mgmt.opState ≠ .parked)
include run

/-- The request once its sender is known. -/
theorem serve_class {c : Option OriginClass} (hc : classOf o ⟨s.heard o, []⟩ = .ok c ⟨s.heard o, []⟩) :
    serve o code answer ⟨s, []⟩ =
      (if o.broadcast then do
        let _ ← answer c
        pure ()
      else if ((s.heard o).port.replies o.port).length < replyCapacity o.port then do
        let r ← answer c
        upd (State.setReply o.port ((s.heard o).port.replies o.port).length (replyFrame o.src o.tag code r))
      else give .rqDrop)
        ⟨if o.broadcast then s.heard o
          else if ((s.heard o).port.replies o.port).length < replyCapacity o.port then
            (s.heard o).onReplies o.port (· ++ [replyFrame o.src o.tag code (done [])])
          else s.heard o, []⟩ := by
  have heard : (onlyIf (fromGateway o) (upd State.stopPreclean)) ⟨s, []⟩ = .ok () ⟨s.heard o, []⟩ := by
    simp only [State.heard]
    cases fromGateway o <;> rfl
  have awake : (!(s.mgmt.opState == .parked)) = true := by simpa using run
  simp only [serve, Act.bind_run, Act.look_run, awake, onlyIf_true, heard, hc]
  cases o.broadcast
  · by_cases room : ((s.heard o).port.replies o.port).length < replyCapacity o.port
    · simp only [room, if_true, Bool.false_eq_true, if_false, Act.bind_run, Act.look_run, Act.upd_run, Act.raiseOwed_run,
        Event.settled_none]
      rfl
    · simp only [room, Bool.false_eq_true, if_false, Act.bind_run, Act.look_run]
  · simp only [if_true, Act.bind_run, Act.raiseOwed_run, Event.settled_none]

theorem serve_up (h : o.port = .up) : serve o code answer ⟨s, []⟩ =
      (if o.broadcast then do
        let _ ← answer (upClass o)
        pure ()
      else if s.port.rpq.length < rpqCapacity then do
        let r ← answer (upClass o)
        upd (State.setReply .up s.port.rpq.length (replyFrame o.src o.tag code r))
      else give .rqDrop)
        ⟨if o.broadcast then s.heard o
          else if s.port.rpq.length < rpqCapacity then
            (s.heard o).onReplies .up (· ++ [replyFrame o.src o.tag code (done [])])
          else s.heard o, []⟩ := by
  have hc : classOf o ⟨s.heard o, []⟩ = .ok (upClass o) ⟨s.heard o, []⟩ := by simp only [classOf, h]; rfl
  have same : (s.heard o).port = s.port := by unfold State.heard; split <;> rfl
  rw [serve_class run hc]
  simp only [h, same, PortUnit.replies, replyCapacity]

theorem serve_dn (h : o.port = .dn) (k : s.Known .params) : serve o code answer ⟨s, []⟩ =
      (if o.broadcast then do
        let _ ← answer (s.dnClass o)
        pure ()
      else if s.port.ptq.length < ptqCapacity then do
        let r ← answer (s.dnClass o)
        upd (State.setReply .dn s.port.ptq.length (replyFrame o.src o.tag code r))
      else give .rqDrop)
        ⟨if o.broadcast then s
          else if s.port.ptq.length < ptqCapacity then
            s.onReplies .dn (· ++ [replyFrame o.src o.tag code (done [])])
          else s, []⟩ := by
  have same : s.heard o = s := by simp [State.heard, fromGateway, h]
  have hc : classOf o ⟨s.heard o, []⟩ = .ok (s.dnClass o) ⟨s.heard o, []⟩ := by
    simp only [same, classOf, h, Act.bind_ok (readParams_known (v := ⟨s, []⟩) k)]
    rfl
  rw [serve_class run hc]
  simp only [h, same, PortUnit.replies, replyCapacity]

end

theorem afterChecks_refused {rule : PanelRule} {states : List OpState} {own : OriginClass → Act Reply}
    {c : Option OriginClass} {v : Event} {r : ResultCode} (h : classCheck c rule v.state.tally.tallies = some r) :
    afterChecks rule states own c v = .ok (plain r) v := by
  simp only [afterChecks, Act.bind_run, Act.look_run, h]
  rfl

theorem afterChecks_passed {rule : PanelRule} {states : List OpState} {own : OriginClass → Act Reply}
    {k : OriginClass} {v : Event} (h : classCheck (some k) rule v.state.tally.tallies = none) :
    afterChecks rule states own (some k) v =
      if states.contains v.state.mgmt.opState then own k v else .ok (plain .refusedState) v := by
  simp only [afterChecks, Act.bind_run, Act.look_run, h]
  split <;> rfl

theorem afterChecks_gateway {rule : PanelRule} {states : List OpState} {own : OriginClass → Act Reply} {v : Event} :
    afterChecks rule states own (some .gateway) v =
      if states.contains v.state.mgmt.opState then own .gateway v else .ok (plain .refusedState) v :=
  afterChecks_passed rfl

/-! ### The requests by their forms -/

/-- The operating states in which the request of a number is executed. -/
def statesOf (n : Nat) (args : List Byte) : List OpState :=
  if n ∈ [1, 2, 3, 4, 9, 11, 13, 15, 23, 26, 29, 32] then readStates
  else if n ∈ [8, 10, 24, 25, 27, 28, 30] then [.config, .run]
  else if n ∈ [17, 19, 20, 21, 22, 31] then [.run]
  else if n = 16 then paramStates ((args.head?.map BitVec.toNat).getD 0)
  else [.config]

/-- Every request but the gateway's RESET is served under its panel rule and in its states. -/
theorem runRequest_form {i : Instr} {o : Origin} {n : Nat} {part : Fin 4} {args : List Byte}
    (h : requestForm i = some (o, n, part, args)) (hp : i.partOk = true) (hr : n = 32 → fromGateway o = false) :
    ∃ own, runRequest i = serve o (codeByte n part) (afterChecks (panelRuleOf n args) (statesOf n args) own) := by
  cases i
  case readState o' p =>
    simp only [requestForm, Option.some.injEq, Prod.mk.injEq] at h
    obtain ⟨rfl, rfl, rfl, rfl⟩ := h
    have : p ≠ 3 := by rintro rfl; simp [Instr.partOk] at hp
    exact ⟨_, by simp only [runRequest, readState, this, if_false]; rfl⟩
  case readSlot o' p slot =>
    simp only [requestForm, Option.some.injEq, Prod.mk.injEq] at h
    obtain ⟨rfl, rfl, rfl, rfl⟩ := h
    have : ¬ 1 < p.val := by simpa [Instr.partOk] using hp
    exact ⟨_, by simp only [runRequest, readSlot, this, if_false]; rfl⟩
  case reset o' =>
    simp only [requestForm, Option.some.injEq, Prod.mk.injEq] at h
    obtain ⟨rfl, rfl, rfl, rfl⟩ := h
    refine ⟨fun _ => pure (plain .refusedClass), ?_⟩
    funext v
    simp only [runRequest, resetRequest, hr rfl, Act.bind_run, Act.look_run]
    rfl
  all_goals
    simp only [requestForm, Option.some.injEq, Prod.mk.injEq, reduceCtorEq] at h
  all_goals
    obtain ⟨rfl, rfl, rfl, rfl⟩ := h
    exact ⟨_, rfl⟩

theorem isSome_origin_of_form {i : Instr} {o : Origin} {n : Nat} {part : Fin 4} {args : List Byte}
    (h : requestForm i = some (o, n, part, args)) : i.origin? = some o := by
  cases i <;> simp only [requestForm, Option.some.injEq, Prod.mk.injEq, reduceCtorEq] at h <;>
    exact congrArg some h.1

/-- Every request but the gateway's RESET is served. -/
theorem runRequest_serve {i : Instr} {o : Origin} (h : i.origin? = some o) :
    (i = .reset o ∧ fromGateway o = true) ∨ ∃ code answer, runRequest i = serve o code answer := by
  cases i
  case readState o' p =>
    cases h
    refine .inr ?_
    simp only [runRequest, readState]
    split
    · exact ⟨_, _, rfl⟩
    · exact ⟨_, _, rfl⟩
  case readSlot o' p slot =>
    cases h
    refine .inr ?_
    simp only [runRequest, readSlot]
    split
    · exact ⟨_, _, rfl⟩
    · exact ⟨_, _, rfl⟩
  case reset o' =>
    cases h
    cases g : fromGateway o
    · refine .inr ⟨codeByte 32 0, afterChecks .no readStates fun _ => pure (plain .refusedClass), ?_⟩
      funext v
      simp only [runRequest, resetRequest, g, Act.bind_run, Act.look_run]
      rfl
    · exact .inl ⟨rfl, rfl⟩
  all_goals simp only [Instr.origin?, Option.some.injEq, reduceCtorEq] at h
  all_goals
    subst h
    exact .inr ⟨_, _, rfl⟩

theorem fromGateway_of_src {o : Origin} (h : o.src ≠ 0) : fromGateway o = false := by
  simpa [fromGateway] using fun _ => h

theorem heard_of_src {o : Origin} (h : o.src ≠ 0) (s : State) : s.heard o = s := by
  simp [State.heard, fromGateway_of_src h]

theorem heard_gateway {o : Origin} (hp : o.port = .up) (h : o.src = 0) (s : State) : s.heard o = s.stopPreclean := by
  simp [State.heard, fromGateway, hp, h]

/-- What a live request does to a state. -/
theorem exec_request_alive {i : Instr} {o : Origin} (h : i.origin? = some o) {s : State} (alive : s.alive = true) :
    exec i s = .next ((runRequest i).after s) := by
  rw [exec_request (by simp [h]), live_alive alive]

/-- Settles O21: a request is served behind the check of the room for its reply, and never in PARKED. -/
theorem requestsWithoutReplyRoomAreDropped : Obligations.RequestsWithoutReplyRoomAreDropped := by
  intro i o s h alive
  rw [exec_request_alive h alive]
  refine ⟨fun parked => ?_, fun awake up single full => ?_⟩
  · rcases runRequest_serve h with ⟨rfl, g⟩ | ⟨code, answer, run⟩
    · simp [runRequest, resetRequest, Act.after, Act.bind_run, Act.look_run, Act.pure_run, g, parked]
    · rw [run, Act.after_ok (serve_parked o code answer (v := ⟨s, []⟩) parked)]
      rfl
  · have served {code answer} (run : runRequest i = serve o code answer) :
        (runRequest i).after s = (s.heard o).count .rqDrop := by
      have no : ¬ s.port.rpq.length < rpqCapacity := by simpa [rpqCapacity] using full
      rw [run, Act.after, serve_up awake up]
      simp only [single, no, Bool.false_eq_true, if_false, Act.give_run]
      rfl
    refine ⟨fun src notReset => ?_, fun src => ?_⟩
    · rcases runRequest_serve h with ⟨rfl, -⟩ | ⟨code, answer, run⟩
      · exact absurd rfl notReset
      · rw [served run, heard_gateway up src]
    · rcases runRequest_serve h with ⟨rfl, g⟩ | ⟨code, answer, run⟩
      · rw [fromGateway_of_src src] at g
        cases g
      · rw [served run, heard_of_src src]

/-! ### Requests without a class, and outside their states -/

theorem classCheck_none (rule : PanelRule) (ts : Vector Tally 4) : classCheck none rule ts = some .refusedClass := rfl

theorem onReplies_up_set (s : State) (f g : Frame) :
    (s.onReplies .up (· ++ [f])).setReply .up s.port.rpq.length g = s.onPort fun p => { p with rpq := p.rpq ++ [g] } := by
  simp [State.setReply, State.onReplies, State.onPort]

theorem onReplies_dn_set (s : State) (f g : Frame) :
    (s.onReplies .dn (· ++ [f])).setReply .dn s.port.ptq.length g = s.onPort fun p => { p with ptq := p.ptq ++ [g] } := by
  simp [State.setReply, State.onReplies, State.onPort]

/-- The rule of a request outside the six that the panel may use. -/
theorem panelRuleOf_no {n : Nat} (args : List Byte) (h : n ∉ [1, 2, 21, 22, 23, 26]) : panelRuleOf n args = .no := by
  simp only [List.mem_cons, List.not_mem_nil, or_false, not_or] at h
  obtain ⟨h1, h2, h3, h4, h5, h6⟩ := h
  simp [panelRuleOf, h1, h2, h3, h4, h5, h6]

/-- A request on UP whose answer leaves the state as it is. -/
theorem serve_up_quiet {o : Origin} {code : Byte} {answer : Option OriginClass → Act Reply} {s : State} {r : Reply}
    (awake : s.mgmt.opState ≠ .parked) (up : o.port = .up) (single : o.broadcast = false)
    (room : s.port.rpq.length < rpqCapacity)
    (quiet : answer (upClass o) ⟨(s.heard o).onReplies .up (· ++ [replyFrame o.src o.tag code (done [])]), []⟩ =
      .ok r ⟨(s.heard o).onReplies .up (· ++ [replyFrame o.src o.tag code (done [])]), []⟩) :
    (serve o code answer).after s =
      (s.heard o).onPort fun p => { p with rpq := p.rpq ++ [replyFrame o.src o.tag code r] } := by
  have same : (s.heard o).port = s.port := by unfold State.heard; split <;> rfl
  rw [Act.after, serve_up awake up]
  simp only [single, room, Bool.false_eq_true, if_false, if_true, Act.bind_ok quiet, Act.upd_run, Event.settled_none]
  rw [← same, onReplies_up_set]

theorem serve_dn_quiet {o : Origin} {code : Byte} {answer : Option OriginClass → Act Reply} {s : State} {r : Reply}
    (awake : s.mgmt.opState ≠ .parked) (dn : o.port = .dn) (single : o.broadcast = false) (k : s.Known .params)
    (room : s.port.ptq.length < ptqCapacity)
    (quiet : answer (s.dnClass o) ⟨s.answeredDn o.src o.tag code (done []), []⟩ =
      .ok r ⟨s.answeredDn o.src o.tag code (done []), []⟩) :
    (serve o code answer).after s = s.answeredDn o.src o.tag code r := by
  rw [Act.after, serve_dn awake dn k]
  simp only [single, room, Bool.false_eq_true, if_false, if_true]
  have quiet : answer (s.dnClass o) ⟨s.onReplies .dn (· ++ [replyFrame o.src o.tag code (done [])]), []⟩ =
      .ok r ⟨s.onReplies .dn (· ++ [replyFrame o.src o.tag code (done [])]), []⟩ := quiet
  rw [Act.bind_ok quiet]
  exact answeredDn_setReply s _ _ _ _ _

theorem State.Known.of_or {s : State} (h : s.isFaulted .params = true ∨ s.ParamsGood) : s.Known .params := by
  rcases h with h | h
  · exact fun g => absurd g (by simp [h])
  · exact h.known

/-- Settles O22: a request without a class fails the first check. -/
theorem requestsWithoutAClassAreRefused : Obligations.RequestsWithoutAClassAreRefused := by
  refine ⟨fun i o n part args s form hp up src alive awake => ?_, fun i src tag n part args s form hp alive awake => ?_⟩
  · obtain ⟨own, run⟩ := runRequest_form form hp fun _ => fromGateway_of_src src
    have noClass : upClass o = none := if_neg src
    have refused (v : Event) :
        afterChecks (panelRuleOf n args) (statesOf n args) own (upClass o) v = .ok (plain .refusedClass) v := by
      rw [noClass]
      exact afterChecks_refused (classCheck_none _ _)
    rw [exec_request_alive (isSome_origin_of_form form) alive, run]
    refine ⟨fun every => ?_, fun single room => ?_⟩
    · rw [Act.after, serve_up awake up]
      simp only [every, if_true, Act.bind_ok (refused _), heard_of_src src]
      rfl
    · rw [serve_up_quiet awake up single room (refused _), heard_of_src src]
  · obtain ⟨own, run⟩ := runRequest_form form hp fun _ => rfl
    rw [exec_request_alive (isSome_origin_of_form form) alive, run]
    refine ⟨fun why room => ?_, fun k full => ?_⟩
    · have k : s.Known .params := .of_or (why.imp_right (·.elim (·.1) (·.1)))
      have refused (v : Event) : afterChecks (panelRuleOf n args) (statesOf n args) own (s.dnClass (onDn src tag)) v =
          .ok (plain .refusedClass) v := by
        refine afterChecks_refused ?_
        rcases why with f | ⟨g, node⟩ | ⟨g, rule⟩
        · have : s.dnClass (onDn src tag) = none := by simp [State.dnClass, State.paramsSeen, f, PowerOn.params]
          rw [this, classCheck_none]
        · have : s.dnClass (onDn src tag) = none := by
            rw [State.dnClass, g.paramsSeen]
            exact if_neg fun h => node.elim h.1 fun ne => ne h.2
          rw [this, classCheck_none]
        · rw [panelRuleOf_no args rule, State.dnClass]
          split <;> rfl
      rw [serve_dn_quiet awake rfl rfl k room (refused _)]
      rfl
    · have no : ¬ s.port.ptq.length < ptqCapacity := by simpa [ptqCapacity] using full
      rw [Act.after, serve_dn (o := onDn src tag) awake rfl (.of_or k)]
      simp only [onDn, no, Bool.false_eq_true, if_false]
      rfl

/-! ### The gateway's and the panel's requests -/

theorem gateway_heard (tag : Byte) (s : State) : s.heard (gateway tag) = s.stopPreclean := rfl

/-- A request of the gateway with room for its reply runs behind the reply's place. -/
theorem serve_gateway {s : State} (ht : s.TakesRequest) (tag code : Byte) (answer : Option OriginClass → Act Reply) :
    serve (gateway tag) code answer ⟨s, []⟩ = (do
      let r ← answer (some .gateway)
      upd (State.setReply .up s.port.rpq.length (replyFrame 0 tag code r))) ⟨s.answeredPlain tag code .done, []⟩ := by
  obtain ⟨-, awake, room⟩ := ht
  rw [serve_up awake rfl]
  simp only [room, if_true]
  rfl

/-- The panel's class. -/
theorem dnClass_panel {s : State} (g : s.ParamsGood) {src : Byte} (tag : Byte) (fitted : s.mgmt.params.content.panelNode ≠ 0)
    (node : src.toNat = s.mgmt.params.content.panelNode) : s.dnClass (onDn src tag) = some .panel := by
  rw [State.dnClass, g.paramsSeen]
  exact if_pos ⟨fitted, node⟩

theorem serve_panel {s : State} (ht : s.TakesDnRequest) {src : Byte} (tag code : Byte)
    (fitted : s.mgmt.params.content.panelNode ≠ 0) (node : src.toNat = s.mgmt.params.content.panelNode)
    (answer : Option OriginClass → Act Reply) :
    serve (onDn src tag) code answer ⟨s, []⟩ = (do
      let r ← answer (some .panel)
      upd (State.setReply .dn s.port.ptq.length (replyFrame src tag code r)))
        ⟨s.answeredDn src tag code (plain .done), []⟩ := by
  obtain ⟨-, awake, room, g⟩ := ht
  rw [serve_dn awake rfl g.known, dnClass_panel g tag fitted node]
  simp only [room, if_true]
  rfl

/-- A request of the gateway to every node runs without a reply. -/
theorem serve_everyNode {s : State} (awake : s.mgmt.opState ≠ .parked) (tag code : Byte)
    (answer : Option OriginClass → Act Reply) :
    serve (toEveryNode tag) code answer ⟨s, []⟩ = (do
      let _ ← answer (some .gateway)
      pure ()) ⟨s.stopPreclean, []⟩ := by
  rw [serve_up awake rfl]
  rfl

section
variable {i : Instr} {tag : Byte} {n : Nat} {part : Fin 4} {rule : PanelRule} {states : List OpState}
variable {own : OriginClass → Act Reply} {s t : State} {r : Reply}

/-- The work of a gateway's request in one of its states, and its reply. -/
theorem exec_gateway (known : i.origin? = some (gateway tag))
    (run : runRequest i = serve (gateway tag) (codeByte n part) (afterChecks rule states own)) (ht : s.TakesRequest)
    (allowed : states.contains s.mgmt.opState = true) {owed : List (Fin 4)}
    (h : own .gateway ⟨s.answeredPlain tag (codeByte n part) .done, []⟩ = .ok r ⟨t, owed⟩) :
    exec i s = .next
      (Event.settled ⟨t.setReply .up s.port.rpq.length (replyFrame 0 tag (codeByte n part) r), owed⟩) := by
  have checked : afterChecks rule states own (some .gateway) ⟨s.answeredPlain tag (codeByte n part) .done, []⟩ =
      .ok r ⟨t, owed⟩ := by
    rw [afterChecks_gateway, ← h]
    exact if_pos allowed
  rw [exec_request_alive known ht.1, run, Act.after, serve_gateway ht, Act.bind_ok checked]
  rfl

/-- A gateway's request whose work leaves the state as it is. -/
theorem exec_gateway_quiet (known : i.origin? = some (gateway tag))
    (run : runRequest i = serve (gateway tag) (codeByte n part) (afterChecks rule states own)) (ht : s.TakesRequest)
    (allowed : states.contains s.mgmt.opState = true)
    (h : own .gateway ⟨s.answeredPlain tag (codeByte n part) .done, []⟩ =
      .ok r ⟨s.answeredPlain tag (codeByte n part) .done, []⟩) :
    exec i s = .next (s.answered tag (codeByte n part) r) := by
  rw [exec_gateway known run ht allowed h, ← answered_setReply s tag (codeByte n part) (plain .done) r]
  rfl

theorem exec_gateway_refused (known : i.origin? = some (gateway tag))
    (run : runRequest i = serve (gateway tag) (codeByte n part) (afterChecks rule states own)) (ht : s.TakesRequest)
    (barred : states.contains s.mgmt.opState = false) :
    exec i s = .next (s.answeredPlain tag (codeByte n part) .refusedState) := by
  have checked : afterChecks rule states own (some .gateway) ⟨s.answeredPlain tag (codeByte n part) .done, []⟩ =
      .ok (plain .refusedState) ⟨s.answeredPlain tag (codeByte n part) .done, []⟩ := by
    rw [afterChecks_gateway]
    exact if_neg (by rw [Bool.not_eq_true]; exact barred)
  rw [exec_request_alive known ht.1, run, Act.after, serve_gateway ht, Act.bind_ok checked]
  exact congrArg _ (answered_setReply s tag (codeByte n part) (plain .done) _)

theorem exec_everyNode (known : i.origin? = some (toEveryNode tag))
    (run : runRequest i = serve (toEveryNode tag) (codeByte n part) (afterChecks rule states own)) (alive : s.alive = true)
    (awake : s.mgmt.opState ≠ .parked) (allowed : states.contains s.mgmt.opState = true) {owed : List (Fin 4)}
    (h : own .gateway ⟨s.stopPreclean, []⟩ = .ok r ⟨t, owed⟩) : exec i s = .next (Event.settled ⟨t, owed⟩) := by
  have checked : afterChecks rule states own (some .gateway) ⟨s.stopPreclean, []⟩ = .ok r ⟨t, owed⟩ := by
    rw [afterChecks_gateway, ← h]
    exact if_pos allowed
  rw [exec_request_alive known alive, run, Act.after, serve_everyNode awake, Act.bind_ok checked]
  rfl

theorem exec_everyNode_refused (known : i.origin? = some (toEveryNode tag))
    (run : runRequest i = serve (toEveryNode tag) (codeByte n part) (afterChecks rule states own)) (alive : s.alive = true)
    (awake : s.mgmt.opState ≠ .parked) (barred : states.contains s.mgmt.opState = false) :
    exec i s = .next s.stopPreclean := by
  have checked : afterChecks rule states own (some .gateway) ⟨s.stopPreclean, []⟩ =
      .ok (plain .refusedState) ⟨s.stopPreclean, []⟩ := by
    rw [afterChecks_gateway]
    exact if_neg (by rw [Bool.not_eq_true]; exact barred)
  rw [exec_request_alive known alive, run, Act.after, serve_everyNode awake, Act.bind_ok checked]
  rfl

variable {src : Byte}

/-- The work of a panel's request that the panel may use in one of its states, and its reply. -/
theorem exec_panel (known : i.origin? = some (onDn src tag))
    (run : runRequest i = serve (onDn src tag) (codeByte n part) (afterChecks rule states own)) (ht : s.TakesDnRequest)
    (fitted : s.mgmt.params.content.panelNode ≠ 0) (node : src.toNat = s.mgmt.params.content.panelNode)
    (may : classCheck (some .panel) rule s.tally.tallies = none)
    (allowed : states.contains s.mgmt.opState = true) {owed : List (Fin 4)}
    (h : own .panel ⟨s.answeredDn src tag (codeByte n part) (plain .done), []⟩ = .ok r ⟨t, owed⟩) :
    exec i s = .next
      (Event.settled ⟨t.setReply .dn s.port.ptq.length (replyFrame src tag (codeByte n part) r), owed⟩) := by
  have checked : afterChecks rule states own (some .panel) ⟨s.answeredDn src tag (codeByte n part) (plain .done), []⟩ =
      .ok r ⟨t, owed⟩ := by
    rw [afterChecks_passed (show classCheck (some .panel) rule _ = none from may), ← h]
    exact if_pos allowed
  rw [exec_request_alive known ht.1, run, Act.after, serve_panel ht tag _ fitted node, Act.bind_ok checked]
  rfl

theorem exec_panel_quiet (known : i.origin? = some (onDn src tag))
    (run : runRequest i = serve (onDn src tag) (codeByte n part) (afterChecks rule states own)) (ht : s.TakesDnRequest)
    (fitted : s.mgmt.params.content.panelNode ≠ 0) (node : src.toNat = s.mgmt.params.content.panelNode)
    (may : classCheck (some .panel) rule s.tally.tallies = none)
    (allowed : states.contains s.mgmt.opState = true)
    (h : own .panel ⟨s.answeredDn src tag (codeByte n part) (plain .done), []⟩ =
      .ok r ⟨s.answeredDn src tag (codeByte n part) (plain .done), []⟩) :
    exec i s = .next (s.answeredDn src tag (codeByte n part) r) := by
  rw [exec_panel known run ht fitted node may allowed h]
  exact congrArg _ (answeredDn_setReply s src tag (codeByte n part) (plain .done) r)

/-- A panel's request that fails a check is refused and changes nothing. -/
theorem exec_panel_refused (known : i.origin? = some (onDn src tag))
    (run : runRequest i = serve (onDn src tag) (codeByte n part) (afterChecks rule states own)) (ht : s.TakesDnRequest)
    (fitted : s.mgmt.params.content.panelNode ≠ 0) (node : src.toNat = s.mgmt.params.content.panelNode) {c : ResultCode}
    (why : classCheck (some .panel) rule s.tally.tallies = some c ∨
      classCheck (some .panel) rule s.tally.tallies = none ∧ states.contains s.mgmt.opState = false ∧ c = .refusedState) :
    exec i s = .next (s.answeredDn src tag (codeByte n part) (plain c)) := by
  have checked : afterChecks rule states own (some .panel) ⟨s.answeredDn src tag (codeByte n part) (plain .done), []⟩ =
      .ok (plain c) ⟨s.answeredDn src tag (codeByte n part) (plain .done), []⟩ := by
    rcases why with may | ⟨may, barred, rfl⟩
    · exact afterChecks_refused may
    · rw [afterChecks_passed (show classCheck (some .panel) rule _ = none from may)]
      exact if_neg (by rw [Bool.not_eq_true]; exact barred)
  rw [exec_request_alive known ht.1, run, Act.after, serve_panel ht tag _ fitted node, Act.bind_ok checked]
  exact congrArg _ (answeredDn_setReply s src tag (codeByte n part) (plain .done) _)

end

/-- The numbers the statements name for a state are those whose states do not hold it. -/
theorem statesOf_outside {n : Nat} {args : List Byte} {s : State}
    (h : (s.mgmt.opState = .parking ∧ n ∉ [1, 2, 3, 4, 9, 11, 13, 15, 23, 26, 29, 32]) ∨
      (s.mgmt.opState = .config ∧ n ∈ [17, 19, 20, 21, 22, 31]) ∨
      (s.mgmt.opState = .run ∧
        (n ∈ [5, 6, 7, 12, 14, 18] ∨ (n = 16 ∧ args.head? ≠ some 5 ∧ args.head? ≠ some 6)))) :
    (statesOf n args).contains s.mgmt.opState = false ∧ n ≠ 32 := by
  rcases h with ⟨o, h⟩ | ⟨o, h⟩ | ⟨o, h | ⟨rfl, h5, h6⟩⟩
  · refine ⟨?_, fun e => h (by simp [e])⟩
    rw [o, statesOf, if_neg h, paramStates]
    split <;> [rfl; (split <;> [rfl; (split <;> [(split <;> rfl); rfl])])]
  · have : n ≠ 32 := by rintro rfl; simp at h
    refine ⟨?_, this⟩
    fin_cases h <;> rw [o] <;> rfl
  · have : n ≠ 32 := by rintro rfl; simp at h
    refine ⟨?_, this⟩
    fin_cases h <;> rw [o] <;> rfl
  · refine ⟨?_, by decide⟩
    have other : ((args.head?.map BitVec.toNat).getD 0) ≠ 5 ∧ ((args.head?.map BitVec.toNat).getD 0) ≠ 6 := by
      cases hd : args.head? with
      | none => simp
      | some b =>
        rw [hd] at h5 h6
        exact ⟨fun e => h5 (congrArg some (BitVec.eq_of_toNat_eq e)),
          fun e => h6 (congrArg some (BitVec.eq_of_toNat_eq e))⟩
    rw [o]
    simp [statesOf, paramStates, other]

theorem partOk_of_outside {i : Instr} {o : Origin} {n : Nat} {part : Fin 4} {args : List Byte}
    (h : requestForm i = some (o, n, part, args)) (hn : n ∉ [1, 2]) : i.partOk = true := by
  cases i <;> simp only [requestForm, Option.some.injEq, Prod.mk.injEq, reduceCtorEq] at h
  case readState => exact absurd h.2.1 (fun e => hn (by simp [← e]))
  case readSlot => exact absurd h.2.1 (fun e => hn (by simp [← e]))
  all_goals rfl

/-- Settles O23: outside its states a request passes the class check and fails the next. -/
theorem requestsOutsideTheirStatesAreRefused : Obligations.RequestsOutsideTheirStatesAreRefused := by
  refine ⟨fun i tag n part args s outside => ?_, fun src tag flap blower duration s ht fitted node out => ?_⟩
  · obtain ⟨barred, notReset⟩ := statesOf_outside outside
    have awake : s.mgmt.opState ≠ .parked := by
      intro h
      rcases outside with ⟨o, -⟩ | ⟨o, -⟩ | ⟨o, -⟩ <;> rw [h] at o <;> cases o
    have hn : n ∉ [1, 2] := by
      intro h
      rcases outside with ⟨-, no⟩ | ⟨-, no⟩ | ⟨-, no | ⟨no, -⟩⟩ <;> fin_cases h <;> simp at no
    refine ⟨fun form ht => ?_, fun form alive => ?_⟩
    · obtain ⟨own, run⟩ := runRequest_form form (partOk_of_outside form hn) fun e => absurd e notReset
      exact exec_gateway_refused (isSome_origin_of_form form) run ht barred
    · obtain ⟨own, run⟩ := runRequest_form form (partOk_of_outside form hn) fun e => absurd e notReset
      exact exec_everyNode_refused (isSome_origin_of_form form) run alive awake barred
  · have barred : [OpState.run].contains s.mgmt.opState = false := by simpa using out
    exact ⟨exec_panel_refused rfl rfl ht fitted node (.inr ⟨rfl, barred, rfl⟩),
      exec_panel_refused rfl rfl ht fitted node (.inr ⟨rfl, barred, rfl⟩)⟩

end Sys2Proof.Machine
end

section
/-! SUPPORT. Arrivals counted and disposed of. -/
namespace Sys2Proof.Machine
open Sys2Proof

/-! ### Sub-events -/

theorem settled_give (e : SubEvent) (s : State) : ((⟨s, []⟩ : Event).give e).settled = s.count e := rfl

theorem settled_give_give (e e' : SubEvent) (s : State) :
    (((⟨s, []⟩ : Event).give e).give e').settled = s.countAll [e, e'] := rfl

/-- The frame that joins a queue and the sub-event counted before it do not meet. -/
theorem give_onPort (e : SubEvent) (f : PortUnit → PortUnit) (v : Event) :
    (⟨(v.give e).state.onPort f, (v.give e).owed⟩ : Event) = (⟨v.state.onPort f, v.owed⟩ : Event).give e := rfl

/-- Without a wrap a sub-event owes no notice. -/
theorem give_noWrap {s : State} (h : s.NoWrap) (e : SubEvent) : (⟨s, []⟩ : Event).give e = ⟨s.count e, []⟩ := by
  have none : ((⟨s, []⟩ : Event).give e).owed = [] := by
    simp only [Event.give, State.addAmounts, List.nil_append, List.filter_eq_nil_iff]
    intro i _ bad
    rw [Bool.and_eq_true] at bad
    have small := h i bad.1
    have wraps : 2 ^ 32 ≤ s.tally.tallies[i].value.toNat +
        e.amount s.ctrl.mode s.tally.tallies[i] := by simpa [Tally.wraps] using bad.2
    have : e.amount s.ctrl.mode s.tally.tallies[i] ≤ 1 := Bool.toNat_le _
    omega
  have : ((⟨s, []⟩ : Event).give e).settled = ((⟨s, []⟩ : Event).give e).state := by
    simp [Event.settled, none]
  rw [← settled_give, this]
  exact congrArg (Event.mk _) none

/-! ### Offers -/

theorem offerPtq_run_room {v : Event} (h : v.state.port.ptq.length < 8) (f : Frame) :
    offerPtq f v = .ok () ⟨v.state.onPort fun p => { p with ptq := p.ptq ++ [f] }, v.owed⟩ := by
  simp [offerPtq, Act.bind_run, Act.look_run, Act.upd_run, ptqCapacity, h, State.onPort, offer]

theorem offerFwq_run_room {v : Event} (h : v.state.port.fwq.length < 16) (f : Frame) :
    offerFwq f v = .ok () ⟨v.state.onPort fun p => { p with fwq := p.fwq ++ [f] }, v.owed⟩ := by
  simp [offerFwq, Act.bind_run, Act.look_run, Act.upd_run, fwqCapacity, h, State.onPort, offer]

theorem offerPtq_run_full {v : Event} (h : 8 ≤ v.state.port.ptq.length) (f : Frame) :
    offerPtq f v = .ok () ⟨(v.give .ptDrop).settled.raiseRecord .queueDrop (.queue .ptq), []⟩ := by
  simp [offerPtq, dropFrame, Act.bind_run, Act.look_run, Act.upd_run, Act.give_run, Act.raiseOwed_run, ptqCapacity,
    Nat.not_lt.mpr h]

theorem offerFwq_run_full {v : Event} (h : 16 ≤ v.state.port.fwq.length) (f : Frame) :
    offerFwq f v = .ok () ⟨(v.give .fqDrop).settled.raiseRecord .queueDrop (.queue .fwq), []⟩ := by
  simp [offerFwq, dropFrame, Act.bind_run, Act.look_run, Act.upd_run, Act.give_run, Act.raiseOwed_run, fwqCapacity,
    Nat.not_lt.mpr h]

theorem offerPtq_after_give {s : State} {e : SubEvent} (f : Frame) :
    (s.port.ptq.length < 8 → offerPtq f ((⟨s, []⟩ : Event).give e) =
      .ok () ((⟨s.onPort fun p => { p with ptq := p.ptq ++ [f] }, []⟩ : Event).give e)) ∧
    (8 ≤ s.port.ptq.length → offerPtq f ((⟨s, []⟩ : Event).give e) =
      .ok () ⟨(s.countAll [e, .ptDrop]).raiseRecord .queueDrop (.queue .ptq), []⟩) :=
  ⟨fun h => offerPtq_run_room (v := (⟨s, []⟩ : Event).give e) h f,
    fun h => offerPtq_run_full (v := (⟨s, []⟩ : Event).give e) h f⟩

theorem offerFwq_after_give {s : State} {e : SubEvent} (f : Frame) :
    (s.port.fwq.length < 16 → offerFwq f ((⟨s, []⟩ : Event).give e) =
      .ok () ((⟨s.onPort fun p => { p with fwq := p.fwq ++ [f] }, []⟩ : Event).give e)) ∧
    (16 ≤ s.port.fwq.length → offerFwq f ((⟨s, []⟩ : Event).give e) =
      .ok () ⟨(s.countAll [e, .fqDrop]).raiseRecord .queueDrop (.queue .fwq), []⟩) :=
  ⟨fun h => offerFwq_run_room (v := (⟨s, []⟩ : Event).give e) h f,
    fun h => offerFwq_run_full (v := (⟨s, []⟩ : Event).give e) h f⟩

/-! ### The request a MANAGE frame carries -/

theorem isSome_origin_of_table {o : Origin} {part : Fin 4} {n : Nat} {args : List Byte} {i : Instr}
    (h : tableRequestOf o part n args = some i) : i.origin? = some o := by
  unfold tableRequestOf at h
  split at h <;> simp only [Option.some.injEq, reduceCtorEq] at h <;> subst h <;> rfl

/-- A request decoded from its control form has the origin it was decoded with. -/
theorem origin_of_control (o : Origin) (part : Fin 4) {n : Nat} (hn : n ≤ 32) (args : List Byte) :
    (controlRequestOf o part n args).elim (some o) Instr.origin? = some o := by
  rcases args with _ | ⟨a, _ | ⟨b, _ | ⟨c, _ | ⟨d, _ | ⟨e, _ | ⟨f, _ | ⟨g, rest⟩⟩⟩⟩⟩⟩⟩ <;> interval_cases n <;> rfl

theorem le_of_knownCode {n part : Nat} (h : knownCode n part = true) : n ≤ 32 := by
  unfold knownCode at h
  split at h
  · decide
  · decide
  · decide
  · simp only [Bool.and_eq_true, decide_eq_true_eq] at h
    exact h.1.2

theorem origin_of_decodeRequest {o : Origin} {code : Byte} {args : List Byte} {i : Instr}
    (h : decodeRequest o code args = .known i) : i.origin? = some o := by
  unfold decodeRequest at h
  dsimp only at h
  split at h
  · cases h
  next valid =>
    have small := le_of_knownCode (by simpa using valid)
    split at h
    next x e =>
      cases h
      cases ht : tableRequestOf o (codePart code) (code.toNat % 64) args with
      | none =>
        have control := origin_of_control o (codePart code) small args
        rw [ht] at e
        rwa [show controlRequestOf o (codePart code) (code.toNat % 64) args = some _ from e] at control
      | some y =>
        rw [ht] at e
        cases e
        exact isSome_origin_of_table ht
    next => cases h

/-- A MANAGE frame with a known request does that request's work. -/
theorem takeManage_known {port : Port} {broadcast : Bool} {f : Frame} {code : Byte} {args : List Byte} {i : Instr}
    (hp : f.payload = code :: args) (h : decodeRequest ⟨port, broadcast, f.src, f.tag⟩ code args = .known i) :
    takeManage port broadcast f = runRequest i := by
  simp only [takeManage, hp, h]

theorem exec_of_takeManage {port : Port} {broadcast : Bool} {f : Frame} {code : Byte} {args : List Byte} {i : Instr}
    (hp : f.payload = code :: args) (h : decodeRequest ⟨port, broadcast, f.src, f.tag⟩ code args = .known i) {s : State}
    (alive : s.alive = true) : exec i s = .next ((takeManage port broadcast f).after s) := by
  rw [takeManage_known hp h, exec_request_alive (origin_of_decodeRequest h) alive]

/-! ### Arrivals on DN -/

theorem dnArrival_run {r : Reception} {s : State} (awake : s.mgmt.opState ≠ .parked) (taking : s.port.dnRx = .taking) :
    dnArrival r ⟨s, []⟩ = takeDn r ⟨s, []⟩ := by
  have awake : (s.mgmt.opState != .parked) = true := by simpa using awake
  simp [dnArrival, Act.bind_run, Act.look_run, awake, taking]

theorem upArrival_run {r : Reception} {busy : LinesBusy} {s : State} (awake : s.mgmt.opState ≠ .parked)
    (taking : s.port.upRx = .taking) : upArrival r busy ⟨s, []⟩ = takeUp r ⟨s, []⟩ := by
  have awake : (s.mgmt.opState == .parked) = false := by simpa using awake
  simp [upArrival, Act.bind_run, Act.look_run, awake, taking]

theorem takeDn_good {r : Reception} {f : Frame} (h : classify r = .good f) (v : Event) :
    takeDn r v = dispose .dn f (dnDisposition f.dest.toNat f.kind) (v.give .rxGood) := by
  simp only [takeDn, h, Act.bind_run, Act.give_run, Classified.subEvent]

theorem takeUp_good {r : Reception} {f : Frame} (h : classify r = .good f) (v : Event) :
    takeUp r v = dispose .up f (upDisposition f.dest.toNat f.kind) (v.give .rxGood) := by
  simp only [takeUp, h, Act.bind_run, Act.give_run, Classified.subEvent]

/-- A good frame on DN is disposed of behind RX_GOOD. -/
theorem exec_dnArrival_good {r : Reception} {s : State} {f : Frame} (alive : s.alive = true)
    (awake : s.mgmt.opState ≠ .parked) (taking : s.port.dnRx = .taking) (h : classify r = .good f) {w : Event}
    (run : dispose .dn f (dnDisposition f.dest.toNat f.kind) ((⟨s, []⟩ : Event).give .rxGood) = .ok () w) :
    exec (.dnArrival r) s = .next w.settled := by
  refine (live_alive alive).trans (congrArg _ (Act.after_ok (x := ()) ?_))
  rw [dnArrival_run awake taking, takeDn_good h, run]

theorem exec_upArrival_good {r : Reception} {busy : LinesBusy} {s : State} {f : Frame} (alive : s.alive = true)
    (awake : s.mgmt.opState ≠ .parked) (taking : s.port.upRx = .taking) (h : classify r = .good f) {w : Event}
    (run : dispose .up f (upDisposition f.dest.toNat f.kind) ((⟨s, []⟩ : Event).give .rxGood) = .ok () w) :
    exec (.upArrival r busy) s = .next w.settled := by
  refine (live_alive alive).trans (congrArg _ (Act.after_ok (x := ()) ?_))
  rw [upArrival_run awake taking, takeUp_good h, run]

/-- A MANAGE frame does, after RX_GOOD, what its request does. -/
theorem exec_dnArrival_manage {r : Reception} {s : State} {f : Frame} (alive : s.alive = true)
    (awake : s.mgmt.opState ≠ .parked) (taking : s.port.dnRx = .taking) (h : classify r = .good f) {d : Disposition}
    (hd : dnDisposition f.dest.toNat f.kind = d) {s' : State} {a : Act Unit}
    (run : dispose .dn f d ((⟨s, []⟩ : Event).give .rxGood) = a ⟨s', []⟩) :
    exec (.dnArrival r) s = .next (a.after s') := by
  refine (live_alive alive).trans (congrArg _ ?_)
  rw [Act.after, dnArrival_run awake taking, takeDn_good h, hd, run]
  rfl

theorem exec_upArrival_manage {r : Reception} {busy : LinesBusy} {s : State} {f : Frame} (alive : s.alive = true)
    (awake : s.mgmt.opState ≠ .parked) (taking : s.port.upRx = .taking) (h : classify r = .good f) {d : Disposition}
    (hd : upDisposition f.dest.toNat f.kind = d) {s' : State} {a : Act Unit}
    (run : dispose .up f d ((⟨s, []⟩ : Event).give .rxGood) = a ⟨s', []⟩) :
    exec (.upArrival r busy) s = .next (a.after s') := by
  refine (live_alive alive).trans (congrArg _ ?_)
  rw [Act.after, upArrival_run awake taking, takeUp_good h, hd, run]
  rfl

theorem count_alive (e : SubEvent) (s : State) : (s.count e).alive = s.alive := by simp [State.alive]

theorem dest_eq_iff (d : Byte) (n : Nat) (h : n < 256) : d = BitVec.ofNat 8 n ↔ d.toNat = n := by
  rw [← BitVec.toNat_inj, BitVec.toNat_ofNat, Nat.mod_eq_of_lt h]

/-- Settles O9: the dispositions of DN, each behind its sub-event. -/
theorem dnArrivalsAreCountedAndDisposedOf : Obligations.DnArrivalsAreCountedAndDisposedOf := by
  intro s r alive
  refine ⟨fun dull => ?_, fun awake taking => ⟨fun bad => ?_, fun bad => ?_, fun f good => ⟨?_, ?_, ?_, ?_⟩⟩⟩
  · refine (live_alive alive).trans (congrArg _ (Act.after_ok (x := ()) (w := ⟨s, []⟩) ?_))
    rcases dull with p | w
    · simp [dnArrival, Act.bind_run, Act.look_run, Act.pure_run, p]
    · have dull : (RxState.waitingIdle == RxState.taking) = false := rfl
      simp [dnArrival, Act.bind_run, Act.look_run, Act.pure_run, w, dull]
  · refine (live_alive alive).trans (congrArg _ ?_)
    rw [Act.after, dnArrival_run awake taking]
    simp only [takeDn, bad, Act.bind_run, Act.give_run, Act.pure_run, Classified.subEvent, settled_give]
  · refine (live_alive alive).trans (congrArg _ ?_)
    rw [Act.after, dnArrival_run awake taking]
    simp only [takeDn, bad, Act.bind_run, Act.give_run, Act.pure_run, Classified.subEvent, settled_give]
  · rintro ⟨lo, hi⟩
    have d : dnDisposition f.dest.toNat f.kind = .nowhere := by
      unfold dnDisposition
      rw [if_neg (by omega), if_neg (by omega)]
    exact exec_dnArrival_good alive awake taking good (by rw [d]; rfl)
  · rintro ⟨one, kind⟩
    have d : dnDisposition f.dest.toNat f.kind = .nowhere := by
      rcases kind with k | k | k <;> rw [one, k] <;> rfl
    exact exec_dnArrival_good alive awake taking good (by rw [d]; rfl)
  · rintro ⟨dest, kind⟩
    have d : dnDisposition f.dest.toNat f.kind = .forward := by
      rcases dest with e | e <;> simp [e, dnDisposition, kind]
    refine ⟨fun room => ?_, fun full => ?_⟩
    · exact exec_dnArrival_good alive awake taking good (by rw [d]; exact (offerFwq_after_give f).1 room)
    · exact exec_dnArrival_good alive awake taking good (by rw [d]; exact (offerFwq_after_give f).2 full)
  · intro code args i one kind hp noWrap known
    rw [exec_of_takeManage hp known (s := s.count .rxGood) (by rw [count_alive, alive])]
    have d : dnDisposition f.dest.toNat f.kind = .manage := by rw [one, kind]; rfl
    exact exec_dnArrival_manage alive awake taking good d (by rw [give_noWrap noWrap]; rfl)

/-! ### Arrivals on UP -/

theorem count_noWrap_port {s : State} (h : s.NoWrap) (e : SubEvent) : (s.count e).port = s.port := by
  have : ((⟨s, []⟩ : Event).give e).state = s.count e := by rw [give_noWrap h]
  rw [← this]
  rfl

/-- A request of the gateway that answers alike in every state. -/
theorem serve_gateway_quiet {s : State} (ht : s.TakesRequest) {tag code : Byte} {answer : Option OriginClass → Act Reply}
    {r : Reply} (quiet : answer (some .gateway) ⟨s.answeredPlain tag code .done, []⟩ =
      .ok r ⟨s.answeredPlain tag code .done, []⟩) : (serve (gateway tag) code answer).after s = s.answered tag code r := by
  rw [Act.after, serve_gateway ht, Act.bind_ok quiet]
  exact answered_setReply s tag code (plain .done) r

theorem unknownRequest_gateway {s : State} (ht : s.TakesRequest) (tag code : Byte) :
    (unknownRequest (gateway tag) code).after s = s.answeredPlain tag code .unknown := serve_gateway_quiet ht rfl

theorem badLengthRequest_gateway {s : State} (ht : s.TakesRequest) (tag code : Byte) (rule : PanelRule) :
    (badLengthRequest (gateway tag) code rule).after s = s.answeredPlain tag code .badValue :=
  serve_gateway_quiet ht rfl

/-- Settles O10: the dispositions of UP, each behind its sub-event. -/
theorem upArrivalsAreCountedAndDisposedOf : Obligations.UpArrivalsAreCountedAndDisposedOf := by
  intro s r busy alive awake taking
  refine ⟨fun bad => ?_, fun bad => ?_, fun f good => ⟨?_, ?_, ?_, ?_⟩⟩
  · refine (live_alive alive).trans (congrArg _ ?_)
    rw [Act.after, upArrival_run awake taking]
    simp only [takeUp, bad, Act.bind_run, Act.give_run, Act.pure_run, Classified.subEvent, settled_give]
  · refine (live_alive alive).trans (congrArg _ ?_)
    rw [Act.after, upArrival_run awake taking]
    simp only [takeUp, bad, Act.bind_run, Act.give_run, Act.pure_run, Classified.subEvent, settled_give]
  · intro zero
    exact exec_upArrival_good alive awake taking good (by rw [zero]; rfl)
  · rintro ⟨one, kind⟩
    have d : upDisposition f.dest.toNat f.kind = .nowhere := by
      rcases kind with k | k | k | k <;> rw [one, k] <;> rfl
    exact exec_upArrival_good alive awake taking good (by rw [d]; rfl)
  · rintro ⟨lo, notCmd, notAll⟩
    have d : upDisposition f.dest.toNat f.kind = .passThrough := by
      have all : ¬(f.dest.toNat = 63 ∧ f.kind = .manage) := fun h => notAll ⟨(dest_eq_iff _ 63 (by decide)).2 h.1, h.2⟩
      unfold upDisposition
      rw [if_neg (by omega), if_neg (by omega), if_neg notCmd, if_neg all]
    refine ⟨fun room => ?_, fun full => ?_⟩
    · exact exec_upArrival_good alive awake taking good (by rw [d]; exact (offerPtq_after_give f).1 room)
    · exact exec_upArrival_good alive awake taking good (by rw [d]; exact (offerPtq_after_give f).2 full)
  · intro code args kind hp noWrap
    have d1 (one : f.dest = 1) : upDisposition f.dest.toNat f.kind = .manage := by rw [one, kind]; rfl
    have d63 (all : f.dest = 63) : upDisposition f.dest.toNat f.kind = .broadcast := by rw [all, kind]; rfl
    have once (one : f.dest = 1) : exec (.upArrival r busy) s = .next ((takeManage .up false f).after (s.count .rxGood)) :=
      exec_upArrival_manage alive awake taking good (d1 one) (by rw [give_noWrap noWrap]; rfl)
    refine ⟨fun i one known => ?_, fun i all room known => ?_, fun i all full known => ?_, fun one src room => ?_⟩
    · rw [once one, exec_of_takeManage hp known (by rw [count_alive, alive])]
    · have offered : (s.onPort fun p => { p with ptq := p.ptq ++ [f] }).NoWrap := noWrap
      rw [exec_of_takeManage hp known (by rw [count_alive]; exact alive)]
      refine exec_upArrival_manage alive awake taking good (d63 all) ?_
      exact (Act.bind_ok ((offerPtq_after_give f).1 room)).trans (by rw [give_noWrap offered])
    · rw [exec_of_takeManage hp known (by simpa [State.alive] using alive)]
      refine exec_upArrival_manage alive awake taking good (d63 all) ?_
      exact Act.bind_ok ((offerPtq_after_give f).2 full)
    · have ht : (s.count .rxGood).TakesRequest :=
        ⟨by rw [count_alive, alive], by rwa [State.count_mgmt], by rw [count_noWrap_port noWrap]; exact room⟩
      have hg : (⟨.up, false, f.src, f.tag⟩ : Origin) = gateway f.tag := by rw [src]; rfl
      refine ⟨fun unknown => ?_, fun rule bad => ?_⟩
      · rw [once one]
        simp only [takeManage, hp, unknown]
        rw [hg, unknownRequest_gateway ht]
      · rw [once one]
        simp only [takeManage, hp, bad]
        rw [hg, badLengthRequest_gateway ht]

/-! ### Commands of the gateway for the actuators -/

theorem replyOwned_after_give {s : State} {e : SubEvent} (tag : Byte) :
    (s.port.rpq.length < 8 → replyOwned tag ((⟨s, []⟩ : Event).give e) =
      .ok () ((⟨s.onPort fun p => { p with rpq := p.rpq ++ [replyFrame 0 tag 0 (plain .owned)] }, []⟩ : Event).give e)) ∧
    (8 ≤ s.port.rpq.length → replyOwned tag ((⟨s, []⟩ : Event).give e) =
      .ok () (((⟨s, []⟩ : Event).give e).give .rqDrop)) := by
  refine ⟨fun h => ?_, fun h => ?_⟩
  · have room : ((⟨s, []⟩ : Event).give e).state.port.rpq.length < rpqCapacity := h
    simp only [replyOwned, Act.bind_run, Act.look_run, decide_eq_true room, if_true, Act.upd_run]
    rfl
  · have full : ¬((⟨s, []⟩ : Event).give e).state.port.rpq.length < rpqCapacity := Nat.not_lt.2 h
    simp only [replyOwned, Act.bind_run, Act.look_run, decide_eq_false full, Bool.false_eq_true, if_false, Act.give_run]

theorem takeCmd_run {s : State} (u : s.Undamaged) (f : Frame) (e : SubEvent) : takeCmd f ((⟨s, []⟩ : Event).give e) =
    (if (if f.dest.toNat = 63 then !(s.nodesSeen Actuator.all).isEmpty
        else !(atNode (s.nodesSeen Actuator.all) f.dest.toNat).isEmpty) && !(s.mgmt.opState == .config)
      then replyOwned f.tag else offerPtq f) ((⟨s, []⟩ : Event).give e) := by
  have known : ∀ a ∈ Actuator.all, ((⟨s, []⟩ : Event).give e).state.Known (.actuator a) :=
    fun a _ => (u.known (.actuator a)).of_tables rfl
  simp only [takeCmd, Act.bind_ok (readNodes_known _ known), Act.bind_run, Act.look_run]
  rfl

theorem mem_actuators (a : Actuator) : a ∈ Actuator.all := by cases a <;> decide

theorem mem_nodesSeen {s : State} (u : s.Undamaged) (a : Actuator) (n : Nat) :
    (a, n) ∈ s.nodesSeen Actuator.all ↔
      (s.cmd.entries.get a).content.present = true ∧ (s.cmd.entries.get a).content.node = n := by
  simp only [State.nodesSeen, List.mem_filterMap, Option.map_eq_some_iff, u.actuatorSeen]
  constructor
  · rintro ⟨b, -, e, he, eq⟩
    cases eq
    split at he
    next present => cases he; exact ⟨present, rfl⟩
    next => cases he
  · rintro ⟨present, rfl⟩
    exact ⟨a, mem_actuators a, _, if_pos present, rfl⟩

theorem mem_atNode {s : State} (u : s.Undamaged) (a : Actuator) (n : Nat) :
    a ∈ atNode (s.nodesSeen Actuator.all) n ↔
      (s.cmd.entries.get a).content.present = true ∧ (s.cmd.entries.get a).content.node = n := by
  rw [← mem_nodesSeen u]
  simp [atNode]

/-- The gateway's CMD frame is for an actuator of the device. -/
theorem owned_iff {s : State} (u : s.Undamaged) (f : Frame) :
    (if f.dest.toNat = 63 then !(s.nodesSeen Actuator.all).isEmpty
      else !(atNode (s.nodesSeen Actuator.all) f.dest.toNat).isEmpty) = true ↔
    ∃ a, (s.cmd.entries.get a).content.present = true ∧
      (f.dest = 63 ∨ (s.cmd.entries.get a).content.node = f.dest.toNat) := by
  have all : f.dest = 63 ↔ f.dest.toNat = 63 := dest_eq_iff _ 63 (by decide)
  rw [all]
  split
  next h =>
    simp only [Bool.not_eq_true', List.isEmpty_eq_false_iff_exists_mem, h, true_or, and_true]
    constructor
    · rintro ⟨⟨a, n⟩, mem⟩
      exact ⟨a, ((mem_nodesSeen u a n).1 mem).1⟩
    · rintro ⟨a, present⟩
      exact ⟨(a, _), (mem_nodesSeen u a _).2 ⟨present, rfl⟩⟩
  next h =>
    simp only [Bool.not_eq_true', List.isEmpty_eq_false_iff_exists_mem, h, false_or, mem_atNode u]

/-- Settles O11: a CMD frame is answered OWNED or offered to PTQ by the nodes the reads find. -/
theorem gatewayCommandsForOwnedNodesAreAnsweredOwned : Obligations.GatewayCommandsForOwnedNodesAreAnsweredOwned := by
  intro s r busy f alive awake taking u good kind dest
  have d : upDisposition f.dest.toNat f.kind = .owned := by
    unfold upDisposition
    rw [if_neg (by omega), if_neg (by omega), if_pos kind]
  refine ⟨fun ⟨owned, outside⟩ => ?_, fun other => ?_⟩
  · have run : dispose .up f .owned ((⟨s, []⟩ : Event).give .rxGood) = replyOwned f.tag ((⟨s, []⟩ : Event).give .rxGood) := by
      rw [dispose, takeCmd_run u, (owned_iff u f).2 owned]
      simp [outside]
    obtain ⟨roomy, full⟩ := replyOwned_after_give (s := s) (e := .rxGood) f.tag
    by_cases room : s.port.rpq.length < 8
    · rw [if_pos room]
      exact exec_upArrival_good alive awake taking good (by rw [d, run, roomy room]; rfl)
    · rw [if_neg room]
      exact exec_upArrival_good alive awake taking good (by rw [d, run, full (by omega)]; rfl)
  · have run : dispose .up f .owned ((⟨s, []⟩ : Event).give .rxGood) = offerPtq f ((⟨s, []⟩ : Event).give .rxGood) := by
      rw [dispose, takeCmd_run u]
      refine congrFun (if_neg ?_) _
      rw [Bool.and_eq_true, owned_iff u, not_and]
      rintro ⟨a, present, at_node⟩
      rcases other with config | none
      · simp [config]
      · exact absurd at_node (not_or.2 (none a present))
    refine ⟨fun room => ?_, fun full => ?_⟩
    · exact exec_upArrival_good alive awake taking good (by rw [d, run]; exact (offerPtq_after_give f).1 room)
    · exact exec_upArrival_good alive awake taking good (by rw [d, run]; exact (offerPtq_after_give f).2 full)

end Sys2Proof.Machine
end

section
/-! SUPPORT. The comparators, the two lines' ends, and the timers that end by themselves. -/
namespace Sys2Proof.Machine
open Sys2Proof

/-! ### Comparators -/

theorem CompState.advance_eq (confirm n : Nat) (isSet : Bool) :
    (⟨isSet, n⟩ : CompState).advance confirm = if n + 1 < confirm then ⟨isSet, n + 1⟩ else ⟨!isSet, 0⟩ := by
  unfold CompState.advance
  by_cases h : n + 1 < confirm
  · rw [if_neg (by simpa using h), if_pos h]
  · rw [if_pos (by simpa using h), if_neg h]

theorem CompSetup.evaluate_eq {c : CompSetup} (h : c.direction ≠ .off) (isSet : Bool) (n : Nat) (v : Int) :
    c.evaluate ⟨isSet, n⟩ v =
      if c.qualifies isSet v then (if n + 1 < c.confirm then ⟨isSet, n + 1⟩ else ⟨!isSet, 0⟩) else ⟨isSet, 0⟩ := by
  unfold CompSetup.evaluate
  split
  next off => exact absurd off h
  next => rw [CompState.advance_eq]

theorem CompSetup.evaluate_row {c : CompSetup} {isSet : Bool} {v : Int} {q : Prop} (h : c.direction ≠ .off)
    (rows : c.qualifies isSet v = true ↔ q) (n : Nat) :
    (q → c.evaluate ⟨isSet, n⟩ v = if n + 1 < c.confirm then ⟨isSet, n + 1⟩ else ⟨!isSet, 0⟩) ∧
      (¬q → c.evaluate ⟨isSet, n⟩ v = ⟨isSet, 0⟩) := by
  rw [CompSetup.evaluate_eq h, ← rows]
  exact ⟨fun y => if_pos y, fun n => if_neg n⟩

theorem evaluate_run {c : CompSetup} {vs : List Int} (qual : ∀ x ∈ vs, c.qualifies false x = true) (n : Nat) :
    (n + vs.length < c.confirm → vs.foldl c.evaluate ⟨false, n⟩ = ⟨false, n + vs.length⟩) ∧
    (vs ≠ [] → n + vs.length = c.confirm → vs.foldl c.evaluate ⟨false, n⟩ = ⟨true, 0⟩) := by
  induction vs generalizing n with
  | nil => exact ⟨fun _ => rfl, fun h => absurd rfl h⟩
  | cons v vs ih =>
    have q := qual v List.mem_cons_self
    have on : c.direction ≠ .off := by
      intro off
      simp [CompSetup.qualifies, off] at q
    have step : c.evaluate ⟨false, n⟩ v = if n + 1 < c.confirm then ⟨false, n + 1⟩ else ⟨true, 0⟩ := by
      rw [CompSetup.evaluate_eq on, if_pos q]
      rfl
    obtain ⟨below, at_⟩ := ih (fun x hx => qual x (List.mem_cons_of_mem _ hx)) (n + 1)
    rw [List.foldl_cons, List.length_cons, step]
    refine ⟨fun h => ?_, fun _ h => ?_⟩
    · rw [if_pos (by omega), below (by omega)]
      congr 1
      omega
    · cases vs with
      | nil =>
        rw [if_neg (by simp at h; omega)]
        rfl
      | cons w ws =>
        rw [if_pos (by simp at h; omega)]
        exact at_ (by simp) (by omega)

/-- Settles O16: the evaluation by direction and state, and its runs. -/
theorem comparatorsSetAtTheConfirmCount : Obligations.ComparatorsSetAtTheConfirmCount := by
  intro c n v
  refine ⟨fun above => ?_, fun below => ?_, fun off st => ?_, fun vs one qual => ⟨fun h => ?_, fun h => ?_⟩⟩
  · have clear := c.evaluate_row (isSet := false) (v := v) (q := c.set ≤ v) (by simp [above])
      (by simp [CompSetup.qualifies, above]) n
    have isSet := c.evaluate_row (isSet := true) (v := v) (q := v < c.clear) (by simp [above])
      (by simp [CompSetup.qualifies, above]) n
    exact ⟨clear.1, fun h => clear.2 (by omega), isSet.1, fun h => isSet.2 (by omega)⟩
  · have clear := c.evaluate_row (isSet := false) (v := v) (q := v ≤ c.set) (by simp [below])
      (by simp [CompSetup.qualifies, below]) n
    have isSet := c.evaluate_row (isSet := true) (v := v) (q := c.clear < v) (by simp [below])
      (by simp [CompSetup.qualifies, below]) n
    exact ⟨clear.1, fun h => clear.2 (by omega), isSet.1, fun h => isSet.2 (by omega)⟩
  · simp only [CompSetup.evaluate, off]
  · simpa using (evaluate_run qual 0).1 (by omega)
  · exact (evaluate_run qual 0).2 (by rintro rfl; simp at h; omega) (by omega)

/-! ### The UP line -/

theorem PortUnit.grantUp_rpq {p : PortUnit} {f : Frame} {rest : List Frame} (free : p.upTx = none)
    (hr : p.rpq = f :: rest) (one : p.fwq = [] ∨ p.upRunCount < 4) :
    p.grantUp = { p with upTx := some ⟨.rpq, !p.fwq.isEmpty, f⟩ } := by
  obtain ⟨ptq, fwq, rpq, share, count, dnTx, upTx, upRx, dnRx⟩ := p
  dsimp only at free hr one ⊢
  subst free hr
  cases fwq with
  | nil => rfl
  | cons g fs =>
    have few : count < 4 := by simpa using one
    simp [PortUnit.grantUp, few]

theorem PortUnit.grantUp_fwq {p : PortUnit} {f : Frame} {rest : List Frame} (free : p.upTx = none)
    (hf : p.fwq = f :: rest) (one : p.rpq = [] ∨ 4 ≤ p.upRunCount) :
    p.grantUp = { p with upTx := some ⟨.fwq, true, f⟩ } := by
  obtain ⟨ptq, fwq, rpq, share, count, dnTx, upTx, upRx, dnRx⟩ := p
  dsimp only at free hf one ⊢
  subst free hf
  cases rpq with
  | nil => rfl
  | cons g fs =>
    have many : ¬count < 4 := by simpa using one
    simp [PortUnit.grantUp, many]

theorem PortUnit.grantUp_none {p : PortUnit} (h : p.upTx.isSome = true ∨ (p.rpq = [] ∧ p.fwq = [])) : p.grantUp = p := by
  obtain ⟨ptq, fwq, rpq, share, count, dnTx, upTx, upRx, dnRx⟩ := p
  rcases h with busy | ⟨hr, hf⟩
  · obtain ⟨t, ht⟩ := Option.isSome_iff_exists.1 busy
    dsimp only at ht
    subst ht
    rfl
  · dsimp only at hr hf
    subst hr hf
    cases upTx <;> rfl

/-- Settles O20: the arbiter's cases by what the queues hold. -/
theorem upArbiterAndReceiversFollowTheLine : Obligations.UpArbiterAndReceiversFollowTheLine := by
  intro s alive
  have grant : exec .upGrant s = .next { s with port := s.port.grantUp } := live_alive alive
  have ended : exec .upTransmissionEnd s = .next { s with port := s.port.endUp } := live_alive alive
  refine ⟨fun none => ?_, fun f rest free hr one => ?_, fun f rest free hf one => ?_, fun none => ?_, fun f tx count => ?_,
    fun f tx => ?_, fun f b tx => ?_, live_alive alive, live_alive alive⟩
  · rw [grant, PortUnit.grantUp_none none]
  · rw [grant, PortUnit.grantUp_rpq free hr one]
    rfl
  · rw [grant, PortUnit.grantUp_fwq free hf one]
    rfl
  · rw [ended]
    simp only [PortUnit.endUp, none]
  · rw [ended]
    have : min 4 (s.port.upRunCount + 1) = s.port.upRunCount + 1 := by omega
    simp only [PortUnit.endUp, tx, if_true, this]
    rfl
  · rw [ended]
    simp only [PortUnit.endUp, tx, Bool.false_eq_true, if_false]
    rfl
  · rw [ended]
    simp only [PortUnit.endUp, tx]
    rfl

/-! ### The ends of DN transmissions -/

theorem onDelivery_tables (a : Actuator) (f : Delivery → Delivery) (s : State) : (s.onDelivery a f).tables = s.tables := rfl

theorem exec_dnTransmissionEnd {s : State} (alive : s.alive = true) {e : TxEnd} {w : Event}
    (h : dnTransmissionEnd e ⟨s, []⟩ = .ok () w) : exec (.dnTransmissionEnd e) s = .next w.settled :=
  (live_alive alive).trans (congrArg _ (Act.after_ok h))

/-- A command's transmission ends SENT: a command still on the line waits for its ack. -/
theorem cmdSent_onLine {v : Event} {a : Actuator} {o : Outstanding} (u : v.state.Undamaged)
    (out : (v.state.cmd.delivery.get a).outstanding = some o) (line : o.phase = .onLine) :
    cmdSent a v = .ok () ((⟨(v.state.onPort fun p => { p with dnShareCount := 0 }).onDelivery a fun d =>
      { d with outstanding := some { o with phase := .waiting }, ackTimer := some v.state.mgmt.params.content.ackTimeout },
      v.owed⟩ : Event).give (if o.attempts = 1 then .sent else .resent)) := by
  have w : (v.state.onPort fun p => { p with dnShareCount := 0 }).Undamaged := u.of_tables rfl
  have read := readParams_known (v := ⟨v.state.onPort fun p => { p with dnShareCount := 0 }, v.owed⟩) (w.known _)
  have here : (o.phase == .onLine) = true := by rw [line]; rfl
  simp only [cmdSent, Act.bind_run, Act.upd_run, Act.look_run, State.onPort_cmd, out, here, onlyIf_true, read,
    w.paramsSeen, Act.give_run]
  rfl

theorem cmdSent_gone {v : Event} {a : Actuator} (out : (v.state.cmd.delivery.get a).outstanding = none) :
    cmdSent a v = .ok () ⟨v.state.onPort fun p => { p with dnShareCount := 0 }, v.owed⟩ := by
  simp only [cmdSent, Act.bind_run, Act.upd_run, Act.look_run, State.onPort_cmd, out, Act.pure_run]

/-- What the end of its transmission does for a party. -/
def DnParty.ended : DnParty → TxEnd → Act Unit
  | .ptqHead, .sent => upd (State.onPort PortUnit.ptqSent)
  | .ptqHead, .lost => pure ()
  | .command a, .sent => cmdSent a
  | .command a, .lost => upd (State.cmdLost a)

theorem dnTransmissionEnd_run {s : State} {party : DnParty} {f : Frame} (tx : s.port.dnTx = some ⟨party, f⟩) (e : TxEnd) :
    dnTransmissionEnd e ⟨s, []⟩ = party.ended e ⟨s.onPort fun p => { p with dnTx := none }, []⟩ := by
  simp only [dnTransmissionEnd, Act.bind_run, Act.look_run, tx, Act.upd_run]
  cases party <;> cases e <;> rfl

/-- Settles O19: by the party on the line, the end and what the command has become. -/
theorem dnTransmissionEndsCountAndQueue : Obligations.DnTransmissionEndsCountAndQueue := by
  intro s f a o alive u
  refine ⟨fun e free => ?_, fun tx => ⟨?_, ?_⟩, fun tx out line => ⟨?_, ?_⟩, fun tx out => ⟨?_, ?_⟩⟩
  · refine exec_dnTransmissionEnd alive (w := ⟨s, []⟩) ?_
    simp only [dnTransmissionEnd, Act.bind_run, Act.look_run, free, Act.pure_run]
  · exact exec_dnTransmissionEnd alive (dnTransmissionEnd_run tx .sent)
  · exact exec_dnTransmissionEnd alive (dnTransmissionEnd_run tx .lost)
  · refine exec_dnTransmissionEnd alive ((dnTransmissionEnd_run tx .sent).trans ?_)
    exact cmdSent_onLine (v := ⟨s.onPort fun p => { p with dnTx := none }, []⟩) (u.of_tables rfl) out line
  · refine (exec_dnTransmissionEnd alive (dnTransmissionEnd_run tx .lost)).trans ?_
    simp only [State.cmdLost, State.onPort_cmd, out, line, if_true]
    rfl
  · exact exec_dnTransmissionEnd alive ((dnTransmissionEnd_run tx .sent).trans
      (cmdSent_gone (v := ⟨s.onPort fun p => { p with dnTx := none }, []⟩) out))
  · refine (exec_dnTransmissionEnd alive (dnTransmissionEnd_run tx .lost)).trans ?_
    simp only [State.cmdLost, State.onPort_cmd, out]
    rfl

end Sys2Proof.Machine
end

section
/-! SUPPORT. The Timer Unit's expiries and the hand-overs it takes, without damage. -/
namespace Sys2Proof.Machine
open Sys2Proof

/-! ### Timer Unit updates -/

theorem onTimer_congr {s : State} {f g : TimerUnit → TimerUnit} (h : f s.timer = g s.timer) : s.onTimer f = s.onTimer g := by
  simp only [State.onTimer, h]

theorem onTimer_onTimer {s : State} {f g h : TimerUnit → TimerUnit} (e : g (f s.timer) = h s.timer) :
    (s.onTimer f).onTimer g = s.onTimer h := by
  simp only [State.onTimer, e]

/-- The timer's work does not reach the tables. -/
theorem onTimer_undamaged {s : State} (u : s.Undamaged) {f : TimerUnit → TimerUnit} (h : (f s.timer).bins = s.timer.bins) :
    (s.onTimer f).Undamaged := u.of_tables (by simp only [State.tables, State.onTimer, h])

/-- What a live event does, by the run of its work. -/
theorem live_run {a : Act Unit} {s : State} (alive : s.alive = true) {w : Event} (h : a ⟨s, []⟩ = .ok () w) :
    live a s = .next w.settled := (live_alive alive).trans (congrArg _ (Act.after_ok h))

theorem live_run_plain {a : Act Unit} {s t : State} (alive : s.alive = true) (h : a ⟨s, []⟩ = .ok () ⟨t, []⟩) :
    live a s = .next t := live_run alive h

theorem onlyIf_run {c : Bool} {a : Act Unit} {v w : Event} (h : c = true → a v = .ok () w) (hn : c = false → v = w) :
    onlyIf c a v = .ok () w := by
  cases c
  · rw [← hn rfl]
    rfl
  · exact h rfl

theorem readParams_undamaged {v : Event} (u : v.state.Undamaged) : readParams v = .ok v.state.mgmt.params.content v := by
  rw [readParams_known (u.known _), u.paramsSeen]

/-! ### Raises and the blocks they do not reach -/

theorem raiseRecord_onCtrl (k : NoticeKind) (d : Detail) (f : Controller → Controller) (s : State) :
    (s.onCtrl f).raiseRecord k d = (s.raiseRecord k d).onCtrl f := by
  simp only [State.raiseRecord]
  split
  next h => exact (if_pos (c := (!(s.noticeRecord k).pending && !(s.noticeRecord k).masked) = true) h).symm ▸ rfl
  next h => exact (if_neg (c := (!(s.noticeRecord k).pending && !(s.noticeRecord k).masked) = true) h).symm ▸ rfl

theorem raiseOverflows_onCtrl (owed : List (Fin 4)) (f : Controller → Controller) (s : State) :
    (s.onCtrl f).raiseOverflows owed = (s.raiseOverflows owed).onCtrl f := by
  unfold State.raiseOverflows
  generalize tallyIndexes.flatMap (fun i => owed.filter (· == i)) = is
  induction is generalizing s with
  | nil => rfl
  | cons i is ih => rw [List.foldl_cons, List.foldl_cons, raiseRecord_onCtrl, ih]

/-- A report that joins behind a sub-event stands as if it had joined after the notices the sub-event owes. -/
theorem settled_reportTimers (v : Event) : (⟨v.state.reportTimers, v.owed⟩ : Event).settled = v.settled.reportTimers := by
  simp only [Event.settled, State.reportTimers, State.report, raiseOverflows_onCtrl, State.raiseOverflows_timer]

/-! ### Recovery and override -/

/-- Settles O45: the recovery's end and the override's, and the expiries without a timer. -/
theorem recoveryAndOverrideTimersExpire : Obligations.RecoveryAndOverrideTimersExpire := by
  intro s alive
  refine ⟨fun none => ?_, fun runs => ?_, fun notOut => ?_, fun out => ?_⟩
  · refine live_run_plain alive ?_
    simp only [recoveryExpiry, Act.bind_run, Act.look_run, none, Option.isSome_none, onlyIf_false, Act.pure_run]
  · have run : recoveryExpiry ⟨s, []⟩ = .ok () ⟨((⟨s.onTimer fun t =>
        { t with recovery := none, measurement := ⟨0, false, 0⟩ }, []⟩ : Event).give .recoveriesDone).state.reportTimers,
        ((⟨s.onTimer fun t =>
          { t with recovery := none, measurement := ⟨0, false, 0⟩ }, []⟩ : Event).give .recoveriesDone).owed⟩ := by
      simp only [recoveryExpiry, Act.bind_run, Act.look_run, runs, onlyIf_true, Act.upd_run, Act.give_run]
      rfl
    exact (live_run alive run).trans (congrArg _ (settled_reportTimers _))
  · refine live_run_plain alive ?_
    have : expired s.timer.overrideTimer = false := by simpa [expired] using notOut
    simp only [overrideExpiry, Act.bind_run, Act.look_run, this, onlyIf_false, Act.pure_run]
  · refine live_run_plain alive ?_
    have : expired s.timer.overrideTimer = true := by simpa [expired] using out
    simp only [overrideExpiry, Act.bind_run, Act.look_run, this, onlyIf_true, endOverride, Act.upd_run]
    rfl

/-! ### Purge and gap -/

/-- A purge start tried where nothing but the count may forbid it. -/
def TimerUnit.triedPurge (p : Params) (t : TimerUnit) : TimerUnit :=
  if min t.purgeCount p.purgeLimit < p.purgeLimit || t.heldCo2High then
    { t with purgeCount := min t.purgeCount p.purgeLimit, purge := startedTimer p.purgeLength }
  else { t with purgeCount := min t.purgeCount p.purgeLimit }

/-- What a purge start needs beside the count. -/
def State.purgeReady (s : State) : Bool :=
  s.mgmt.opState == .run && !s.timer.doorOpen && s.timer.purge.isNone && s.mgmt.params.content.enablesPurge

theorem purgeReady_iff (s : State) : s.purgeReady = true ↔
    s.mgmt.opState = .run ∧ s.timer.doorOpen = false ∧ s.timer.purge = none ∧
      s.mgmt.params.content.enablesPurge = true := by
  simp [State.purgeReady, and_assoc]

theorem tryPurgeStart_run {v : Event} (u : v.state.Undamaged) (further : Bool) :
    tryPurgeStart further v = .ok () ⟨if v.state.purgeReady && further then
      v.state.onTimer (·.triedPurge v.state.mgmt.params.content) else v.state, v.owed⟩ := by
  cases enabled : v.state.mgmt.params.content.enablesPurge
  · have no : v.state.purgeReady = false := by simp [State.purgeReady, enabled]
    rw [no]
    simp only [tryPurgeStart, Act.bind_run, Act.look_run]
    refine onlyIf_run (fun _ => ?_) fun _ => rfl
    simp only [Act.bind_run, readParams_undamaged u, enabled]
    rfl
  · have ready : v.state.purgeReady =
        (v.state.mgmt.opState == .run && !v.state.timer.doorOpen && v.state.timer.purge.isNone) := by
      simp [State.purgeReady, enabled]
    rw [ready]
    simp only [tryPurgeStart, Act.bind_run, Act.look_run]
    refine onlyIf_run (fun h => ?_) fun h => by rw [h]; rfl
    rw [h]
    simp only [Act.bind_run, readParams_undamaged u, enabled, onlyIf_true, Act.upd_run, if_true]
    refine congrArg (fun s => EStateM.Result.ok () (Event.mk s v.owed)) ?_
    exact onTimer_onTimer rfl

theorem TimerUnit.triedPurge_starts {p : Params} {t : TimerUnit} (h : t.purgeCount < p.purgeLimit ∨ t.heldCo2High = true) :
    t.triedPurge p =
      { t with purgeCount := min t.purgeCount p.purgeLimit, purge := some (p.purgeLength * 1000) } := by
  refine if_pos ?_
  rw [Bool.or_eq_true, decide_eq_true_eq]
  exact h.imp_left fun h => by omega

theorem TimerUnit.triedPurge_limit {p : Params} {t : TimerUnit} (h : p.purgeLimit ≤ t.purgeCount) (low : t.heldCo2High = false) :
    t.triedPurge p = { t with purgeCount := p.purgeLimit } := by
  have full : min t.purgeCount p.purgeLimit = p.purgeLimit := by omega
  rw [TimerUnit.triedPurge, full, if_neg (by simp [low])]

/-- The gap's end: a purge start where SHIELD and STUFFY stand. -/
theorem gapExpired_run {v : Event} (u : v.state.Undamaged) : gapExpired v = .ok ()
    ⟨if v.state.timer.heldMode == .shield && v.state.timer.heldStuffy && v.state.purgeReady then
      v.state.onTimer fun t => TimerUnit.triedPurge v.state.mgmt.params.content { t with gap := none }
    else v.state.onTimer fun t => { t with gap := none }, v.owed⟩ := by
  have w : (v.state.onTimer fun t => { t with gap := none }).Undamaged := onTimer_undamaged u rfl
  have tried := tryPurgeStart_run (v := ⟨v.state.onTimer fun t => { t with gap := none }, v.owed⟩) w true
  simp only [gapExpired, Act.bind_run, Act.upd_run, Act.look_run]
  refine onlyIf_run (fun h => ?_) fun h => ?_
  · rw [tried]
    have h : (v.state.timer.heldMode == .shield && v.state.timer.heldStuffy) = true := h
    rw [h, Bool.true_and, Bool.and_true]
    have same : (v.state.onTimer fun t => { t with gap := none }).purgeReady = v.state.purgeReady := rfl
    rw [same]
    cases v.state.purgeReady <;> rfl
  · have h : (v.state.timer.heldMode == .shield && v.state.timer.heldStuffy) = false := h
    rw [h, Bool.false_and]
    rfl

theorem exec_gap {s : State} (alive : s.alive = true) (u : s.Undamaged) (runs : s.timer.gap.isSome = true) :
    exec .gapTimerExpiry s = .next
      (if s.timer.heldMode == .shield && s.timer.heldStuffy && s.purgeReady then
        if s.timer.purgeCount < s.mgmt.params.content.purgeLimit ∨ s.timer.heldCo2High = true then
          (s.onTimer fun t => TimerUnit.triedPurge s.mgmt.params.content { t with gap := none }).reportTimers
        else s.onTimer fun t => TimerUnit.triedPurge s.mgmt.params.content { t with gap := none }
      else s.onTimer fun t => { t with gap := none }) := by
  refine live_run_plain alive ?_
  simp only [gapExpiry, Act.bind_run, Act.look_run, runs, onlyIf_true, gapExpired_run (v := ⟨s, []⟩) u]
  by_cases h : (s.timer.heldMode == .shield && s.timer.heldStuffy && s.purgeReady) = true
  · have none : s.timer.purge = none := ((purgeReady_iff s).1 (Bool.and_eq_true _ _ ▸ h).2).2.2.1
    simp only [h, if_true, State.onTimer_timer]
    by_cases c : s.timer.purgeCount < s.mgmt.params.content.purgeLimit ∨ s.timer.heldCo2High = true
    · rw [if_pos c, TimerUnit.triedPurge_starts (t := { s.timer with gap := Option.none }) c, none]
      rfl
    · rw [if_neg c]
      obtain ⟨full, low⟩ := not_or.1 c
      rw [TimerUnit.triedPurge_limit (t := { s.timer with gap := Option.none }) (by simpa using full) (by simpa using low),
        none]
      rfl
  · rw [if_neg h]
    simp only [h, Bool.false_eq_true, if_false, State.onTimer_timer]
    cases s.timer.purge <;> rfl

section
variable {v : Event} (u : v.state.Undamaged)
include u

/-- A purge that ends with STUFFY true below the limit starts the gap. -/
theorem purgeUnresolved_below (low : v.state.timer.heldCo2High = false)
    (below : v.state.timer.purgeCount + 1 < v.state.mgmt.params.content.purgeLimit) :
    purgeUnresolved v = .ok () ⟨v.state.onTimer fun t =>
      { t with
        purgeCount := v.state.timer.purgeCount + 1
        gap := some (v.state.mgmt.params.content.purgeGap * 1000) }, v.owed⟩ := by
  have count : min (min v.state.timer.purgeCount v.state.mgmt.params.content.purgeLimit + 1)
      v.state.mgmt.params.content.purgeLimit = v.state.timer.purgeCount + 1 := by omega
  have notAll : ¬(v.state.timer.purgeCount + 1 = v.state.mgmt.params.content.purgeLimit ∧
      v.state.timer.heldCo2High = false) := by omega
  simp only [purgeUnresolved, Act.bind_run, readParams_undamaged u, Act.upd_run, Act.look_run, State.onTimer_timer,
    TimerUnit.raiseCount, count, if_neg notAll]
  rw [low]
  exact congrArg (fun x => EStateM.Result.ok () (Event.mk x v.owed)) (onTimer_onTimer (by simp only [count]; rfl))

theorem purgeUnresolved_limit (low : v.state.timer.heldCo2High = false)
    (limit : v.state.mgmt.params.content.purgeLimit ≤ v.state.timer.purgeCount + 1) :
    purgeUnresolved v = .ok ()
      ⟨(v.state.onTimer fun t => { t with purgeCount := v.state.mgmt.params.content.purgeLimit }).raiseWith
        v.state.mgmt.params.content.escalation .co2Unresolved (.purgeCount v.state.mgmt.params.content.purgeLimit),
        v.owed⟩ := by
  have count : min (min v.state.timer.purgeCount v.state.mgmt.params.content.purgeLimit + 1)
      v.state.mgmt.params.content.purgeLimit = v.state.mgmt.params.content.purgeLimit := by omega
  have w : (v.state.onTimer fun t => { t with purgeCount := v.state.mgmt.params.content.purgeLimit }).Undamaged :=
    onTimer_undamaged u rfl
  have raised := raise_good (v := ⟨_, v.owed⟩) (k := .co2Unresolved)
    (.purgeCount v.state.mgmt.params.content.purgeLimit) (w.good .params)
  simp only [purgeUnresolved, Act.bind_run, readParams_undamaged u, Act.upd_run, Act.look_run]
  refine (congrFun (if_pos ⟨count, low⟩) _).trans ?_
  rw [show (v.state.onTimer fun t => t.raiseCount v.state.mgmt.params.content.purgeLimit) =
    v.state.onTimer fun t => { t with purgeCount := v.state.mgmt.params.content.purgeLimit } from
      onTimer_congr (by rw [TimerUnit.raiseCount, count])]
  exact raised

theorem purgeUnresolved_high (high : v.state.timer.heldCo2High = true) : purgeUnresolved v =
    gapExpired ⟨v.state.onTimer fun t =>
      { t.raiseCount v.state.mgmt.params.content.purgeLimit with
        gap := some (v.state.mgmt.params.content.purgeGap * 1000) }, v.owed⟩ := by
  simp only [purgeUnresolved, Act.bind_run, readParams_undamaged u, Act.upd_run, Act.look_run]
  refine (congrFun (if_neg fun h => ?_) _).trans ?_
  · exact absurd (high.symm.trans h.2) (by decide)
  · simp only [Act.bind_run, Act.upd_run, State.onTimer_timer, TimerUnit.raiseCount, high, onlyIf_true]
    rfl

end

/-- The purge timer's expiry, behind what the count and the gap come to. -/
theorem exec_purge {s t : State} (alive : s.alive = true) (runs : s.timer.purge.isSome = true)
    (h : (if s.timer.heldStuffy then purgeUnresolved else upd (State.onTimer fun t => { t with purgeCount := 0 }))
      ⟨s.onTimer fun t => { t with purge := none }, []⟩ = .ok () ⟨t, []⟩) :
    exec .purgeTimerExpiry s = .next t.reportTimers := by
  refine live_run_plain alive ?_
  simp only [purgeExpiry, Act.bind_run, Act.look_run, runs, onlyIf_true, Act.upd_run, State.onTimer_timer]
  cases stuffy : s.timer.heldStuffy <;> rw [stuffy] at h
  · exact (Act.bind_ok h).trans rfl
  · exact (Act.bind_ok h).trans rfl

/-- The end of a purge with STUFFY and CO2_HIGH true ends the gap at once. -/
theorem exec_purge_high {s : State} (alive : s.alive = true) (u : s.Undamaged) (runs : s.timer.purge.isSome = true)
    (stuffy : s.timer.heldStuffy = true) (high : s.timer.heldCo2High = true) :
    exec .purgeTimerExpiry s = .next
      (if s.timer.heldMode == .shield && s.timer.heldStuffy && (s.onTimer fun t => { t with purge := none }).purgeReady then
        s.onTimer fun t => TimerUnit.triedPurge s.mgmt.params.content
          { t.raiseCount s.mgmt.params.content.purgeLimit with purge := none, gap := none }
      else s.onTimer fun t =>
        { t.raiseCount s.mgmt.params.content.purgeLimit with purge := none, gap := none }).reportTimers := by
  have w : (s.onTimer fun t => { t with purge := none }).Undamaged := onTimer_undamaged u rfl
  refine exec_purge alive runs ?_
  rw [if_pos stuffy, purgeUnresolved_high (v := ⟨s.onTimer fun t => { t with purge := none }, []⟩) w high]
  exact gapExpired_run (v := ⟨(s.onTimer fun t => { t with purge := none }).onTimer fun t =>
    { t.raiseCount s.mgmt.params.content.purgeLimit with
      gap := some (s.mgmt.params.content.purgeGap * 1000) }, []⟩) (onTimer_undamaged w rfl)

/-- Settles O46: the purge's end by STUFFY, the count and CO2_HIGH, and the gap's end. -/
theorem purgeAndGapTimersExpire : Obligations.PurgeAndGapTimersExpire := by
  intro s alive u
  have w : (s.onTimer fun t => { t with purge := none }).Undamaged := onTimer_undamaged u rfl
  refine ⟨fun none => ?_, fun runs clear => ?_, fun runs stuffy low below => ?_, fun runs stuffy low limit => ?_,
    fun runs stuffy high mode => ?_, fun runs stuffy high mode => ?_, fun none => ?_, fun runs barred => ?_,
    fun runs mode stuffy run closed none enabled => ?_⟩
  · refine live_run_plain alive ?_
    simp only [purgeExpiry, Act.bind_run, Act.look_run, none, Option.isSome_none, onlyIf_false, Act.pure_run]
  · exact exec_purge alive runs (by rw [clear]; rfl)
  · exact exec_purge alive runs (by
      rw [if_pos stuffy]
      exact purgeUnresolved_below (v := ⟨_, []⟩) w low below)
  · refine ⟨_, exec_purge alive runs (by
      rw [if_pos stuffy]
      exact purgeUnresolved_limit (v := ⟨_, []⟩) w low limit), ?_⟩
    have raised := raiseWith_raisedFrom s.mgmt.params.content.escalation .co2Unresolved
      (.purgeCount s.mgmt.params.content.purgeLimit)
      ((s.onTimer fun t => { t with purge := Option.none }).onTimer fun t =>
        { t with purgeCount := s.mgmt.params.content.purgeLimit })
    have record := raised.1
    refine ⟨by simp, ?_, ?_, raised, by simp [State.reportTimers, State.report], by simp, by simp, by simp, by simp, by simp,
      by simp, by simp⟩
    · exact congrArg NoticeRecord.pending record
    · exact congrArg NoticeRecord.detail record
  · have no : (s.timer.heldMode == .shield) = false := by simpa using mode
    rw [exec_purge_high alive u runs stuffy high, no]
    rfl
  · rw [exec_purge_high alive u runs stuffy high, mode, stuffy]
    refine ⟨fun again => ?_, fun barred => ?_⟩
    · have ready : (s.onTimer fun t => { t with purge := none }).purgeReady = true :=
        (purgeReady_iff _).2 ⟨again.1, again.2.1, rfl, again.2.2⟩
      rw [ready]
      refine congrArg _ (congrArg State.reportTimers ((if_pos (by decide)).trans (onTimer_congr ?_)))
      refine (TimerUnit.triedPurge_starts (t := { s.timer.raiseCount s.mgmt.params.content.purgeLimit with
        purge := none, gap := none }) (.inr high)).trans ?_
      simp only [TimerUnit.raiseCount, min_assoc, min_self]
    · have notReady : (s.onTimer fun t => { t with purge := none }).purgeReady = false := by
        rw [Bool.eq_false_iff, Ne, purgeReady_iff]
        exact fun h => barred ⟨h.1, h.2.1, h.2.2.2⟩
      rw [notReady]
      rfl
  · refine live_run_plain alive ?_
    simp only [gapExpiry, Act.bind_run, Act.look_run, none, Option.isSome_none, onlyIf_false, Act.pure_run]
  · rw [exec_gap alive u runs, if_neg]
    simp only [Bool.and_eq_true, purgeReady_iff, beq_iff_eq, not_and]
    rintro ⟨mode, stuffy⟩ run closed none enabled
    simp [mode, stuffy, run, closed, none, enabled] at barred
  · have ready : (s.timer.heldMode == .shield && s.timer.heldStuffy && s.purgeReady) = true := by
      rw [(purgeReady_iff s).2 ⟨run, closed, none, enabled⟩, mode, stuffy]
      rfl
    rw [exec_gap alive u runs, if_pos ready]
    refine ⟨fun c => ?_, fun full low => ?_⟩
    · rw [if_pos c]
      exact congrArg _ (congrArg State.reportTimers (onTimer_congr (TimerUnit.triedPurge_starts c)))
    · rw [if_neg (by simp [low]; omega)]
      exact congrArg _ (onTimer_congr (TimerUnit.triedPurge_limit full low))

end Sys2Proof.Machine
end

section
/-! SUPPORT. The hand-overs the Timer Unit takes. -/
namespace Sys2Proof.Machine
open Sys2Proof

/-! ### SEVERE -/

/-- The severe stop of a running purge. -/
def TimerUnit.severeStopped (p : Params) (t : TimerUnit) : TimerUnit :=
  if t.purge.isSome && !t.heldCo2High && p.severeStop then
    { t with
      purge := none
      gap := some (p.purgeGap * 1000)
      purgeCount := min (min t.purgeCount p.purgeLimit + 1) p.purgeLimit }
  else t

theorem severeStop_run {v : Event} (u : v.state.Undamaged) :
    severeStop v = .ok () ⟨v.state.onTimer (·.severeStopped v.state.mgmt.params.content), v.owed⟩ := by
  have stays (h : v.state.timer.severeStopped v.state.mgmt.params.content = v.state.timer) :
      v = ⟨v.state.onTimer (·.severeStopped v.state.mgmt.params.content), v.owed⟩ := by
    simp only [State.onTimer, h]
  simp only [severeStop, Act.bind_run, Act.look_run]
  refine onlyIf_run (fun due => ?_) fun due => stays (by simp only [TimerUnit.severeStopped, due]; rfl)
  rw [Act.bind_ok (readParams_undamaged u)]
  refine onlyIf_run (fun stop => ?_) fun stop => stays (by simp only [TimerUnit.severeStopped, due, stop]; rfl)
  refine congrArg (fun x => EStateM.Result.ok () (Event.mk x v.owed)) (onTimer_congr ?_)
  simp only [TimerUnit.severeStopped, due, stop]
  rfl

theorem cancelFresh_tables (s : State) : s.cancelFresh.tables = s.tables := by
  unfold State.cancelFresh
  split
  · split
    · simp [State.tables, TimerUnit.endOverride]
    · rfl
  · rfl

/-- A hand-over's SEVERE true: the stop, then the end of a FRESH override. -/
def State.severeTaken (s : State) : State :=
  (s.onTimer (·.severeStopped s.mgmt.params.content)).cancelFresh

theorem severeTaken_undamaged {s : State} (u : s.Undamaged) : s.severeTaken.Undamaged := by
  refine u.of_tables ((cancelFresh_tables _).trans ?_)
  have : (s.timer.severeStopped s.mgmt.params.content).bins = s.timer.bins := by
    unfold TimerUnit.severeStopped
    split <;> rfl
  simp only [State.tables, State.onTimer, this]

/-! ### The starts -/

/-- What a hand-over's mode and STUFFY start and stop, `ready` saying whether a purge may start. -/
def TimerUnit.handoverStarted (p : Params) (ready : Bool) (h : Handover) (t : TimerUnit) : TimerUnit :=
  match h.mode with
  | some .safe => { t with purge := none, gap := none }
  | some .shield => if t.heldStuffy && (ready && (t.gap.isNone || t.heldCo2High)) then t.triedPurge p else t
  | some _ => t
  | none => if t.heldMode == .shield && h.stuffy == some true && ready then t.triedPurge p else t

theorem handoverStarts_run {v : Event} (u : v.state.Undamaged) (h : Handover) : handoverStarts h v =
    .ok () ⟨v.state.onTimer (·.handoverStarted v.state.mgmt.params.content v.state.purgeReady h), v.owed⟩ := by
  have stays (e : v.state.timer.handoverStarted v.state.mgmt.params.content v.state.purgeReady h = v.state.timer) :
      v = ⟨v.state.onTimer (·.handoverStarted v.state.mgmt.params.content v.state.purgeReady h), v.owed⟩ := by
    simp only [State.onTimer, e]
  obtain ⟨mode, stuffy, severe, co2High⟩ := h
  match mode with
  | some .safe => rfl
  | some .shield =>
    simp only [handoverStarts, Act.bind_run, Act.look_run]
    refine onlyIf_run (fun held => ?_) fun held => stays (by simp [TimerUnit.handoverStarted, held])
    rw [tryPurgeStart_run u]
    refine congrArg (fun x => EStateM.Result.ok () (Event.mk x v.owed)) ?_
    simp only [State.onTimer, TimerUnit.handoverStarted, held, Bool.true_and]
    split <;> rfl
  | none =>
    simp only [handoverStarts, Act.bind_run, Act.look_run]
    refine onlyIf_run (fun held => ?_) fun held => stays (by simp only [TimerUnit.handoverStarted, held]; rfl)
    rw [tryPurgeStart_run u]
    refine congrArg (fun x => EStateM.Result.ok () (Event.mk x v.owed)) ?_
    simp only [State.onTimer, TimerUnit.handoverStarted, held, Bool.true_and, Bool.and_true]
    split <;> rfl
  | some .fresh | some .purge | some .door | some .recover | some .demist | some .manual | some .park => rfl

/-! ### A hand-over -/

/-- The hand-over before its starts: what is held, what SEVERE and STUFFY false do. -/
def State.handedOver (h : Handover) (rest : List Handover) (s : State) : State :=
  let s := s.onTimer fun t => ({ t with handovers := rest } : TimerUnit).handed h
  let s := if h.severe == some true then s.severeTaken else s
  if h.stuffy == some false then s.onTimer TimerUnit.stuffyCleared else s

theorem stuffyCleared_bins (t : TimerUnit) : t.stuffyCleared.bins = t.bins := by
  unfold TimerUnit.stuffyCleared
  split <;> rfl

theorem handedOver_undamaged {s : State} (u : s.Undamaged) (h : Handover) (rest : List Handover) :
    (s.handedOver h rest).Undamaged := by
  have held : (s.onTimer fun t => ({ t with handovers := rest } : TimerUnit).handed h).Undamaged := onTimer_undamaged u rfl
  have severe : (if h.severe == some true then
      (s.onTimer fun t => ({ t with handovers := rest } : TimerUnit).handed h).severeTaken
    else s.onTimer fun t => ({ t with handovers := rest } : TimerUnit).handed h).Undamaged := by
    split
    · exact severeTaken_undamaged held
    · exact held
  unfold State.handedOver
  dsimp only
  split
  · exact onTimer_undamaged severe (stuffyCleared_bins _)
  · exact severe

/-- The oldest hand-over taken. -/
theorem exec_handover {s : State} (alive : s.alive = true) (u : s.Undamaged) {h : Handover} {rest : List Handover}
    (head : s.timer.handovers = h :: rest) : exec .controllerHandover s = .next
      ((s.handedOver h rest).onTimer
        (·.handoverStarted (s.handedOver h rest).mgmt.params.content (s.handedOver h rest).purgeReady h)).reportTimers := by
  refine live_run_plain alive ?_
  have w : (s.onTimer fun t => ({ t with handovers := rest } : TimerUnit).handed h).Undamaged := onTimer_undamaged u rfl
  have severe : (onlyIf (h.severe == some true) do
      severeStop
      upd State.cancelFresh) ⟨s.onTimer fun t => ({ t with handovers := rest } : TimerUnit).handed h, []⟩ =
      .ok () ⟨if h.severe == some true then
        (s.onTimer fun t => ({ t with handovers := rest } : TimerUnit).handed h).severeTaken
      else s.onTimer fun t => ({ t with handovers := rest } : TimerUnit).handed h, []⟩ := by
    refine onlyIf_run (fun e => ?_) fun e => by rw [e]; rfl
    rw [e]
    exact Act.bind_ok (severeStop_run (v := ⟨_, []⟩) w)
  have clear (x : State) : (onlyIf (h.stuffy == some false) (upd (State.onTimer TimerUnit.stuffyCleared))) ⟨x, []⟩ =
      .ok () ⟨if h.stuffy == some false then x.onTimer TimerUnit.stuffyCleared else x, []⟩ :=
    onlyIf_run (fun e => by rw [e]; rfl) fun e => by rw [e]; rfl
  simp only [controllerHandover, Act.bind_run, Act.look_run, head, List.head?_cons, Act.upd_run]
  rw [takeHandover, Act.bind_ok (Act.upd_run _ _)]
  have start : (⟨(s.onTimer fun t => { t with handovers := t.handovers.tail }).onTimer (·.handed h), []⟩ : Event) =
      ⟨s.onTimer fun t => ({ t with handovers := rest } : TimerUnit).handed h, []⟩ := by
    simp only [State.onTimer, head, List.tail_cons]
  refine (congrArg _ start).trans ?_
  rw [Act.bind_ok severe, Act.bind_ok (clear _)]
  exact Act.bind_ok (handoverStarts_run (v := ⟨s.handedOver h rest, []⟩) (handedOver_undamaged u h rest) h)

/-- A hand-over without SEVERE true and STUFFY false is held as it is. -/
theorem exec_handover_held {s : State} (alive : s.alive = true) (u : s.Undamaged) {h : Handover} {rest : List Handover}
    (head : s.timer.handovers = h :: rest) (severe : h.severe ≠ some true) (stuffy : h.stuffy ≠ some false) :
    exec .controllerHandover s = .next (s.onTimer fun t =>
      (({ t with handovers := rest } : TimerUnit).handed h).handoverStarted s.mgmt.params.content s.purgeReady
        h).reportTimers := by
  have notSevere : (h.severe == some true) = false := by simpa using severe
  have notClear : (h.stuffy == some false) = false := by simpa using stuffy
  have held : s.handedOver h rest = s.onTimer fun t => ({ t with handovers := rest } : TimerUnit).handed h := by
    simp only [State.handedOver, notSevere, notClear, Bool.false_eq_true, if_false]
  rw [exec_handover alive u head, held]
  rfl

/-- A purge started by a hand-over. -/
theorem handover_starts {s t : State} {h : Handover} {rest : List Handover}
    (run : exec .controllerHandover s = .next (s.onTimer fun t =>
      (({ t with handovers := rest } : TimerUnit).handed h).handoverStarted s.mgmt.params.content s.purgeReady
        h).reportTimers) {f : TimerUnit → TimerUnit} (e : (({ s.timer with handovers := rest } : TimerUnit).handed
        h).handoverStarted s.mgmt.params.content s.purgeReady h = f s.timer) (ht : t = (s.onTimer f).reportTimers) :
    exec .controllerHandover s = .next t := by
  rw [run, ht]
  exact congrArg _ (congrArg State.reportTimers (onTimer_congr e))

section
variable {p : Params} {h : Handover} {t : TimerUnit} {ready : Bool}

theorem handoverStarted_shield (mode : h.mode = some .shield) (stuffy : t.heldStuffy = true) (isReady : ready = true)
    (further : t.gap = none ∨ t.heldCo2High = true) : t.handoverStarted p ready h = t.triedPurge p := by
  have : (t.gap.isNone || t.heldCo2High) = true := by simpa using further
  simp only [TimerUnit.handoverStarted, mode, stuffy, isReady, this]
  rfl

theorem handoverStarted_stuffy (mode : h.mode = none) (stuffy : h.stuffy = some true) (held : t.heldMode = .shield)
    (isReady : ready = true) : t.handoverStarted p ready h = t.triedPurge p := by
  simp only [TimerUnit.handoverStarted, mode, stuffy, held, isReady]
  rfl

/-- Where no start is due or something forbids it, the timers stay. -/
theorem handoverStarted_none (notSafe : h.mode ≠ some .safe)
    (no : ¬((h.mode = some .shield ∧ t.heldStuffy = true ∧ (t.gap = none ∨ t.heldCo2High = true)) ∨
      (h.mode = none ∧ h.stuffy = some true ∧ t.heldMode = .shield)) ∨ ready = false) :
    t.handoverStarted p ready h = t := by
  unfold TimerUnit.handoverStarted
  split
  next e => exact absurd e notSafe
  next e =>
    refine if_neg fun c => ?_
    simp only [Bool.and_eq_true, Bool.or_eq_true, Option.isNone_iff_eq_none] at c
    obtain ⟨stuffy, isReady, further⟩ := c
    rcases no with no | no
    · exact no (.inl ⟨e, stuffy, further⟩)
    · rw [no] at isReady
      cases isReady
  next => rfl
  next e =>
    refine if_neg fun c => ?_
    simp only [Bool.and_eq_true, beq_iff_eq] at c
    obtain ⟨⟨mode, stuffy⟩, isReady⟩ := c
    rcases no with no | no
    · exact no (.inr ⟨e, stuffy, mode⟩)
    · rw [no] at isReady
      cases isReady

/-- No start is due behind a running gap with CO2_HIGH false. -/
theorem handoverStarted_gap (mode : h.mode = some .shield) (runs : t.gap.isSome = true) (low : t.heldCo2High = false) :
    t.handoverStarted p ready h = t := by
  refine handoverStarted_none (fun e => by rw [mode] at e; cases e) (.inl ?_)
  rintro (⟨-, -, none | high⟩ | ⟨no, -, -⟩)
  · rw [none] at runs
    cases runs
  · rw [low] at high
    cases high
  · rw [mode] at no
    cases no

end

/-! ### SEVERE true and STUFFY false -/

theorem cancelFresh_fresh {s : State} {r : OverrideRecord} (e : s.timer.overrideRecord = some r) (fresh : r.flap = .fresh) :
    s.cancelFresh = (s.onTimer TimerUnit.endOverride).raiseRecord .overrideCancelled (.origin r.origin) := by
  simp only [State.cancelFresh, e, fresh, if_true]

theorem cancelFresh_of_recirc {s : State} (h : ∀ r, s.timer.overrideRecord = some r → r.flap = .recirc) :
    s.cancelFresh = s := by
  unfold State.cancelFresh
  split
  next r e => exact if_neg (by rw [h r e]; decide)
  next => rfl

/-- A hand-over of SEVERE true stops, or not, and then ends a FRESH override. -/
theorem exec_handover_severe {s : State} (alive : s.alive = true) (u : s.Undamaged) {rest : List Handover}
    (head : s.timer.handovers = ⟨none, none, some true, none⟩ :: rest) {f : TimerUnit → TimerUnit}
    (e : ({ s.timer with handovers := rest, heldSevere := true } : TimerUnit).severeStopped s.mgmt.params.content =
      f s.timer) :
    exec .controllerHandover s = .next (s.onTimer f).cancelFresh.reportTimers := by
  have held : s.handedOver ⟨none, none, some true, none⟩ rest = (s.onTimer f).cancelFresh := by
    exact congrArg State.cancelFresh ((onTimer_onTimer rfl).trans (onTimer_congr (f := fun t =>
      ({ t with handovers := rest, heldSevere := true } : TimerUnit).severeStopped s.mgmt.params.content) e))
  rw [exec_handover alive u head, held]
  refine congrArg _ (congrArg State.reportTimers ?_)
  have none (t : TimerUnit) (p : Params) (ready : Bool) :
      t.handoverStarted p ready ⟨none, none, some true, none⟩ = t := by
    refine handoverStarted_none (by decide) (.inl ?_)
    rintro (⟨no, -⟩ | ⟨-, no, -⟩) <;> cases no
  simp only [none]
  rfl

theorem severeStopped_stops {p : Params} {t : TimerUnit} (runs : t.purge.isSome = true) (low : t.heldCo2High = false)
    (stop : p.severeStop = true) : t.severeStopped p =
      { t with
        purge := none
        gap := some (p.purgeGap * 1000)
        purgeCount := min (min t.purgeCount p.purgeLimit + 1) p.purgeLimit } :=
  if_pos (by rw [runs, low, stop]; rfl)

theorem severeStopped_stays {p : Params} {t : TimerUnit}
    (h : t.purge = none ∨ t.heldCo2High = true ∨ p.severeStop = false) : t.severeStopped p = t := by
  refine if_neg ?_
  rcases h with h | h | h <;> simp [h]

section
variable {s : State} (alive : s.alive = true) (u : s.Undamaged) {rest : List Handover}
  (head : s.timer.handovers = ⟨none, none, some true, none⟩ :: rest)
include alive u head

theorem exec_handover_stops (runs : s.timer.purge.isSome = true) (low : s.timer.heldCo2High = false)
    (stop : s.mgmt.params.content.severeStop = true) :
    exec .controllerHandover s = .next (s.onTimer fun t => { t with
      handovers := rest
      heldSevere := true
      purge := none
      gap := some (s.mgmt.params.content.purgeGap * 1000)
      purgeCount := min (min t.purgeCount s.mgmt.params.content.purgeLimit + 1)
        s.mgmt.params.content.purgeLimit }).cancelFresh.reportTimers :=
  exec_handover_severe alive u head
    (severeStopped_stops (t := { s.timer with handovers := rest, heldSevere := true }) runs low stop)

theorem exec_handover_spares
    (stays : s.timer.purge = none ∨ s.timer.heldCo2High = true ∨ s.mgmt.params.content.severeStop = false) :
    exec .controllerHandover s =
      .next (s.onTimer fun t => { t with handovers := rest, heldSevere := true }).cancelFresh.reportTimers :=
  exec_handover_severe alive u head
    (severeStopped_stays (t := { s.timer with handovers := rest, heldSevere := true }) stays)

end

/-- A hand-over of STUFFY false clears the count and the gap outside a purge. -/
theorem exec_handover_clear {s : State} (alive : s.alive = true) (u : s.Undamaged) {rest : List Handover}
    (head : s.timer.handovers = ⟨none, some false, none, none⟩ :: rest) {f : TimerUnit → TimerUnit}
    (e : ({ s.timer with handovers := rest, heldStuffy := false } : TimerUnit).stuffyCleared = f s.timer) :
    exec .controllerHandover s = .next (s.onTimer f).reportTimers := by
  have held : s.handedOver ⟨none, some false, none, none⟩ rest = s.onTimer f :=
    (onTimer_onTimer rfl).trans (onTimer_congr (f := fun t =>
      ({ t with handovers := rest, heldStuffy := false } : TimerUnit).stuffyCleared) e)
  rw [exec_handover alive u head, held]
  refine congrArg _ (congrArg State.reportTimers ?_)
  have none (t : TimerUnit) (p : Params) (ready : Bool) :
      t.handoverStarted p ready ⟨none, some false, none, none⟩ = t := by
    refine handoverStarted_none (by decide) (.inl ?_)
    rintro (⟨no, -⟩ | ⟨-, no, -⟩) <;> cases no
  simp only [none]
  rfl

/-! ### The obligation -/

/-- Settles O47: each hand-over by what it holds. -/
theorem handoversStartAndStopThePurge : Obligations.HandoversStartAndStopThePurge := by
  intro s rest alive u p mayStart
  have ready (h : mayStart) : s.purgeReady = true := (purgeReady_iff s).2 ⟨h.1, h.2.1, h.2.2.1, h.2.2.2.1⟩
  have count (h : mayStart) : s.timer.purgeCount < p.purgeLimit ∨ s.timer.heldCo2High = true := h.2.2.2.2
  let handed (h : Handover) : TimerUnit := ({ s.timer with handovers := rest } : TimerUnit).handed h
  have started (h : Handover) (may : mayStart) (same : (handed h).heldCo2High = s.timer.heldCo2High) :=
    TimerUnit.triedPurge_starts (p := p) (t := handed h) (by rw [same]; exact count may)
  refine ⟨fun none => ?_, fun head mode may => ?_, fun head stuffy => ⟨fun may further => ?_, fun gap low => ?_⟩,
    fun head => ⟨fun may further => ?_, fun gap low => ?_⟩, fun head => ?_,
    fun head => ⟨fun runs low stop record => ?_, fun runs low stop r record => ⟨fun fresh => ?_, fun recirc => ?_⟩,
      fun stays => ⟨fun r record fresh => ?_, fun recirc => ?_⟩⟩,
    fun head => ⟨fun none => ?_, fun runs => ?_⟩,
    fun h head severe stuffy => ⟨fun notSafe no => ?_, fun start free limit low => ?_⟩⟩
  · refine live_run_plain alive ?_
    simp only [controllerHandover, Act.bind_run, Act.look_run, none, List.head?_nil, Act.pure_run]
  · exact handover_starts (exec_handover_held alive u head (by decide) (by decide))
      ((handoverStarted_stuffy (t := handed ⟨none, some true, none, none⟩) rfl rfl mode (ready may)).trans (started _ may rfl)) rfl
  · exact handover_starts (exec_handover_held alive u head (by decide) (by decide))
      ((handoverStarted_shield (t := handed ⟨some .shield, none, none, none⟩) rfl stuffy (ready may) further).trans (started _ may rfl)) rfl
  · exact handover_starts (exec_handover_held alive u head (by decide) (by decide))
      (handoverStarted_gap (t := handed ⟨some .shield, none, none, none⟩) rfl gap low) rfl
  · exact handover_starts (exec_handover_held alive u head (by decide) (by decide))
      ((handoverStarted_shield (t := handed ⟨some .shield, some true, none, none⟩) rfl rfl (ready may) further).trans (started _ may rfl)) rfl
  · exact handover_starts (exec_handover_held alive u head (by decide) (by decide))
      (handoverStarted_gap (t := handed ⟨some .shield, some true, none, none⟩) rfl gap low) rfl
  · exact handover_starts (exec_handover_held alive u head (by decide) (by decide)) rfl rfl
  · rw [exec_handover_stops alive u head runs low stop,
      cancelFresh_of_recirc fun r e => by rw [State.onTimer_timer, record] at e; cases e]
  · exact (exec_handover_stops alive u head runs low stop).trans
      (congrArg _ (congrArg State.reportTimers (cancelFresh_fresh (s := s.onTimer _) record fresh)))
  · rw [exec_handover_stops alive u head runs low stop,
      cancelFresh_of_recirc fun r' e => by rw [State.onTimer_timer, record] at e; cases e; exact recirc]
  · exact (exec_handover_spares alive u head stays).trans
      (congrArg _ (congrArg State.reportTimers (cancelFresh_fresh (s := s.onTimer _) record fresh)))
  · exact (exec_handover_spares alive u head stays).trans
      (congrArg _ (congrArg State.reportTimers (cancelFresh_of_recirc (s := s.onTimer _) recirc)))
  · exact exec_handover_clear alive u head (if_pos (by rw [none]; rfl))
  · exact exec_handover_clear alive u head (if_neg (by simpa [Option.isSome_iff_ne_none] using runs))
  · have none : ¬((h.mode = some .shield ∧ (handed h).heldStuffy = true ∧
        ((handed h).gap = none ∨ (handed h).heldCo2High = true)) ∨
        (h.mode = none ∧ h.stuffy = some true ∧ (handed h).heldMode = .shield)) ∨ s.purgeReady = false := by
      rcases no with no | barred
      · refine .inl fun start => no (start.imp id fun ⟨mode, stuffy, shield⟩ => ⟨mode, stuffy, ?_⟩)
        simpa [handed, TimerUnit.handed, mode] using shield
      · refine .inr (Bool.eq_false_iff.2 fun isReady => ?_)
        obtain ⟨run, closed, none, enabled⟩ := (purgeReady_iff s).1 isReady
        simp [run, closed, none, p, enabled] at barred
    exact handover_starts (exec_handover_held alive u head severe stuffy)
      (handoverStarted_none (t := handed h) notSafe none) rfl
  · have isReady : s.purgeReady = true := by
      simpa [purgeReady_iff, p] using free
    refine handover_starts (exec_handover_held alive u head severe stuffy) ?_ rfl
    rcases start with ⟨mode, stuffy, further⟩ | ⟨mode, stuffy, held⟩
    · exact (handoverStarted_shield (t := handed h) mode stuffy isReady further).trans
        (TimerUnit.triedPurge_limit (t := handed h) limit low)
    · exact (handoverStarted_stuffy (t := handed h) mode stuffy
        (by simpa [handed, TimerUnit.handed, mode] using held) isReady).trans
          (TimerUnit.triedPurge_limit (t := handed h) limit low)

end Sys2Proof.Machine
end

section
/-! SUPPORT. The escalation timers and the interval timer. -/
namespace Sys2Proof.Machine
open Sys2Proof

theorem onlyIf_upd_run (c : Bool) (f : State → State) (v : Event) :
    onlyIf c (upd f) v = .ok () ⟨if c then f v.state else v.state, v.owed⟩ := by
  cases c <;> rfl

/-! ### Escalation -/

/-- A kind marked as escalated, its timer stopped. -/
def State.escalated (k : NoticeKind) (s : State) : State :=
  s.setNotice k { s.noticeRecord k with escalated := true, escalationTimer := none }

theorem escalated_noticeRecord_same (k : NoticeKind) (s : State) :
    (s.escalated k).noticeRecord k = { s.noticeRecord k with escalated := true, escalationTimer := none } :=
  noticeRecord_setNotice_same ..

theorem escalated_noticeRecord_other {j k : NoticeKind} (h : j ≠ k) (s : State) :
    (s.escalated k).noticeRecord j = s.noticeRecord j :=
  noticeRecord_setNotice_other h ..

theorem Lamp.turned_pattern (l : Lamp) (p : LampPattern) : (l.turned p).pattern = p := by
  unfold Lamp.turned
  split
  · assumption
  · rfl

theorem escalated_serviceLamp (k : NoticeKind) (s : State) :
    (s.escalated k).notice.serviceLamp = s.notice.serviceLamp.turned .double := by
  have marked : ((s.escalated k).noticeRecord k).escalated = true := by rw [escalated_noticeRecord_same]
  have some : NoticeKind.all.any (fun k' => ((s.escalated k).noticeRecord k').escalated) = true :=
    List.any_eq_true.2 ⟨k, by cases k <;> decide, marked⟩
  have due : (s.escalated k).servicePatternDue = .double := if_pos some
  rw [← due]
  exact setNotice_serviceLamp ..

theorem escalated_undamaged {s : State} (u : s.Undamaged) (k : NoticeKind) : (s.escalated k).Undamaged := u.of_tables rfl

/-- The notices and the ports apart, an escalation leaves the state as it was. -/
theorem escalated_rest (k : NoticeKind) (s : State) :
    { s.escalated k with notice := s.notice, port := s.port } = s := rfl

theorem sendPanelNotice_rest (node : Nat) (k : NoticeKind) (d : Detail) (s : State) :
    { s.sendPanelNotice node k d with notice := s.notice, port := s.port } = s := rfl

theorem sendPanelNotice_port (node : Nat) (k : NoticeKind) (d : Detail) (s : State) :
    (s.sendPanelNotice node k d).port = { s.port with ptq := s.port.ptq ++
      (if s.port.ptq.length < 8 then [noticeFrame (byteOf node) s.notice.tagCounter k d] else []) } := by
  simp only [State.sendPanelNotice, State.onNotice_port, State.onPort_port, offer, ptqCapacity]
  by_cases room : s.port.ptq.length < 8
  · simp only [room, if_true]
  · simp only [room, if_false, List.append_nil]

/-- Settles O53: the mark, and the panel's frame where a panel is fitted. -/
theorem escalationMarksTheKindAndTellsThePanel : Obligations.EscalationMarksTheKindAndTellsThePanel := by
  intro s k alive u
  refine ⟨fun quiet => live_run_plain alive ?_, fun d runs awake detail => ?_⟩
  · have no : ((s.noticeRecord k).escalationTimer.isSome && !(s.mgmt.opState == .parked)) = false := by
      rcases quiet with none | parked
      · rw [none]
        rfl
      · rw [parked, Bool.and_eq_false_iff]
        exact .inr rfl
    simp only [escalationExpiry, Act.bind_run, Act.look_run, no, onlyIf_false, Act.pure_run]
  · have due : ((s.noticeRecord k).escalationTimer.isSome && !(s.mgmt.opState == .parked)) = true := by
      simpa [runs] using awake
    have run : exec (.escalationTimerExpiry k) s = .next
        (if s.mgmt.params.content.panelNode != 0 then
          (s.escalated k).sendPanelNotice s.mgmt.params.content.panelNode k d else s.escalated k) := by
      refine live_run_plain alive ?_
      rw [escalationExpiry, Act.bind_ok (Act.look_run _ _), Act.bind_ok (Act.look_run _ _), due, onlyIf_true,
        Act.bind_ok (Act.upd_run _ _)]
      refine (Act.bind_ok (readParams_undamaged (v := ⟨s.escalated k, []⟩) (escalated_undamaged u k))).trans ?_
      rw [detail]
      exact onlyIf_upd_run ..
    have pattern := escalated_serviceLamp k s
    by_cases fitted : s.mgmt.params.content.panelNode = 0
    · rw [run, if_neg (by simpa using fitted)]
      refine ⟨_, rfl, escalated_noticeRecord_same k s, fun j h => escalated_noticeRecord_other h s, ?_, rfl, pattern,
        fun _ => ⟨rfl, rfl⟩, (absurd fitted ·), escalated_rest k s⟩
      rw [pattern, Lamp.turned_pattern]
    · rw [run, if_pos (by simpa using fitted)]
      refine ⟨_, rfl, escalated_noticeRecord_same k s, fun j h => escalated_noticeRecord_other h s, ?_, rfl, pattern,
        (absurd · fitted), fun _ => ⟨rfl, sendPanelNotice_port ..⟩, rfl⟩
      exact (congrArg Lamp.pattern pattern).trans (Lamp.turned_pattern ..)

/-! ### The raises of TALLY_OVERFLOW -/

/-- What the raises of TALLY_OVERFLOW may touch. -/
def State.OnlyOverflows (s t : State) : Prop :=
  s.OnlyRpq t ∧ (∀ k, k ≠ .tallyOverflow → t.noticeRecord k = s.noticeRecord k) ∧
    { t with notice := s.notice, port := s.port } = s

theorem State.OnlyOverflows.raise {s t : State} (h : s.OnlyOverflows t) (d : Detail) :
    s.OnlyOverflows (t.raiseRecord .tallyOverflow d) := by
  obtain ⟨ports, records, rest⟩ := h
  have same := raiseRecord_rest .tallyOverflow d t
  refine ⟨?_, fun k other => ?_, ?_⟩
  · unfold State.OnlyRpq
    rw [raiseRecord_port]
    exact ports
  · rw [raiseRecord_noticeRecord_other other, records k other]
  · exact (congrArg (fun x : State => { x with notice := s.notice, port := s.port }) same).trans rest

theorem raiseOverflows_only (owed : List (Fin 4)) (s : State) : s.OnlyOverflows (s.raiseOverflows owed) :=
  State.raiseOverflows_keep (I := s.OnlyOverflows) (fun _ d h => h.raise d) owed ⟨rfl, fun _ _ => rfl, rfl⟩

/-- The last of the raises names the detail. -/
theorem foldl_raise_raised (l : List (Fin 4)) (i : Fin 4) (s : State) :
    ((l ++ [i]).foldl (fun s i => s.raiseRecord .tallyOverflow (.tally i)) s).Raised .tallyOverflow (.tally i) := by
  rw [List.foldl_append]
  exact raiseRecord_raised ..

/-- The raises in index order end with the highest index owed. -/
theorem flatMap_owed_last {owed : List (Fin 4)} {i : Fin 4} (h : i ∈ owed) (top : ∀ j, i < j → j ∉ owed) :
    ∃ l, tallyIndexes.flatMap (fun j => owed.filter (· == j)) = l ++ [i] := by
  have above (j : Fin 4) (hj : i < j) : owed.filter (· == j) = [] :=
    List.filter_eq_nil_iff.2 fun x hx e => top j hj (beq_iff_eq.1 e ▸ hx)
  have own : ∃ l, owed.filter (· == i) = l ++ [i] := by
    have : i ∈ owed.filter (· == i) := List.mem_filter.2 ⟨h, beq_self_eq_true i⟩
    have ne := List.ne_nil_of_mem this
    refine ⟨_, (List.dropLast_append_getLast ne).symm.trans (congrArg _ (congrArg (fun x => [x]) ?_))⟩
    exact beq_iff_eq.1 (List.mem_filter.1 (List.getLast_mem ne)).2
  obtain ⟨l, own⟩ := own
  match i, own, above with
  | 0, own, above => exact ⟨l, by simp [tallyIndexes, own, above 1 (by decide), above 2 (by decide), above 3 (by decide)]⟩
  | 1, own, above => exact ⟨owed.filter (· == 0) ++ l, by simp [tallyIndexes, own, above 2 (by decide), above 3 (by decide)]⟩
  | 2, own, above =>
    exact ⟨owed.filter (· == 0) ++ (owed.filter (· == 1) ++ l), by simp [tallyIndexes, own, above 3 (by decide)]⟩
  | 3, own, above =>
    exact ⟨owed.filter (· == 0) ++ (owed.filter (· == 1) ++ (owed.filter (· == 2) ++ l)), by simp [tallyIndexes, own]⟩

theorem raiseOverflows_raised {owed : List (Fin 4)} {i : Fin 4} (h : i ∈ owed) (top : ∀ j, i < j → j ∉ owed) (s : State) :
    (s.raiseOverflows owed).Raised .tallyOverflow (.tally i) := by
  obtain ⟨l, e⟩ := flatMap_owed_last h top
  rw [State.raiseOverflows, e]
  exact foldl_raise_raised l i s

/-- A list of indexes that is not empty has a highest member. -/
theorem exists_highest {owed : List (Fin 4)} {i : Fin 4} (h : i ∈ owed) : ∃ j ∈ owed, ∀ k, j < k → k ∉ owed := by
  obtain ⟨j, hj, top⟩ := owed.toFinset.exists_max_image id ⟨i, List.mem_toFinset.2 h⟩
  exact ⟨j, List.mem_toFinset.1 hj, fun k less hk => absurd (top k (List.mem_toFinset.2 hk)) (not_le.2 less)⟩

/-! ### Tallies over one event -/

theorem Tally.wraps_zero (t : Tally) : t.wraps 0 = false :=
  decide_eq_false (not_le.2 t.value.isLt)

theorem Tally.add_zero (t : Tally) : t.add 0 = t := by
  simp only [Tally.add, Tally.wraps_zero, Bool.or_false, Nat.add_zero, BitVec.ofNat_toNat, BitVec.setWidth_eq]

theorem Tally.add_add (t : Tally) {a b : Nat} (h : a + b < 2 ^ 32) : (t.add a).add b = t.add (a + b) := by
  have small := t.value.isLt
  simp only [Tally.add, Tally.wraps, BitVec.toNat_ofNat, Tally.mk.injEq, true_and, Bool.or_assoc]
  refine ⟨?_, congrArg (t.overflow || ·) ?_⟩
  · apply BitVec.eq_of_toNat_eq
    simp only [BitVec.toNat_ofNat]
    omega
  · rw [Bool.eq_iff_iff]
    simp only [Bool.or_eq_true, decide_eq_true_eq]
    omega

theorem Tally.wraps_add (t : Tally) {a b : Nat} (h : a + b < 2 ^ 32) :
    (t.wraps a || (t.add a).wraps b) = t.wraps (a + b) := by
  have small := t.value.isLt
  simp only [Tally.add, Tally.wraps, BitVec.toNat_ofNat]
  rw [Bool.eq_iff_iff]
  simp only [Bool.or_eq_true, decide_eq_true_eq]
  omega

/-- Whether a sub-event counts in a tally. -/
def Tally.counts (m : Mode) (t : Tally) (e : SubEvent) : Bool := t.selects e && t.countsIn m

@[simp] theorem Tally.counts_add (m : Mode) (t : Tally) (n : Nat) (e : SubEvent) : (t.add n).counts m e = t.counts m e := rfl

theorem getElem_addAmounts (f : Tally → Nat) (s : State) (i : Fin 4) :
    (s.addAmounts f).state.tally.tallies[i] = s.tally.tallies[i].add (f s.tally.tallies[i]) :=
  mapTable_get ..

theorem mem_owed_addAmounts (f : Tally → Nat) (s : State) (i : Fin 4) :
    i ∈ (s.addAmounts f).owed ↔ s.tally.tallies[i].notify = true ∧
      s.tally.tallies[i].wraps (f s.tally.tallies[i]) = true := by
  have : i ∈ tallyIndexes := by
    revert i
    decide
  simp only [State.addAmounts, List.mem_filter, this, true_and, Bool.and_eq_true]

/-- An event's sub-events, tally by tally. -/
theorem foldl_give_tally (i : Fin 4) (es : List SubEvent) (short : es.length < 2 ^ 32) (v : Event) :
    let w := es.foldl (fun v e => v.give e) v
    let u := v.state.tally.tallies[i]
    w.state.tally.tallies[i] = u.add (es.countP (u.counts v.state.ctrl.mode)) ∧
      (i ∈ w.owed ↔ i ∈ v.owed ∨ u.notify = true ∧ u.wraps (es.countP (u.counts v.state.ctrl.mode)) = true) := by
  induction es generalizing v with
  | nil => simp [Tally.add_zero, Tally.wraps_zero]
  | cons e es ih =>
    have short' : es.length + 1 < 2 ^ 32 := short
    obtain ⟨value, owed⟩ := ih (by omega) (v.give e)
    have bound : es.countP (v.state.tally.tallies[i].counts v.state.ctrl.mode) ≤ es.length := List.countP_le_length
    have one : e.amount v.state.ctrl.mode v.state.tally.tallies[i] ≤ 1 := Bool.toNat_le _
    have sum : e.amount v.state.ctrl.mode v.state.tally.tallies[i] +
        es.countP (v.state.tally.tallies[i].counts v.state.ctrl.mode) < 2 ^ 32 := by omega
    have split : (e :: es).countP (v.state.tally.tallies[i].counts v.state.ctrl.mode) =
        e.amount v.state.ctrl.mode v.state.tally.tallies[i] +
          es.countP (v.state.tally.tallies[i].counts v.state.ctrl.mode) := by
      rw [List.countP_cons, Nat.add_comm]
      congr 1
      have bit (b : Bool) : (if b = true then 1 else 0) = b.toNat := by cases b <;> rfl
      exact bit _
    have given : (v.give e).state.tally.tallies[i] =
        v.state.tally.tallies[i].add (e.amount v.state.ctrl.mode v.state.tally.tallies[i]) := getElem_addAmounts ..
    have mode : (v.give e).state.ctrl = v.state.ctrl := rfl
    have has : i ∈ (v.give e).owed ↔ i ∈ v.owed ∨ v.state.tally.tallies[i].notify = true ∧
        v.state.tally.tallies[i].wraps (e.amount v.state.ctrl.mode v.state.tally.tallies[i]) = true := by
      simp only [Event.give, List.mem_append, mem_owed_addAmounts]
    have counts : ((v.state.tally.tallies[i].add (e.amount v.state.ctrl.mode v.state.tally.tallies[i])).counts
        v.state.ctrl.mode) = v.state.tally.tallies[i].counts v.state.ctrl.mode := rfl
    rw [given, mode, counts] at value owed
    refine ⟨?_, ?_⟩
    · rw [List.foldl_cons, value, Tally.add_add _ sum, split]
    · rw [List.foldl_cons, owed, has, split, ← Tally.wraps_add _ sum, Bool.or_eq_true]
      have notify : (v.state.tally.tallies[i].add
        (e.amount v.state.ctrl.mode v.state.tally.tallies[i])).notify = v.state.tally.tallies[i].notify := rfl
      rw [notify]
      tauto

/-! ### What a second adds -/

theorem modeTimeHolds_iff (mask : Byte) (c : Conditions) : modeTimeHolds mask c = true ↔
    mask.getLsbD 0 = true ∨ (mask.getLsbD 1 = true ∧ c.dirtyOut = true) ∨ (mask.getLsbD 2 = true ∧ c.stuffy = true) ∨
      (mask.getLsbD 3 = true ∧ c.dirtyIn = true) ∨ (mask.getLsbD 4 = true ∧ c.fog = true) ∨
      (mask.getLsbD 5 = true ∧ c.severe = true) := by
  simp only [modeTimeHolds, Bool.or_eq_true, Bool.and_eq_true, or_assoc]

theorem contribution_eq (v : Int) (f : Nat) : contribution v f = v.toNat * f / 100 := by
  unfold contribution
  match v with
  | .ofNat n => rfl
  | .negSucc n =>
    have pos : 0 ≤ (((n : Int) + 1) * f).tdiv 100 := Int.tdiv_nonneg (by positivity) (by decide)
    have below : -((n : Int) + 1) ≤ 0 := by omega
    rw [Int.negSucc_eq, Int.neg_mul, Int.neg_tdiv, Int.toNat_of_nonpos (Int.neg_nonpos_of_nonneg pos),
      Int.toNat_of_nonpos below, Nat.zero_mul, Nat.zero_div]

theorem flapFraction_none {d : Delivery} (h : d.reported = none) : flapFraction d = 0 := by
  simp [flapFraction, h]

theorem flapFraction_some {d : Delivery} {r : Reported} (h : d.reported = some r) : flapFraction d = min 100 r.position := by
  simp [flapFraction, h]

/-- One source's part of a dose. -/
def dosePart (has : Bool) (value : Option Int) (f : Nat) : Nat := if has then value.elim 0 (contribution · f) else 0

theorem doseAmount_eq (s : State) (mask : Byte) : s.doseAmount mask =
    dosePart (mask.getLsbD 0) (s.usableValue .outPm) (flapFraction s.cmd.delivery.flap) +
      dosePart (mask.getLsbD 1) (s.usableValue .outGas) (flapFraction s.cmd.delivery.flap) := by
  simp only [State.doseAmount, dosePart]
  cases s.usableValue .outPm <;> cases s.usableValue .outGas <;> rfl

theorem dosePart_eq {has : Bool} {value : Option Int} {f x : Nat}
    (h : ((¬has = true ∨ value = none) ∧ x = 0) ∨ (has = true ∧ ∃ v, value = some v ∧ x = v.toNat * f / 100)) :
    dosePart has value f = x := by
  rcases h with ⟨no | none, zero⟩ | ⟨yes, v, some, amount⟩
  · rw [dosePart, if_neg no, zero]
  · rw [dosePart, none, zero, Option.elim_none, ite_self]
  · rw [dosePart, if_pos yes, some, amount, Option.elim_some, contribution_eq]

/-! ### The two events -/

/-- The blocks but the tallies, behind raises that follow a change of the tallies. -/
theorem State.OnlyOverflows.rest_of_onTally {s t : State} {f : TallyUnit → TallyUnit} (h : (s.onTally f).OnlyOverflows t) :
    { t with tally := s.tally, notice := s.notice, port := s.port } = s :=
  congrArg (fun x : State => { x with tally := s.tally }) h.2.2

theorem foldl_give_onTally (es : List SubEvent) (v : Event) :
    (es.foldl (fun v e => v.give e) v).state =
      v.state.onTally fun _ => (es.foldl (fun v e => v.give e) v).state.tally := by
  induction es generalizing v with
  | nil => rfl
  | cons e es ih => exact ih (v.give e)

theorem foldl_tally_interval (es : List SubEvent) (m : Mode) (u : TallyUnit) :
    (es.foldl (fun u e => { u with tallies := mapTable (fun t => t.add (e.amount m t)) u.tallies }) u).interval =
      u.interval := by
  induction es generalizing u with
  | nil => rfl
  | cons e es ih => exact ih _

theorem not_wraps_iff (t : Tally) (n : Nat) : ¬t.wraps n = true ↔ t.value.toNat + n < 2 ^ 32 := by
  simp [Tally.wraps]

theorem perSecond_interval (f : TallyUnit → TallyUnit) (s : State) : (s.onTally f).perSecond = s.perSecond := rfl

/-- The event of an expiry of the interval timer. -/
def State.second (s : State) : Event := (s.onTally fun u => { u with interval := some 1000 }).addAmounts s.perSecond

theorem exec_interval {s : State} (alive : s.alive = true) (runs : s.tally.interval.isSome = true) :
    exec .intervalTimerExpiry s = .next s.second.settled := by
  refine live_run_plain alive (congrArg (fun x => EStateM.Result.ok () (Event.mk x [])) ?_)
  exact if_pos runs

/-! ### The obligation -/

/-- Settles O54: the interval's amounts, and the sub-events of one event. -/
theorem intervalExpiryAddsToTheTallies : Obligations.IntervalExpiryAddsToTheTallies := by
  refine ⟨fun s alive => ⟨fun none => ?_, fun runs => ?_⟩, fun s u => ⟨fun out => ?_, fun counts => ?_⟩, fun s es short => ?_,
    rfl, rfl, rfl, rfl⟩
  · refine live_run_plain alive (congrArg (fun x => EStateM.Result.ok () (Event.mk x [])) ?_)
    exact if_neg (by rw [none]; decide)
  · have only := raiseOverflows_only s.second.owed s.second.state
    have owed (i : Fin 4) : i ∈ s.second.owed ↔ s.tally.tallies[i].notify = true ∧
      s.tally.tallies[i].wraps (s.perSecond s.tally.tallies[i]) = true := mem_owed_addAmounts ..
    refine ⟨_, exec_interval alive runs, ?_, fun i => ?_, fun ⟨i, notify, wraps⟩ => ?_, fun i notify wraps top => ?_,
      only.1, only.2.1, fun none => ?_,
      State.OnlyOverflows.rest_of_onTally (f := fun _ => s.second.state.tally) only⟩
    · rw [Event.settled, State.raiseOverflows_tally]
      rfl
    · rw [Event.settled, State.raiseOverflows_tally]
      exact getElem_addAmounts ..
    · obtain ⟨j, hj, top⟩ := exists_highest ((owed i).2 ⟨notify, decide_eq_true wraps⟩)
      exact (raiseOverflows_raised hj top s.second.state).1
    · refine raiseOverflows_raised ((owed i).2 ⟨notify, decide_eq_true wraps⟩) (fun j above hj => ?_) s.second.state
      obtain ⟨notify', wraps'⟩ := (owed j).1 hj
      exact (not_wraps_iff ..).2 (top j above notify') wraps'
    · have empty : s.second.owed = [] := List.eq_nil_iff_forall_not_mem.2 fun i hi => by
        obtain ⟨notify, wraps⟩ := (owed i).1 hi
        exact (not_wraps_iff ..).2 (none i notify) wraps
      rw [Event.settled, empty]
      exact ⟨rfl, rfl⟩
  · exact if_neg (by rw [Tally.countsIn, out]; decide)
  · have on : u.countsIn s.ctrl.mode = true := counts
    refine ⟨fun group => ?_, fun group => ⟨fun holds => ?_, fun none => ?_⟩, fun group => ?_,
      fun group f flap x y hx hy => ?_⟩
    · rcases group with g | g | g | g <;> rw [State.perSecond, if_pos on, g]
    · rw [State.perSecond, if_pos on, group]
      exact congrArg Bool.toNat ((modeTimeHolds_iff ..).2 holds)
    · rw [State.perSecond, if_pos on, group]
      refine congrArg Bool.toNat (Bool.eq_false_iff.2 fun holds => ?_)
      have := (modeTimeHolds_iff ..).1 holds
      tauto
    · rw [State.perSecond, if_pos on, group]
      cases u.mask.getLsbD 3 && s.timer.doorOpen <;> rfl
    · have fraction : flapFraction s.cmd.delivery.flap = f := by
        rcases flap with ⟨none, zero⟩ | ⟨r, some, amount⟩
        · rw [flapFraction_none none, zero]
        · rw [flapFraction_some some, amount]
      rw [State.perSecond, if_pos on, group]
      refine (doseAmount_eq s u.mask).trans ?_
      rw [fraction, dosePart_eq hx, dosePart_eq hy]
  · have small : es.length < 2 ^ 32 := by omega
    let v : Event := es.foldl (fun v e => Event.give e v) ⟨s, []⟩
    have tallies (i : Fin 4) := foldl_give_tally i es small ⟨s, []⟩
    have owed (i : Fin 4) : i ∈ v.owed ↔ s.tally.tallies[i].notify = true ∧ s.tally.tallies[i].wraps
        (es.countP (s.tally.tallies[i].counts s.ctrl.mode)) = true :=
      (tallies i).2.trans (by simp only [List.not_mem_nil, false_or])
    have only := raiseOverflows_only v.owed v.state
    have onTally : v.state = s.onTally fun _ => v.state.tally := foldl_give_onTally es ⟨s, []⟩
    have all : s.countAll es = v.state.raiseOverflows v.owed := rfl
    rw [← all, onTally] at only
    refine ⟨?_, fun i => ?_, fun i notify wraps top => ?_, fun none => ?_, only.1, only.rest_of_onTally⟩
    · rw [State.countAll_tally]
      exact foldl_tally_interval es s.ctrl.mode s.tally
    · exact (congrArg (fun u : TallyUnit => u.tallies[i]) (State.raiseOverflows_tally v.owed v.state)).trans (tallies i).1
    · refine raiseOverflows_raised ((owed i).2 ⟨notify, decide_eq_true wraps⟩) (fun j above hj => ?_) v.state
      obtain ⟨notify', wraps'⟩ := (owed j).1 hj
      exact top j above notify' (of_decide_eq_true wraps')
    · have empty : v.owed = [] := List.eq_nil_iff_forall_not_mem.2 fun i hi => by
        obtain ⟨notify, wraps⟩ := (owed i).1 hi
        exact none i notify (of_decide_eq_true wraps)
      have settled : s.countAll es = v.state := by
        rw [all, empty]
        rfl
      rw [settled, onTally]
      exact ⟨rfl, rfl⟩

end Sys2Proof.Machine
end

section
/-! SUPPORT. The requests to the notices and the tallies. -/
namespace Sys2Proof.Machine
open Sys2Proof

/-! ### Gateway requests that answer DONE -/

section
variable {i : Instr} {tag : Byte} {n : Nat} {part : Fin 4} {rule : PanelRule} {states : List OpState}
variable {own : OriginClass → Act Reply} {s t : State}

/-- A gateway's request that answers DONE, behind whose reply further frames may stand. -/
theorem exec_gateway_done (known : i.origin? = some (gateway tag))
    (run : runRequest i = serve (gateway tag) (codeByte n part) (afterChecks rule states own)) (ht : s.TakesRequest)
    (allowed : states.contains s.mgmt.opState = true) {owed : List (Fin 4)}
    (h : own .gateway ⟨s.answeredPlain tag (codeByte n part) .done, []⟩ = .ok (plain .done) ⟨t, owed⟩) {more : List Frame}
    (behind : t.port.rpq = (s.answeredPlain tag (codeByte n part) .done).port.rpq ++ more) :
    exec i s = .next (Event.settled ⟨t, owed⟩) := by
  rw [exec_gateway known run ht allowed h, setReply_same (more := more)]
  refine behind.trans ?_
  simp only [State.answeredPlain, State.answered, State.onPort_port, State.stopPreclean, State.onPark_port,
    List.append_assoc, List.singleton_append]

end

theorem boundedIndex_some {n : Nat} {k : Nat} {i : Fin n} (h : k = i.val) : boundedIndex n k = some i := by
  subst h
  exact dif_pos i.isLt

theorem boundedIndex_none {n k : Nat} (h : n ≤ k) : boundedIndex n k = none := dif_neg (not_lt.2 h)

theorem config_or_run {s : State} (h : s.mgmt.opState = .config ∨ s.mgmt.opState = .run) :
    [OpState.config, .run].contains s.mgmt.opState = true := by
  rcases h with h | h <;> rw [h] <;> rfl

theorem awake_of_config_or_run {s : State} (h : s.mgmt.opState = .config ∨ s.mgmt.opState = .run) :
    s.mgmt.opState ≠ .parked := by
  rcases h with h | h <;> rw [h] <;> decide

/-! ### Acknowledgments -/

/-- A record acknowledged. -/
def NoticeRecord.acknowledged (r : NoticeRecord) : NoticeRecord := ⟨false, r.masked, r.detail, 0, false, none⟩

theorem acknowledge_pending {s : State} {k : NoticeKind} (h : (s.noticeRecord k).pending = true) :
    s.acknowledge k = s.setNotice k (s.noticeRecord k).acknowledged := by
  rw [State.acknowledge, if_pos h]
  rfl

theorem acknowledge_clear {s : State} {k : NoticeKind} (h : (s.noticeRecord k).pending = false) : s.acknowledge k = s := by
  rw [State.acknowledge, if_neg (by rw [h]; decide)]

theorem acknowledge_noticeRecord_same (s : State) (k : NoticeKind) : (s.acknowledge k).noticeRecord k =
    if (s.noticeRecord k).pending then (s.noticeRecord k).acknowledged else s.noticeRecord k := by
  cases h : (s.noticeRecord k).pending
  · rw [acknowledge_clear h]
    rfl
  · rw [acknowledge_pending h, noticeRecord_setNotice_same]
    rfl

theorem acknowledge_noticeRecord_other {j k : NoticeKind} (h : j ≠ k) (s : State) :
    (s.acknowledge k).noticeRecord j = s.noticeRecord j := by
  cases pending : (s.noticeRecord k).pending
  · rw [acknowledge_clear pending]
  · rw [acknowledge_pending pending, noticeRecord_setNotice_other h]

theorem foldl_acknowledge_noticeRecord (l : List NoticeKind) (s : State) (k : NoticeKind) :
    (l.foldl State.acknowledge s).noticeRecord k =
      if k ∈ l ∧ (s.noticeRecord k).pending = true then (s.noticeRecord k).acknowledged else s.noticeRecord k := by
  induction l generalizing s with
  | nil => simp
  | cons j js ih =>
    rw [List.foldl_cons, ih]
    by_cases e : k = j
    · subst e
      rw [acknowledge_noticeRecord_same]
      cases pending : (s.noticeRecord k).pending
      · simp [pending]
      · simp [NoticeRecord.acknowledged]
    · rw [acknowledge_noticeRecord_other e]
      simp [e]

theorem foldl_acknowledge_clear {l : List NoticeKind} {s : State} (h : ∀ k ∈ l, (s.noticeRecord k).pending = false) :
    l.foldl State.acknowledge s = s := by
  induction l with
  | nil => rfl
  | cons j js ih =>
    rw [List.foldl_cons, acknowledge_clear (h j List.mem_cons_self)]
    exact ih fun k hk => h k (List.mem_cons_of_mem j hk)

/-- An acknowledgment works on the records and the SERVICE lamp alone. -/
theorem foldl_acknowledge_rest (l : List NoticeKind) (s : State) :
    { l.foldl State.acknowledge s with notice := s.notice } = s ∧
      (l.foldl State.acknowledge s).notice.tagCounter = s.notice.tagCounter ∧
      (l.foldl State.acknowledge s).notice.airLamp = s.notice.airLamp := by
  induction l generalizing s with
  | nil => exact ⟨rfl, rfl, rfl⟩
  | cons j js ih =>
    obtain ⟨rest, tag, air⟩ := ih (s.acknowledge j)
    have one : { s.acknowledge j with notice := s.notice } = s ∧
        (s.acknowledge j).notice.tagCounter = s.notice.tagCounter ∧
        (s.acknowledge j).notice.airLamp = s.notice.airLamp := by
      cases pending : (s.noticeRecord j).pending
      · rw [acknowledge_clear pending]
        exact ⟨rfl, rfl, rfl⟩
      · rw [acknowledge_pending pending]
        exact ⟨rfl, rfl, rfl⟩
    refine ⟨?_, tag.trans one.2.1, air.trans one.2.2⟩
    exact (congrArg (fun x : State => { x with notice := s.notice }) rest).trans one.1

/-! ### The SERVICE lamp over acknowledgments -/

/-- How much a pattern of the SERVICE lamp tells: an acknowledgment never raises it. -/
def LampPattern.rank : LampPattern → Nat
  | .double => 2
  | .on => 1
  | _ => 0

theorem servicePatternDue_cases (s : State) :
    ((∃ k, (s.noticeRecord k).escalated = true) ∧ s.servicePatternDue = .double) ∨
      ((¬∃ k, (s.noticeRecord k).escalated = true) ∧
        ((s.noticeRecord .filterClogged).pending = true ∨ (s.noticeRecord .actuatorFault).pending = true) ∧
        s.servicePatternDue = .on) ∨
      ((¬∃ k, (s.noticeRecord k).escalated = true) ∧
        ¬((s.noticeRecord .filterClogged).pending = true ∨ (s.noticeRecord .actuatorFault).pending = true) ∧
        s.servicePatternDue = .off) := by
  have all : NoticeKind.all.any (fun k => (s.noticeRecord k).escalated) = true ↔
      ∃ k, (s.noticeRecord k).escalated = true := by
    rw [List.any_eq_true]
    exact ⟨fun ⟨k, _, h⟩ => ⟨k, h⟩, fun ⟨k, h⟩ => ⟨k, by cases k <;> decide, h⟩⟩
  unfold State.servicePatternDue
  by_cases escalated : ∃ k, (s.noticeRecord k).escalated = true
  · exact .inl ⟨escalated, if_pos (all.2 escalated)⟩
  · rw [if_neg (mt all.1 escalated)]
    by_cases on : (s.noticeRecord .filterClogged).pending = true ∨ (s.noticeRecord .actuatorFault).pending = true
    · exact .inr (.inl ⟨escalated, on, if_pos (Bool.or_eq_true _ _ ▸ on)⟩)
    · exact .inr (.inr ⟨escalated, on, if_neg (Bool.or_eq_true _ _ ▸ on)⟩)

/-- Fewer flags, no stronger pattern. -/
theorem servicePatternDue_rank_le {s t : State}
    (h : ∀ k, ((t.noticeRecord k).pending = true → (s.noticeRecord k).pending = true) ∧
      ((t.noticeRecord k).escalated = true → (s.noticeRecord k).escalated = true)) :
    t.servicePatternDue.rank ≤ s.servicePatternDue.rank := by
  have escalated : (∃ k, (t.noticeRecord k).escalated = true) → ∃ k, (s.noticeRecord k).escalated = true :=
    fun ⟨k, e⟩ => ⟨k, (h k).2 e⟩
  have on : (t.noticeRecord .filterClogged).pending = true ∨ (t.noticeRecord .actuatorFault).pending = true →
      (s.noticeRecord .filterClogged).pending = true ∨ (s.noticeRecord .actuatorFault).pending = true :=
    Or.imp (h _).1 (h _).1
  rcases servicePatternDue_cases t with ⟨some, e⟩ | ⟨-, some, e⟩ | ⟨-, -, e⟩
  · rcases servicePatternDue_cases s with ⟨-, e'⟩ | ⟨none, -⟩ | ⟨none, -⟩
    · rw [e, e']
    · exact absurd (escalated some) none
    · exact absurd (escalated some) none
  · rcases servicePatternDue_cases s with ⟨-, e'⟩ | ⟨-, -, e'⟩ | ⟨-, none, -⟩
    · rw [e, e']
      decide
    · rw [e, e']
    · exact absurd (on some) none
  · rw [e]
    exact Nat.zero_le _

theorem LampPattern.rank_inj_due {s t : State} (h : t.servicePatternDue.rank = s.servicePatternDue.rank) :
    t.servicePatternDue = s.servicePatternDue := by
  rcases servicePatternDue_cases t with ⟨-, e⟩ | ⟨-, -, e⟩ | ⟨-, -, e⟩ <;>
    rcases servicePatternDue_cases s with ⟨-, e'⟩ | ⟨-, -, e'⟩ | ⟨-, -, e'⟩ <;>
    simp [e, e', LampPattern.rank] at h ⊢

theorem acknowledge_serviceLamp {s : State} {k : NoticeKind} (h : (s.noticeRecord k).pending = true) :
    (s.acknowledge k).notice.serviceLamp = s.notice.serviceLamp.turned (s.acknowledge k).servicePatternDue := by
  rw [acknowledge_pending h]
  exact setNotice_serviceLamp ..

theorem acknowledge_due_le (s : State) (k : NoticeKind) :
    (s.acknowledge k).servicePatternDue.rank ≤ s.servicePatternDue.rank := by
  refine servicePatternDue_rank_le fun j => ?_
  by_cases e : j = k
  · subst e
    rw [acknowledge_noticeRecord_same]
    split
    · exact ⟨fun h => absurd h Bool.false_ne_true, fun h => absurd h Bool.false_ne_true⟩
    · exact ⟨id, id⟩
  · rw [acknowledge_noticeRecord_other e]
    exact ⟨id, id⟩

/-- A lamp that shows either what it showed or a pattern from its start. -/
def Lamp.KeptOrNew (l m : Lamp) : Prop := m = l ∨ m.part = 0

theorem Lamp.KeptOrNew.turned {l m : Lamp} (h : l.KeptOrNew m) (p : LampPattern) : l.KeptOrNew (m.turned p) := by
  unfold Lamp.turned
  split
  · exact h
  · exact .inr rfl

theorem foldl_acknowledge_lamp_new (l : List NoticeKind) (s : State) :
    s.notice.serviceLamp.KeptOrNew (l.foldl State.acknowledge s).notice.serviceLamp := by
  suffices keeps : ∀ (l : List NoticeKind) (m : Lamp) (t : State), m.KeptOrNew t.notice.serviceLamp →
      m.KeptOrNew (l.foldl State.acknowledge t).notice.serviceLamp from keeps l _ s (.inl rfl)
  intro l m
  induction l with
  | nil => exact fun _ h => h
  | cons k ks ih =>
    intro t h
    refine ih _ ?_
    cases pending : (t.noticeRecord k).pending
    · rw [acknowledge_clear pending]
      exact h
    · rw [acknowledge_serviceLamp pending]
      exact h.turned _

/-- The lamp shows what is due once an acknowledgment took effect. -/
theorem foldl_acknowledge_lamp_due (l : List NoticeKind) (s : State)
    (h : s.notice.serviceLamp.pattern = s.servicePatternDue ∨ ∃ k ∈ l, (s.noticeRecord k).pending = true) :
    (l.foldl State.acknowledge s).notice.serviceLamp.pattern = (l.foldl State.acknowledge s).servicePatternDue := by
  induction l generalizing s with
  | nil => exact h.elim id fun ⟨k, hk, _⟩ => absurd hk List.not_mem_nil
  | cons j js ih =>
    refine ih (s.acknowledge j) ?_
    cases pending : (s.noticeRecord j).pending
    · rw [acknowledge_clear pending]
      refine h.imp id fun ⟨k, hk, yes⟩ => ⟨k, ?_, yes⟩
      rcases List.mem_cons.1 hk with e | hk
      · rw [e, pending] at yes
        cases yes
      · exact hk
    · left
      rw [acknowledge_serviceLamp pending, Lamp.turned_pattern]

/-- A lamp that shows what is due stays as it is where the pattern due ends the same. -/
theorem foldl_acknowledge_lamp_kept (l : List NoticeKind) (s : State)
    (h : s.notice.serviceLamp.pattern = s.servicePatternDue) :
    (l.foldl State.acknowledge s).servicePatternDue.rank ≤ s.servicePatternDue.rank ∧
      ((l.foldl State.acknowledge s).servicePatternDue = s.servicePatternDue →
        (l.foldl State.acknowledge s).notice.serviceLamp = s.notice.serviceLamp) := by
  induction l generalizing s with
  | nil => exact ⟨le_refl _, fun _ => rfl⟩
  | cons j js ih =>
    have step := acknowledge_due_le s j
    obtain ⟨below, kept⟩ := ih (s.acknowledge j) (foldl_acknowledge_lamp_due [j] s (.inl h))
    refine ⟨below.trans step, fun same => ?_⟩
    have same : (js.foldl State.acknowledge (s.acknowledge j)).servicePatternDue = s.servicePatternDue := same
    have rank : (s.acknowledge j).servicePatternDue.rank = s.servicePatternDue.rank :=
      le_antisymm step (same ▸ below)
    have due := LampPattern.rank_inj_due rank
    refine (kept (same.trans due.symm)).trans ?_
    cases pending : (s.noticeRecord j).pending
    · rw [acknowledge_clear pending]
    · rw [acknowledge_serviceLamp pending, due]
      exact if_pos h

/-! ### Masks -/

theorem mask_noticeRecord (kinds : Word16) (k : NoticeKind) (s : State) :
    (s.onNotice (NoticeUnit.mask kinds)).noticeRecord k =
      { s.noticeRecord k with masked := kinds.getLsbD k.index.val } :=
  buildTable_get 14 _ k.index

/-! ### The obligation about the notices -/

theorem kindSetOk_of_lt {kinds : Word16} (h : kinds.toNat < 2 ^ 14) : kindSetOk kinds = true := decide_eq_true h

theorem kindSetOk_of_le {kinds : Word16} (h : 2 ^ 14 ≤ kinds.toNat) : kindSetOk kinds = false :=
  decide_eq_false (not_lt.2 h)

theorem mem_kinds (kinds : Word16) (k : NoticeKind) :
    k ∈ NoticeKind.all.filter (kindInSet kinds) ↔ kinds.getLsbD k.index.val = true := by
  have : k ∈ NoticeKind.all := by cases k <;> decide
  simp only [List.mem_filter, this, true_and]
  rfl

/-- Settles O33: the acknowledgment as a fold over the set, the mask, and the lamp's rule. -/
theorem noticeRequestsChangeTheNamedKinds : Obligations.NoticeRequestsChangeTheNamedKinds := by
  refine ⟨fun s tag kinds ht inState => ⟨fun bad => ⟨?_, ?_⟩, fun ok => ⟨?_, ?_⟩⟩, fun s => ?_⟩
  · exact exec_gateway_quiet rfl rfl ht (config_or_run inState) (by rw [ackNoticesReply, kindSetOk_of_le bad]; rfl)
  · exact exec_gateway_quiet rfl rfl ht (config_or_run inState) (by rw [maskNoticesReply, kindSetOk_of_le bad]; rfl)
  · let a := s.answeredPlain tag (codeByte 24 0) .done
    let l := NoticeKind.all.filter (kindInSet kinds)
    obtain ⟨rest, tagCounter, air⟩ := foldl_acknowledge_rest l a
    have port : (l.foldl State.acknowledge a).port = a.port := by
      have := congrArg State.port rest
      exact this
    have records := foldl_acknowledge_noticeRecord l a
    refine ⟨l.foldl State.acknowledge a, ?_, fun k => ?_, tagCounter, air, fun none => ?_, fun some => ?_, rest⟩
    · refine exec_gateway_done rfl rfl ht (config_or_run inState) (more := []) (owed := []) ?_ ?_
      · rw [ackNoticesReply, kindSetOk_of_lt ok]
        rfl
      · rw [port, List.append_nil]
    · refine (records k).trans (if_congr ?_ rfl rfl)
      rw [mem_kinds, Bool.and_eq_true]
      rfl
    · have clear : ∀ k ∈ l, (a.noticeRecord k).pending = false := fun k hk => none k ((mem_kinds kinds k).1 hk)
      have same : l.foldl State.acknowledge a = a := foldl_acknowledge_clear clear
      exact (congrArg State.notice same).trans rfl
    · have due := foldl_acknowledge_lamp_due l a
        (.inr (some.imp fun k ⟨inSet, pending⟩ => ⟨(mem_kinds kinds k).2 inSet, pending⟩))
      refine ⟨due, fun changed => ?_, fun shown same => (foldl_acknowledge_lamp_kept l a shown).2 same.symm⟩
      rcases foldl_acknowledge_lamp_new l a with same | start
      · exact absurd (same ▸ due) changed
      · rw [← due, ← start]
  · refine ⟨(s.answeredPlain tag (codeByte 25 0) .done).onNotice (NoticeUnit.mask kinds), ?_, (mask_noticeRecord kinds · _),
      rfl, rfl⟩
    refine exec_gateway_done rfl rfl ht (config_or_run inState) (more := []) (owed := []) ?_ (List.append_nil _).symm
    rw [maskNoticesReply, kindSetOk_of_lt ok]
    rfl
  · rcases servicePatternDue_cases s with ⟨some, e⟩ | ⟨none, on, e⟩ | ⟨none, off, e⟩
    · exact ⟨fun _ => e, fun no => absurd some no, fun no => absurd some no⟩
    · exact ⟨fun yes => absurd yes none, fun _ _ => e, fun _ no => absurd on no⟩
    · exact ⟨fun yes => absurd yes none, fun _ yes => absurd yes off, fun _ _ => e⟩

/-! ### The tallies -/

section
variable {u : Tally} {group mask flags : Byte} {filter : Word16} {g : TallyGroup}

theorem tallySetupOf_good (code : TallyGroup.ofCode group.toNat = some g) (width : g = .off ∨ mask.toNat < 2 ^ g.width)
    (modes : filter.toNat < 2 ^ 9) (range : flags.toNat < 8) :
    tallySetupOf u group mask filter flags =
      some ⟨u.value, g, if g = .off then 0 else mask, filter, flags.getLsbD 0, flags.getLsbD 1,
        u.overflow && !flags.getLsbD 2⟩ := by
  have ok : ((g == .off || decide (mask.toNat < 2 ^ g.width)) && decide (filter.toNat < 2 ^ 9) &&
      decide (flags.toNat < 8)) = true := by
    simp only [Bool.and_eq_true, Bool.or_eq_true, beq_iff_eq, decide_eq_true_eq]
    exact ⟨⟨width, modes⟩, range⟩
  simp only [tallySetupOf, code]
  rw [if_pos ok]

end

section
variable {s : State} {b : Byte} {i : Fin 4} (index : b.toNat = i.val)
include index

theorem tallySetupReply_good {t : Tally} {group mask flags : Byte} {filter : Word16}
    (h : tallySetupOf s.tally.tallies[i] group mask filter flags = some t) :
    tallySetupReply b group mask filter flags ⟨s, []⟩ = .ok (plain .done) ⟨s.setTally i t, []⟩ := by
  simp only [tallySetupReply, boundedIndex_some index, Act.bind_run, Act.look_run, h, Act.upd_run, Act.pure_run]

theorem tallyWriteReply_good (value : Word32) : tallyWriteReply b value ⟨s, []⟩ =
    .ok (plain .done) ⟨s.setTally i { s.tally.tallies[i] with value := value }, []⟩ := by
  simp only [tallyWriteReply, boundedIndex_some index, Act.bind_run, Act.upd_run, Act.pure_run]

end

/-- Settles O34: the setup and the value by index, for the gateway and sent to every node. -/
theorem tallyRequestsSetControlOrValue : Obligations.TallyRequestsSetControlOrValue := by
  refine ⟨fun s tag b group mask flags filter value g ht inState => ⟨fun i index => ⟨fun code width modes range => ?_, ?_⟩,
    fun out => ⟨?_, ?_⟩⟩, fun s tag b group mask flags filter value g i alive inState index =>
      ⟨fun code width modes range => ?_, ?_⟩⟩
  · exact exec_gateway_done rfl rfl ht (config_or_run inState) (more := []) (owed := [])
      (by
        exact tallySetupReply_good (s := s.answeredPlain tag (codeByte 27 0) .done) index
          (tallySetupOf_good code width modes range))
      (List.append_nil _).symm
  · exact exec_gateway_done rfl rfl ht (config_or_run inState) (more := []) (owed := [])
      (by exact tallyWriteReply_good (s := s.answeredPlain tag (codeByte 28 0) .done) index value)
      (List.append_nil _).symm
  · exact exec_gateway_quiet rfl rfl ht (config_or_run inState) (by rw [tallySetupReply, boundedIndex_none out]; rfl)
  · exact exec_gateway_quiet rfl rfl ht (config_or_run inState) (by rw [tallyWriteReply, boundedIndex_none out]; rfl)
  · exact exec_everyNode rfl rfl alive (awake_of_config_or_run inState) (config_or_run inState) (owed := [])
      (by exact tallySetupReply_good (s := s.stopPreclean) index (tallySetupOf_good code width modes range))
  · exact exec_everyNode rfl rfl alive (awake_of_config_or_run inState) (config_or_run inState) (owed := [])
      (by exact tallyWriteReply_good (s := s.stopPreclean) index value)

end Sys2Proof.Machine
end

section
/-! SUPPORT. Writes of the tables that no read comes before. -/
namespace Sys2Proof.Machine
open Sys2Proof

/-! ### An entry rewritten -/

/-- The report that the Fault List is empty, as an entry leaves it. -/
def State.emptiedReports (s : State) (e : EntryId) : List Report :=
  if s.integ.faultList = [e] then [.faultList false] else []

theorem erase_eq_nil_iff {l : List EntryId} {e : EntryId} (h : e ∈ l) : l.erase e = [] ↔ l = [e] := by
  refine ⟨fun empty => ?_, fun one => by rw [one, List.erase_cons_head]⟩
  have length := List.length_erase_of_mem h
  rw [empty, List.length_nil] at length
  match l, h, length with
  | [x], h, _ => rw [List.mem_singleton.1 h]
  | _ :: _ :: _, _, length => simp at length

/-- Leaving the Fault List, said in one equation whether or not the entry is on it. -/
theorem rewritten_eq (e : EntryId) (s : State) : s.rewritten e =
    (s.onInteg fun u => { u with faultList := u.faultList.erase e }).onCtrl fun c =>
      { c with reports := c.reports ++ s.emptiedReports e } := by
  unfold State.rewritten State.emptiedReports State.isFaulted
  by_cases member : e ∈ s.integ.faultList
  · rw [if_pos (List.contains_iff_mem.2 member)]
    simp only [State.onInteg_integ, List.isEmpty_iff, erase_eq_nil_iff member]
    split
    · rfl
    · simp only [List.append_nil]
      rfl
  · rw [if_neg (mt List.contains_iff_mem.1 member), if_neg fun one : s.integ.faultList = [e] => member (one ▸ List.mem_singleton_self e)]
    simp only [List.append_nil, State.onInteg, List.erase_of_not_mem member]
    rfl

/-- On what a write leaves, behind the entry's leave of the Fault List. -/
theorem rewritten_integ (e : EntryId) (s : State) :
    (s.rewritten e).integ = { s.integ with faultList := s.integ.faultList.erase e } := by
  rw [rewritten_eq]
  rfl

theorem rewritten_ctrl (e : EntryId) (s : State) :
    (s.rewritten e).ctrl = { s.ctrl with reports := s.ctrl.reports ++ s.emptiedReports e } := by
  rw [rewritten_eq]
  rfl

theorem rewritten_rest (e : EntryId) (s : State) : { s.rewritten e with integ := s.integ, ctrl := s.ctrl } = s := by
  rw [rewritten_eq]
  rfl

theorem rewritten_undamaged {s : State} (none : s.integ.faultList = []) (e : EntryId) : s.rewritten e = s := by
  rw [rewritten_eq]
  simp only [State.emptiedReports, none, List.nil_eq, List.cons_ne_nil, if_false, List.append_nil, State.onInteg,
    State.onCtrl, List.erase_nil]
  rw [← none]

theorem in_config {s : State} (h : s.mgmt.opState = .config) : [OpState.config].contains s.mgmt.opState = true := by
  rw [h]
  rfl

theorem in_run {s : State} (h : s.mgmt.opState = .run) : [OpState.run].contains s.mgmt.opState = true := by
  rw [h]
  rfl

/-! ### WRITE_RECOVERY -/

theorem recoveryBinOf_good {threshold length : Word16} (h : threshold.toNat ≤ 1023) (h' : length.toNat ≤ 600) :
    recoveryBinOf threshold length = some ⟨threshold.toNat, length.toNat⟩ :=
  if_pos (by rw [decide_eq_true h, decide_eq_true h']; rfl)

theorem recoveryBinOf_bad {threshold length : Word16} (h : 1023 < threshold.toNat ∨ 600 < length.toNat) :
    recoveryBinOf threshold length = none := by
  refine if_neg fun both => ?_
  rw [Bool.and_eq_true, decide_eq_true_eq, decide_eq_true_eq] at both
  omega

/-- Settles O31: the bin by index, its fields and the Fault List. -/
theorem writeRecoveryStoresTheBin : Obligations.WriteRecoveryStoresTheBin := by
  intro s tag bin threshold length ht config
  refine ⟨fun i index low short => ?_, fun out => ?_, fun within bad => ?_⟩
  · let a := s.answeredPlain tag (codeByte 12 0) .done
    let b := a.onTimer fun t => { t with bins := t.bins.set i ⟨⟨threshold.toNat, length.toNat⟩, []⟩ }
    refine ⟨b.rewritten (.recovery i), exec_gateway_done (t := b.rewritten (.recovery i)) rfl rfl ht (in_config config)
      (more := []) (owed := []) ?_ ?_, State.rewritten_timer .., rewritten_integ .., rewritten_ctrl .., ?_⟩
    · simp only [writeRecoveryReply, boundedIndex_some index, recoveryBinOf_good low short, Act.bind_run, Act.upd_run,
        Act.pure_run]
      rfl
    · rw [State.rewritten_port, List.append_nil]
      rfl
    · exact congrArg (fun x : State => { x with timer := s.timer }) (rewritten_rest (.recovery i) b)
  · exact exec_gateway_quiet rfl rfl ht (in_config config) (by simp only [writeRecoveryReply, boundedIndex_none out]; rfl)
  · have index : bin.toNat = (⟨bin.toNat, within⟩ : Fin 4).val := rfl
    exact exec_gateway_quiet rfl rfl ht (in_config config)
      (by simp only [writeRecoveryReply, boundedIndex_some index, recoveryBinOf_bad bad]; rfl)

/-! ### WRITE_ACTUATOR -/

theorem ofIndex_index (a : Actuator) : Actuator.ofIndex a.index = some a := by cases a <;> rfl

theorem actuatorEntryOf_good {present node : Byte} (h : present = 0 ∨ (present = 1 ∧ 2 ≤ node.toNat ∧ node.toNat ≤ 62)) :
    actuatorEntryOf present node = some ⟨decide (present = 1), if present = 1 then node.toNat else 0⟩ := by
  rcases h with rfl | ⟨rfl, low, high⟩
  · rfl
  · exact if_pos (by rw [decide_eq_true low, decide_eq_true high]; rfl)

/-- The Command Engine once an actuator's entry is written, before its target is queued. -/
def CommandEngine.unfitted (a : Actuator) (e : ActuatorEntry) (c : CommandEngine) : CommandEngine :=
  (({ c with entries := c.entries.set a ⟨e, []⟩ }.dropPending a).dropOutstanding a).onDelivery a fun d =>
    { d with reported := none, failed := false, lastAbandoned := none }

theorem unfitted_get (a b : Actuator) (e : ActuatorEntry) (c : CommandEngine) : (c.unfitted a e).delivery.get b =
    if b = a then ⟨(c.delivery.get a).target, none, none, none, none, false, none⟩ else c.delivery.get b := by
  simp only [CommandEngine.unfitted, CommandEngine.dropPending, CommandEngine.dropOutstanding, CommandEngine.onDelivery,
    PerActuator.get_set]
  split <;> rfl

theorem queueValue_get (a b : Actuator) (v : Nat) (c : CommandEngine) : (c.queueValue a v).delivery.get b =
    if b = a then { c.delivery.get a with pendingValue := some v } else c.delivery.get b :=
  PerActuator.get_set _ _ _ _

/-- The Command Engine once an actuator's entry is written. -/
def CommandEngine.fitted (a : Actuator) (e : ActuatorEntry) (c : CommandEngine) : CommandEngine :=
  if e.present && !c.halted && (c.delivery.get a).target.isSome then
    (c.unfitted a e).queueValue a ((c.delivery.get a).target.getD 0)
  else c.unfitted a e

theorem writeActuator_eq (a : Actuator) (e : ActuatorEntry) (s : State) :
    s.writeActuator a e = (s.rewritten (.actuator a)).onCmd (·.fitted a e) := by
  have swap : (s.onCmd fun c => { c with entries := c.entries.set a (PowerOn.fresh e) }).rewritten (.actuator a) =
      (s.rewritten (.actuator a)).onCmd fun c => { c with entries := c.entries.set a (PowerOn.fresh e) } := by
    rw [rewritten_eq, rewritten_eq]
    rfl
  have target : ((s.cmd.unfitted a e).delivery.get a).target = (s.cmd.delivery.get a).target := by
    rw [unfitted_get, if_pos rfl]
  have cmd : (s.rewritten (.actuator a)).cmd = s.cmd := State.rewritten_cmd ..
  have halted : (s.cmd.unfitted a e).halted = s.cmd.halted := rfl
  have start : s.writeActuator a e =
      match ((s.cmd.unfitted a e).delivery.get a).target with
      | some t =>
        if e.present && !(s.cmd.unfitted a e).halted then
          ((s.rewritten (.actuator a)).onCmd (·.unfitted a e)).onCmd (·.queueValue a t)
        else (s.rewritten (.actuator a)).onCmd (·.unfitted a e)
      | none => (s.rewritten (.actuator a)).onCmd (·.unfitted a e) := by
    rw [← cmd]
    unfold State.writeActuator
    rw [swap]
    rfl
  rw [start, target, halted]
  simp only [State.onCmd, CommandEngine.fitted, cmd]
  cases (s.cmd.delivery.get a).target <;> cases e.present <;> cases s.cmd.halted <;> rfl

/-- What is sent afresh. -/
theorem fitted_get (a b : Actuator) (e : ActuatorEntry) (c : CommandEngine) : (c.fitted a e).delivery.get b =
    if b = a then ⟨(c.delivery.get a).target,
      if e.present && !c.halted && (c.delivery.get a).target.isSome then (c.delivery.get a).target else none,
      none, none, none, false, none⟩
    else c.delivery.get b := by
  unfold CommandEngine.fitted
  cases sends : e.present && !c.halted && (c.delivery.get a).target.isSome
  · exact unfitted_get ..
  · obtain ⟨-, held⟩ := Bool.and_eq_true_iff.1 sends
    obtain ⟨v, hv⟩ := Option.isSome_iff_exists.1 held
    simp only [if_true, queueValue_get, unfitted_get, hv, Option.getD_some]
    split <;> rfl

theorem fitted_cmq (a : Actuator) (e : ActuatorEntry) (c : CommandEngine) : (c.fitted a e).cmq = c.cmq.erase a ++
    (if e.present && !c.halted && (c.delivery.get a).target.isSome then [a] else []) := by
  unfold CommandEngine.fitted
  split
  · have free : ((c.unfitted a e).delivery.get a).pendingValue = none := by rw [unfitted_get, if_pos rfl]
    simp only [CommandEngine.queueValue, free, Option.isSome_none, Bool.false_eq_true, if_false]
    rfl
  · exact (List.append_nil _).symm

theorem fitted_rest (a : Actuator) (e : ActuatorEntry) (c : CommandEngine) :
    c.fitted a e = { c with
      entries := c.entries.set a ⟨e, []⟩
      delivery := (c.fitted a e).delivery
      cmq := (c.fitted a e).cmq
      due := c.due.erase a } := by
  unfold CommandEngine.fitted
  split <;> rfl

/-- Settles O32: the entry, the delivery afresh, and the Fault List. -/
theorem writeActuatorStoresAndSendsAfresh : Obligations.WriteActuatorStoresAndSendsAfresh := by
  intro s tag actuator present node a ht config index ok sends
  let e : ActuatorEntry := ⟨decide (present = 1), if present = 1 then node.toNat else 0⟩
  let b := s.answeredPlain tag (codeByte 14 0) .done
  have cmd : (b.writeActuator a e).cmd = s.cmd.fitted a e := by
    rw [writeActuator_eq, State.onCmd_cmd, State.rewritten_cmd]
    rfl
  have run : exec (.writeActuator (gateway tag) actuator present node) s = .next (b.writeActuator a e) := by
    refine exec_gateway_done (t := b.writeActuator a e) rfl rfl ht (in_config config) (more := []) (owed := []) ?_ ?_
    · simp only [writeActuatorReply, index, ofIndex_index, actuatorEntryOf_good ok, Act.bind_run, Act.upd_run, Act.pure_run]
      rfl
    · rw [writeActuator_eq, List.append_nil]
      simp
      rfl
  have rest := fitted_rest a e s.cmd
  refine ⟨_, run, ?_, ?_, fun o ho => ?_, ?_, ?_, ?_, ?_, ?_, ?_, ?_, ?_⟩
  · rw [cmd, rest]
  · rw [cmd, fitted_get, if_pos rfl]
  · rw [cmd, fitted_get, if_neg ho]
  · rw [cmd, fitted_cmq]
  · rw [cmd, rest]
  · rw [cmd, rest]
  · rw [cmd, rest]
  · rw [cmd, rest]
  · rw [writeActuator_eq]
    exact rewritten_ctrl ..
  · rw [writeActuator_eq]
    exact rewritten_integ ..
  · rw [writeActuator_eq]
    exact congrArg (fun x : State => { x with cmd := s.cmd }) (rewritten_rest (.actuator a) b)

end Sys2Proof.Machine
end

section
/-! SUPPORT. Writes of the Channel Map and of the comparators. -/
namespace Sys2Proof.Machine
open Sys2Proof

/-! ### The Channel Map -/

theorem mapContentOf_good {source channel slot : Byte} {gain offset : Word16} {rule k : Byte} {fr : ForwardRule}
    {sl : Fin 32} (hs : slot.toNat = sl.val) (src : source.toNat ≤ 62) (ch : channel.toNat ≤ 15)
    (forward : (rule = 0 ∧ fr = .drop) ∨ (rule = 1 ∧ fr = .pass) ∨
      (rule = 2 ∧ 2 ≤ k.toNat ∧ k.toNat ≤ 16 ∧ fr = .thin k.toNat)) :
    mapContentOf source channel slot gain offset rule k =
      some ⟨true, source.toNat, channel.toNat, sl, gain.toInt, offset.toInt, fr⟩ := by
  have range : (decide (62 < source.toNat) || decide (15 < channel.toNat)) = false := by
    rw [decide_eq_false (by omega), decide_eq_false (by omega)]
    rfl
  simp only [mapContentOf, range, Bool.false_eq_true, if_false, boundedIndex_some hs]
  rcases forward with ⟨rfl, rfl⟩ | ⟨rfl, rfl⟩ | ⟨rfl, low, high, rfl⟩
  · rfl
  · rfl
  · have within : (((2 : Byte) == 2) && decide (2 ≤ k.toNat) && decide (k.toNat ≤ 16)) = true := by
      rw [decide_eq_true low, decide_eq_true high]
      rfl
    refine (if_neg (by decide)).trans ((if_neg (by decide)).trans (if_pos ?_))
    simpa using within

/-- A map entry written, in one equation. -/
theorem writeMapEntry_eq (i : Fin 64) (c : MapContent) (s : State) : s.writeMapEntry i c =
    (s.onIntake fun u => { u with map := u.map.set i ⟨c, []⟩, dyn := u.dyn.set i ⟨0, none⟩ }).rewritten (.channelMap i) := rfl

theorem writeMapEntry_port (i : Fin 64) (c : MapContent) (s : State) : (s.writeMapEntry i c).port = s.port :=
  (State.rewritten_port ..).trans rfl

/-- What a written map entry leaves. -/
def State.MapWritten (s t : State) (i : Fin 64) (c : MapContent) (answered : State) : Prop :=
  t.intake.map = s.intake.map.set i ⟨c, []⟩ ∧ t.intake.dyn = s.intake.dyn.set i ⟨0, none⟩ ∧
    t.integ = { s.integ with faultList := s.integ.faultList.erase (.channelMap i) } ∧
    t.ctrl = { s.ctrl with reports := s.ctrl.reports ++ s.emptiedReports (.channelMap i) } ∧
    { t with intake := s.intake, integ := s.integ, ctrl := s.ctrl } = answered

theorem writeMapEntry_written (i : Fin 64) (c : MapContent) (s : State) (tag code : Byte) :
    s.MapWritten ((s.answeredPlain tag code .done).writeMapEntry i c) i c (s.answeredPlain tag code .done) := by
  let a := s.answeredPlain tag code .done
  let b := a.onIntake fun u => { u with map := u.map.set i ⟨c, []⟩, dyn := u.dyn.set i ⟨0, none⟩ }
  have intake : (a.writeMapEntry i c).intake = b.intake := State.rewritten_intake ..
  refine ⟨?_, ?_, rewritten_integ (.channelMap i) b, rewritten_ctrl (.channelMap i) b, ?_⟩
  · exact congrArg Intake.map intake
  · exact congrArg Intake.dyn intake
  · exact congrArg (fun x : State => { x with intake := s.intake }) (rewritten_rest (.channelMap i) b)

section
variable {v : Event} {entry : Byte} {i : Fin 64} {c : MapContent} (index : entry.toNat = i.val)
include index

theorem writeMapReply_taken {j : Fin 64}
    (found : lookup c.source c.channel (mapIndexes.filter (· != i)) v = .ok (some j) v) :
    writeMapReply entry (some c) v = .ok (plain .duplicateKey) v := by
  simp only [writeMapReply, boundedIndex_some index, Act.bind_run, found, Act.pure_run]

theorem writeMapReply_free (found : lookup c.source c.channel (mapIndexes.filter (· != i)) v = .ok none v) :
    writeMapReply entry (some c) v = .ok (plain .done) ⟨v.state.writeMapEntry i c, v.owed⟩ := by
  simp only [writeMapReply, boundedIndex_some index, Act.bind_run, found, Act.upd_run, Act.pure_run]

end

/-- Settles O26: the key's other holder refuses the write; otherwise the entry takes its content. -/
theorem mapWritesStoreTheEntry : Obligations.MapWritesStoreTheEntry := by
  intro s tag entry source channel slot gain offset rule k fr ht config
  refine ⟨fun i sl index hs src ch known forward => ?_, fun i index => ?_, fun out => ⟨?_, ?_⟩⟩
  · let a := s.answeredPlain tag (codeByte 5 0) .done
    let c : MapContent := ⟨true, source.toNat, channel.toNat, sl, gain.toInt, offset.toInt, fr⟩
    have content : mapContentOf source channel slot gain offset rule k = some c := mapContentOf_good hs src ch forward
    have found := lookup_known (v := ⟨a, []⟩) source.toNat channel.toNat (mapIndexes.filter (· != i)) fun j hj => by
      have other : j ≠ i := by simpa using (List.mem_filter.1 hj).2
      exact State.Known.of_tables (fun f => known (.channelMap j) (by simpa using other) f) rfl
    have has (j : Fin 64) : hasKey source.toNat channel.toNat (a.mapSeen j) = true ↔
        s.isFaulted (.channelMap j) = false ∧ s.intake.map[j].content.valid = true ∧
          s.intake.map[j].content.source = source.toNat ∧ s.intake.map[j].content.channel = channel.toNat := by
      have seen : a.mapSeen j = s.mapSeen j := rfl
      rw [seen, State.mapSeen]
      cases s.isFaulted (.channelMap j) <;> simp [hasKey, and_assoc]
    have other (j : Fin 64) : j ∈ mapIndexes.filter (· != i) ↔ j ≠ i := by
      simp [mapIndexes]
    refine ⟨fun ⟨j, ne, good, valid, key⟩ => ?_, fun free => ?_⟩
    · obtain ⟨j', taken⟩ := Option.isSome_iff_exists.1
        (List.find?_isSome (p := fun j => hasKey source.toNat channel.toNat (a.mapSeen j)).2 ⟨j, (other j).2 ne, (has j).2 ⟨good, valid, key⟩⟩)
      rw [taken] at found
      refine exec_gateway_quiet rfl rfl ht (in_config config) ?_
      rw [content]
      exact writeMapReply_taken index found
    · have none : (mapIndexes.filter (· != i)).find? (fun j => hasKey source.toNat channel.toNat (a.mapSeen j)) =
          none := List.find?_eq_none.2 fun j hj held => free j ⟨(other j).1 hj, (has j).1 held⟩
      rw [none] at found
      refine ⟨_, exec_gateway_done (t := a.writeMapEntry i c) rfl rfl ht (in_config config) (more := []) (owed := []) ?_ ?_,
        writeMapEntry_written i c s tag _⟩
      · rw [content]
        exact writeMapReply_free index found
      · rw [writeMapEntry_port, List.append_nil]
  · refine ⟨_, exec_gateway_done (t := (s.answeredPlain tag (codeByte 6 0) .done).writeMapEntry i PowerOn.mapContent)
      rfl rfl ht (in_config config) (more := []) (owed := []) ?_ ?_, writeMapEntry_written i PowerOn.mapContent s tag _⟩
    · simp only [clearMapReply, boundedIndex_some index, Act.bind_run, Act.upd_run, Act.pure_run]
    · rw [writeMapEntry_port, List.append_nil]
  · refine exec_gateway_quiet rfl rfl ht (in_config config) ?_
    simp only [writeMapReply, boundedIndex_none out]
    rfl
  · refine exec_gateway_quiet rfl rfl ht (in_config config) ?_
    simp only [clearMapReply, boundedIndex_none out]
    rfl

/-! ### The comparators -/

theorem compSetupOf_good {direction confirm : Byte} {set clear : Word16} {d : Direction}
    (code : Direction.ofCode direction.toNat = some d) (low : 1 ≤ confirm.toNat) (high : confirm.toNat ≤ 15)
    (above : d = .above → clear.toInt ≤ set.toInt) (below : d = .below → set.toInt ≤ clear.toInt) :
    compSetupOf direction set clear confirm = some ⟨d, set.toInt, clear.toInt, confirm.toNat⟩ := by
  have ordered : levelsOrdered d set.toInt clear.toInt = true := by
    cases d
    · rfl
    · exact decide_eq_true (above rfl)
    · exact decide_eq_true (below rfl)
  simp only [compSetupOf, code]
  exact if_pos (by rw [decide_eq_true low, decide_eq_true high, ordered]; rfl)

theorem writeComparatorReply_good {v : Event} {slot comparator : Byte} {i : Fin 32} {n : CompName} {c : CompSetup}
    {su : SlotSetup} (index : slot.toNat = i.val) (name : CompName.ofByte comparator = some n)
    (read : readSetup i v = .ok (some su) v) : writeComparatorReply slot comparator (some c) v =
      .ok (plain .done) ⟨v.state.writeComp i n su c, v.owed⟩ := by
  simp only [writeComparatorReply, boundedIndex_some index, name, Act.bind_run, read, Act.upd_run, Act.pure_run]

/-- A comparator's state once its setup is written. -/
def CompState.afterWrite (st : CompState) (d : Direction) : CompState := ⟨if d = .off then false else st.isSet, 0⟩

theorem compState_rewritten (st : CompState) (d : Direction) : st.rewritten d = st.afterWrite d := by
  cases d <;> rfl

theorem writeComp_quantity (i : Fin 32) (n : CompName) (su : SlotSetup) (c : CompSetup) (s : State) :
    (s.writeComp i n su c).quantity = { s.quantity with
      setups := s.quantity.setups.set i ⟨su.setComp n c, []⟩
      slots := s.quantity.slots.set i
        (s.quantity.slots[i].setComp n ((s.quantity.slots[i].comp n).afterWrite c.direction)) } := by
  rw [← compState_rewritten]
  unfold State.writeComp
  dsimp only
  split <;> rfl

theorem writeComp_ctrl {s : State} (u : s.Undamaged) (i : Fin 32) (n : CompName) (su : SlotSetup) (c : CompSetup) :
    (s.writeComp i n su c).ctrl = { s.ctrl with reports := s.ctrl.reports ++
      (if c.direction = .off ∧ (s.quantity.slots[i].comp n).isSet = true then
        [.slot i (s.writeComp i n su c).quantity.slots[i].view] else []) } := by
  let b := (s.onQuantity fun q => { q with setups := q.setups.set i (PowerOn.fresh (su.setComp n c)) }).onSlot i
    fun sl => sl.setComp n ((sl.comp n).rewritten c.direction)
  have seen : b.slotSeen i = b.quantity.slots[i] :=
    State.slotSeen_good (s := b) (i := i) (u.isFaulted (.slotSetup i))
  have either : s.writeComp i n su c =
      if (s.quantity.slots[i].comp n).isSet && c.direction == .off then b.reportSlot i else b := rfl
  by_cases told : c.direction = .off ∧ (s.quantity.slots[i].comp n).isSet = true
  · have due : ((s.quantity.slots[i].comp n).isSet && c.direction == .off) = true := by
      rw [told.1, told.2]
      rfl
    rw [either, if_pos told, if_pos due]
    refine congrArg (fun x => ({ s.ctrl with reports := s.ctrl.reports ++ [Report.slot i x] } : Controller)) ?_
    exact congrArg Slot.view seen
  · rw [either, if_neg told, if_neg fun due => ?_, List.append_nil]
    · rfl
    · rw [Bool.and_eq_true, beq_iff_eq] at due
      exact told ⟨due.2, due.1⟩

theorem writeComp_rest (i : Fin 32) (n : CompName) (su : SlotSetup) (c : CompSetup) (s : State) :
    { s.writeComp i n su c with quantity := s.quantity, ctrl := s.ctrl } = s := by
  unfold State.writeComp
  dsimp only
  split <;> rfl

theorem exec_writeComparator {s : State} {tag slot comparator direction confirm : Byte} {set clear : Word16} {i : Fin 32}
    {n : CompName} {c : CompSetup} (ht : s.TakesRequest) (inState : s.mgmt.opState = .config ∨ s.mgmt.opState = .run)
    (u : s.Undamaged) (index : slot.toNat = i.val) (name : CompName.ofByte comparator = some n)
    (content : compSetupOf direction set clear confirm = some c) :
    exec (.writeComparator (gateway tag) slot comparator direction set clear confirm) s =
      .next ((s.answeredPlain tag (codeByte 8 0) .done).writeComp i n s.quantity.setups[i].content c) := by
  let a := s.answeredPlain tag (codeByte 8 0) .done
  have w : a.Undamaged := u.of_tables rfl
  have read := readSetup_known (v := ⟨a, []⟩) (w.known (.slotSetup i))
  rw [w.setupSeen] at read
  refine exec_gateway_done (t := a.writeComp i n s.quantity.setups[i].content c) rfl rfl ht (config_or_run inState)
    (more := []) (owed := []) ?_ ?_
  · rw [content]
    exact writeComparatorReply_good index name read
  · exact (congrArg (fun x : State => x.port.rpq) (writeComp_rest i n s.quantity.setups[i].content c a)).trans
      (List.append_nil _).symm

/-- Settles O28: the named comparator's setup and state, and the report of a comparator that was SET. -/
theorem writeComparatorStoresTheSetup : Obligations.WriteComparatorStoresTheSetup := by
  intro s tag slot direction set clear confirm i d ht inState u index code low high above below
  have content := compSetupOf_good code low high above below
  have w : (s.answeredPlain tag (codeByte 8 0) .done).Undamaged := u.of_tables rfl
  refine ⟨⟨_, exec_writeComparator (n := .a) ht inState u index rfl content, ?_, ?_, writeComp_ctrl w .., ?_⟩,
    ⟨_, exec_writeComparator (n := .b) ht inState u index rfl content, ?_, ?_, writeComp_ctrl w .., ?_⟩,
    fun comparator out => ?_⟩
  · rw [writeComp_quantity]
    rfl
  · rw [writeComp_quantity]
    rfl
  · exact writeComp_rest ..
  · rw [writeComp_quantity]
    rfl
  · rw [writeComp_quantity]
    rfl
  · exact writeComp_rest ..
  · have none : CompName.ofByte comparator = none := by
      refine (if_neg ?_).trans (if_neg ?_) <;> rintro rfl <;> exact absurd out (by decide)
    refine exec_gateway_quiet rfl rfl ht (config_or_run inState) ?_
    simp only [writeComparatorReply, boundedIndex_some index, none]
    rfl

end Sys2Proof.Machine
end

section
/-! SUPPORT. The mode's choice, its targets and the hand-over of a change, as they run without new damage.

Each Act of the Controller's that the air path goes through is given once as a function of the state; the statements'
relations between states (`TargetsHanded`, `ChangedMode`) are then properties of these functions. -/
namespace Sys2Proof.Machine
open Sys2Proof

/-! ### A target handed to the Command Engine -/

/-- A delivery handed a target that is sent, or only recorded. -/
def Delivery.handed (sends : Bool) (x : Nat) (d : Delivery) : Delivery :=
  if d.target == some x then d else { d with target := some x, pendingValue := if sends then some x else d.pendingValue }

/-- The Command Engine handed one target, `fits` saying whether the actuator is fitted. -/
def CommandEngine.handed (fits : Bool) (a : Actuator) (x : Nat) (c : CommandEngine) : CommandEngine :=
  if (c.delivery.get a).target == some x then c
  else
    let c := c.onDelivery a fun d => { d with target := some x }
    if fits && !c.halted then c.queueValue a x else c

/-- Whether a target handed over joins CMQ. -/
def CommandEngine.joins (fits : Bool) (a : Actuator) (x : Nat) (c : CommandEngine) : Bool :=
  !((c.delivery.get a).target == some x) && fits && !c.halted && (c.delivery.get a).pendingValue.isNone

theorem handed_get (fits : Bool) (a b : Actuator) (x : Nat) (c : CommandEngine) : (c.handed fits a x).delivery.get b =
    if b = a then (c.delivery.get a).handed (fits && !c.halted) x else c.delivery.get b := by
  unfold CommandEngine.handed Delivery.handed
  cases same : (c.delivery.get a).target == some x
  · have halted : (c.onDelivery a fun d => { d with target := some x }).halted = c.halted := rfl
    simp only [halted, Bool.false_eq_true, if_false]
    cases sends : fits && !c.halted
    · simp only [Bool.false_eq_true, if_false, CommandEngine.onDelivery_get]
    · simp only [if_true, queueValue_get, CommandEngine.onDelivery_get]
      split <;> rfl
  · simp only [if_true]
    split
    next e => rw [e]
    next => rfl

theorem handed_cmq (fits : Bool) (a : Actuator) (x : Nat) (c : CommandEngine) :
    (c.handed fits a x).cmq = c.cmq ++ if c.joins fits a x then [a] else [] := by
  unfold CommandEngine.handed CommandEngine.joins
  cases same : (c.delivery.get a).target == some x
  · have halted : (c.onDelivery a fun d => { d with target := some x }).halted = c.halted := rfl
    have pending : ((c.onDelivery a fun d => { d with target := some x }).delivery.get a).pendingValue =
        (c.delivery.get a).pendingValue := by rw [CommandEngine.onDelivery_get, if_pos rfl]
    simp only [halted, Bool.false_eq_true, if_false, Bool.not_false, Bool.true_and]
    cases sends : fits && !c.halted
    · exact (List.append_nil _).symm
    · simp only [if_true, CommandEngine.queueValue, pending, Bool.true_and]
      cases (c.delivery.get a).pendingValue
      · rfl
      · exact (List.append_nil _).symm
  · exact (List.append_nil _).symm

/-- A hand-over works on the deliveries and CMQ alone. -/
theorem handed_rest (fits : Bool) (a : Actuator) (x : Nat) (c : CommandEngine) : c.handed fits a x =
    { c with delivery := (c.handed fits a x).delivery, cmq := (c.handed fits a x).cmq } := by
  unfold CommandEngine.handed
  dsimp only
  split
  · rfl
  · split <;> rfl

/-! ### The four targets -/

/-- The Command Engine handed a list's targets. -/
def CommandEngine.handedAll (fits : Actuator → Bool) (r : ModeRecord) (l : List Actuator) (c : CommandEngine) :
    CommandEngine := l.foldl (fun c a => c.handed (fits a) a (PowerOn.targetOf r a)) c

section
variable (fits : Actuator → Bool) (r : ModeRecord)

theorem handedAll_rest (l : List Actuator) (c : CommandEngine) : c.handedAll fits r l =
    { c with delivery := (c.handedAll fits r l).delivery, cmq := (c.handedAll fits r l).cmq } := by
  have keeps : { c.handedAll fits r l with delivery := c.delivery, cmq := c.cmq } = c := by
    induction l generalizing c with
    | nil => rfl
    | cons a as ih =>
      have head := handed_rest (fits a) a (PowerOn.targetOf r a) c
      have tail := ih (c.handed (fits a) a (PowerOn.targetOf r a))
      refine (congrArg (fun d : CommandEngine => { d with delivery := c.delivery, cmq := c.cmq }) tail).trans ?_
      exact congrArg (fun d : CommandEngine => { d with delivery := c.delivery, cmq := c.cmq }) head
  exact congrArg (fun d : CommandEngine =>
    { d with delivery := (c.handedAll fits r l).delivery, cmq := (c.handedAll fits r l).cmq }) keeps

theorem handedAll_halted (l : List Actuator) (c : CommandEngine) : (c.handedAll fits r l).halted = c.halted := by
  rw [handedAll_rest]

theorem handed_halted (x : Bool) (a : Actuator) (n : Nat) (c : CommandEngine) : (c.handed x a n).halted = c.halted := by
  rw [handed_rest]

theorem handedAll_get {l : List Actuator} (once : l.Nodup) (c : CommandEngine) (b : Actuator) :
    (c.handedAll fits r l).delivery.get b =
      if b ∈ l then (c.delivery.get b).handed (fits b && !c.halted) (PowerOn.targetOf r b) else c.delivery.get b := by
  induction l generalizing c with
  | nil => rfl
  | cons a as ih =>
    obtain ⟨fresh, once⟩ := List.nodup_cons.1 once
    refine (ih once _).trans ?_
    rw [handed_halted, handed_get]
    by_cases e : b = a
    · subst e
      simp [fresh]
    · simp [e]

theorem handedAll_cmq {l : List Actuator} (once : l.Nodup) (c : CommandEngine) :
    (c.handedAll fits r l).cmq = c.cmq ++ l.filter fun a => c.joins (fits a) a (PowerOn.targetOf r a) := by
  induction l generalizing c with
  | nil => exact (List.append_nil _).symm
  | cons a as ih =>
    obtain ⟨fresh, once⟩ := List.nodup_cons.1 once
    refine (ih once _).trans ?_
    have same : (as.filter fun b => (c.handed (fits a) a (PowerOn.targetOf r a)).joins (fits b) b (PowerOn.targetOf r b)) =
        as.filter fun b => c.joins (fits b) b (PowerOn.targetOf r b) := by
      refine List.filter_congr fun b hb => ?_
      have other : b ≠ a := fun e => fresh (e ▸ hb)
      simp only [CommandEngine.joins, handed_halted, handed_get, if_neg other]
    rw [same, handed_cmq, List.append_assoc, List.filter_cons]
    split <;> rfl

end

/-- Whether an actuator is fitted, as a read finds it. -/
def State.fits (s : State) (a : Actuator) : Bool := (s.actuatorSeen a).isSome

/-- The state once the Command Engine has been handed a record's targets. -/
def State.targetsHanded (r : ModeRecord) (s : State) : State := s.onCmd (·.handedAll s.fits r Actuator.all)

theorem handTarget_known {v : Event} {a : Actuator} (k : v.state.Known (.actuator a)) (x : Nat) :
    handTarget a x v = .ok () ⟨v.state.onCmd (·.handed (v.state.fits a) a x), v.owed⟩ := by
  simp only [handTarget, Act.bind_run, Act.look_run]
  cases same : (v.state.cmd.delivery.get a).target == some x
  · have read := readActuator_known (v := ⟨v.state.onDelivery a fun d => { d with target := some x }, v.owed⟩)
      (a := a) (k.of_tables rfl)
    have seen : (v.state.onDelivery a fun d => { d with target := some x }).actuatorSeen a = v.state.actuatorSeen a := rfl
    rw [seen] at read
    simp only [Bool.not_false, onlyIf_true, Act.bind_run, Act.upd_run, read, Act.look_run]
    refine (onlyIf_upd_run ..).trans (congrArg (fun s => EStateM.Result.ok () (Event.mk s v.owed)) ?_)
    have halted : (v.state.onDelivery a fun d => { d with target := some x }).cmd.halted = v.state.cmd.halted := rfl
    simp only [State.onCmd, CommandEngine.handed, same, halted, State.fits, Bool.false_eq_true, if_false]
    have halted : (v.state.cmd.onDelivery a fun d => { d with target := some x }).halted = v.state.cmd.halted := rfl
    rw [halted]
    by_cases sends : ((v.state.actuatorSeen a).isSome && !v.state.cmd.halted) = true
    · exact (if_pos sends).trans (congrArg (fun c => { v.state with cmd := c }) (if_pos sends).symm)
    · exact (if_neg sends).trans (congrArg (fun c => { v.state with cmd := c }) (if_neg sends).symm)
  · refine congrArg (fun c => EStateM.Result.ok () (Event.mk { v.state with cmd := c } v.owed)) ?_
    exact (if_pos same).symm

theorem onCmd_tables {s : State} {f : CommandEngine → CommandEngine} (h : (f s.cmd).entries = s.cmd.entries) :
    (s.onCmd f).tables = s.tables := by
  simp only [State.tables, State.onCmd, h]

theorem fits_of_tables {s t : State} (h : t.tables = s.tables) : t.fits = s.fits := by
  have entries : t.cmd.entries = s.cmd.entries := by
    simp only [State.tables, Prod.mk.injEq] at h
    obtain ⟨-, -, -, -, -, entries, -⟩ := h
    exact entries
  funext a
  simp only [State.fits, State.actuatorSeen, isFaulted_of_tables h, entries]

theorem forAll_handTarget_known {v : Event} (l : List Actuator) (k : ∀ a, v.state.Known (.actuator a)) (r : ModeRecord) :
    forAll l (fun a => handTarget a (PowerOn.targetOf r a)) v =
      .ok () ⟨v.state.onCmd (·.handedAll v.state.fits r l), v.owed⟩ := by
  induction l generalizing v with
  | nil => rfl
  | cons a as ih =>
    have entries : (v.state.cmd.handed (v.state.fits a) a (PowerOn.targetOf r a)).entries = v.state.cmd.entries := by
      rw [handed_rest]
    have tables := onCmd_tables (s := v.state) (f := (·.handed (v.state.fits a) a (PowerOn.targetOf r a))) entries
    rw [forAll, Act.bind_ok (handTarget_known (k a) _), ih fun b => (k b).of_tables tables]
    simp only [fits_of_tables tables]
    rfl

theorem handTargets_run {v : Event} (k : ∀ a, v.state.Known (.actuator a)) (r : ModeRecord) :
    handTargets r v = .ok () ⟨v.state.targetsHanded r, v.owed⟩ := forAll_handTarget_known Actuator.all k r

theorem targetsHanded_tables (r : ModeRecord) (s : State) : (s.targetsHanded r).tables = s.tables :=
  onCmd_tables (by rw [handedAll_rest])

theorem fits_undamaged {s : State} (u : s.Undamaged) (a : Actuator) :
    s.fits a = (s.cmd.entries.get a).content.present := by
  rw [State.fits, u.actuatorSeen]
  cases (s.cmd.entries.get a).content.present <;> rfl

theorem targetsHanded_get (r : ModeRecord) (s : State) (a : Actuator) : (s.targetsHanded r).cmd.delivery.get a =
    (s.cmd.delivery.get a).handed (s.fits a && !s.cmd.halted) (PowerOn.targetOf r a) :=
  (handedAll_get s.fits r (by decide) s.cmd a).trans (if_pos (by cases a <;> decide))

theorem targetsHanded_target (r : ModeRecord) (s : State) (a : Actuator) :
    ((s.targetsHanded r).cmd.delivery.get a).target = some (PowerOn.targetOf r a) := by
  rw [targetsHanded_get, Delivery.handed]
  split
  next same => exact beq_iff_eq.1 same
  next => rfl

theorem targetsHanded_completion (r : ModeRecord) (s : State) :
    (s.targetsHanded r).cmd.completion = s.cmd.completion := by
  rw [State.targetsHanded, State.onCmd_cmd, handedAll_rest]

/-- The targets' hand-over is the statements'. -/
theorem targetsHanded_spec {s : State} (u : s.Undamaged) (r : ModeRecord) : s.TargetsHanded (s.targetsHanded r) r := by
  refine ⟨fun a => ?_, ?_⟩
  · rw [targetsHanded_get, fits_undamaged u, Delivery.handed]
    by_cases same : ((s.cmd.delivery.get a).target == some (PowerOn.targetOf r a)) = true
    · rw [if_pos same, if_neg (by simpa using same)]
    · have new : (s.cmd.delivery.get a).target ≠ some (PowerOn.targetOf r a) := by simpa using same
      simp [new]
  · have queue := handedAll_cmq s.fits r (l := Actuator.all) (by decide) s.cmd
    have joining : (Actuator.all.filter fun a => s.cmd.joins (s.fits a) a (PowerOn.targetOf r a)) =
        Actuator.all.filter fun a => !((s.cmd.delivery.get a).target == some (PowerOn.targetOf r a)) &&
          (s.cmd.entries.get a).content.present && !s.cmd.halted && (s.cmd.delivery.get a).pendingValue.isNone :=
      List.filter_congr fun a _ => by rw [CommandEngine.joins, fits_undamaged u]
    refine (handedAll_rest s.fits r Actuator.all s.cmd).trans ?_
    rw [queue, joining, targetsHanded_completion]
    rfl

/-- The relation speaks of the Command Engine alone. -/
theorem State.TargetsHanded.congr {s s' t t' : State} {r : ModeRecord} (h : s.TargetsHanded t r) (hs : s'.cmd = s.cmd)
    (ht : t'.cmd = t.cmd) : s'.TargetsHanded t' r := by
  simpa only [State.TargetsHanded, hs, ht] using h

end Sys2Proof.Machine
end

section
/-! SUPPORT. The mode chosen, its targets, and a change of the mode, without damage. -/
namespace Sys2Proof.Machine
open Sys2Proof

/-! ### A mode's targets -/

/-- The targets of a mode as the model computes them: MANUAL without a record keeps what is held. -/
def State.dueTargets (m : Mode) (s : State) : ModeRecord :=
  match m.recordIndex with
  | some i =>
    if m = .door then s.ctrl.records[i].content
    else if m = .manual then manualTargets s.ctrl.records[i].content s.timer.overrideRecord s.cmd
    else { s.ctrl.records[i].content with
      blower := boosted s.ctrl.records[i].content.blower s.mgmt.params.content.dirtyInBoost s.ctrl.conditions.dirtyIn }
  | none => if m = .park then PowerOn.parkTargets else PowerOn.safeTargets

theorem modeTargets_run {v : Event} (u : v.state.Undamaged) (m : Mode) : modeTargets m v = .ok (v.state.dueTargets m) v := by
  have record (i : Fin 7) : readRecord i v = .ok (some v.state.ctrl.records[i].content) v := by
    rw [readRecord_known (u.known _), u.recordSeen]
  have params := readParams_undamaged u
  cases m <;> simp only [modeTargets, Mode.recordIndex, Act.bind_run, record, params, Act.pure_run, Act.look_run] <;> rfl

theorem modeTargets_safe (v : Event) : modeTargets .safe v = .ok ⟨20, 8, true, true⟩ v := rfl

theorem dueTargets_safe (s : State) : s.dueTargets .safe = ⟨20, 8, true, true⟩ := rfl

theorem dueTargets_park (s : State) : s.dueTargets .park = ⟨0, 0, false, false⟩ := rfl

/-- With a record held for MANUAL the targets are the statements'. -/
theorem dueTargets_eq {s : State} {m : Mode} (held : m = .manual → s.timer.overrideRecord.isSome = true) :
    s.dueTargets m = s.targetsFor m s.ctrl.conditions.dirtyIn := by
  cases m with
  | manual =>
    obtain ⟨o, ho⟩ := Option.isSome_iff_exists.1 (held rfl)
    simp only [State.dueTargets, State.targetsFor, Mode.recordIndex, ho, manualTargets]
    cases o.flap <;> rfl
  | fresh => cases dirty : s.ctrl.conditions.dirtyIn <;> simp only [State.dueTargets, dirty] <;> rfl
  | shield => cases dirty : s.ctrl.conditions.dirtyIn <;> simp only [State.dueTargets, dirty] <;> rfl
  | purge => cases dirty : s.ctrl.conditions.dirtyIn <;> simp only [State.dueTargets, dirty] <;> rfl
  | recover => cases dirty : s.ctrl.conditions.dirtyIn <;> simp only [State.dueTargets, dirty] <;> rfl
  | demist => cases dirty : s.ctrl.conditions.dirtyIn <;> simp only [State.dueTargets, dirty] <;> rfl
  | door | safe | park => rfl

/-- What a mode's targets are computed from. -/
theorem dueTargets_congr {s t : State} (m : Mode) (records : t.ctrl.records = s.ctrl.records)
    (dirty : t.ctrl.conditions = s.ctrl.conditions) (record : t.timer.overrideRecord = s.timer.overrideRecord)
    (cmd : t.cmd = s.cmd) (params : t.mgmt.params = s.mgmt.params) : t.dueTargets m = s.dueTargets m := by
  simp only [State.dueTargets, records, dirty, record, cmd, params]

theorem computeTargets_run {v : Event} (u : v.state.Undamaged) :
    computeTargets v = .ok () ⟨v.state.targetsHanded (v.state.dueTargets v.state.ctrl.mode), v.owed⟩ := by
  simp only [computeTargets, Act.bind_run, Act.look_run, modeTargets_run u]
  exact handTargets_run (fun a => u.known _) _

/-! ### The mode chosen -/

/-- The mode an operating state and the Controller's knowledge give. -/
def State.chosenMode (s : State) : Mode :=
  match s.mgmt.opState with
  | .config => .safe
  | .run => s.precedenceMode s.ctrl
  | .parking => .park
  | .parked => .park

/-- Where FOG does not decide, whether DEMIST is enabled does not matter. -/
theorem precedence_of_not_demist {c : Controller} (h : precedence c true ≠ .demist) (b : Bool) :
    precedence c b = precedence c false := by
  cases b
  · rfl
  · unfold precedence at h ⊢
    split
    · rfl
    · split
      · rfl
      · split
        · rfl
        · split
          · rfl
          · simp_all

theorem chooseMode_run {v : Event} (u : v.state.Undamaged) : chooseMode v = .ok v.state.chosenMode v := by
  simp only [chooseMode, Act.bind_run, Act.look_run, State.chosenMode]
  cases v.state.mgmt.opState with
  | config | parking | parked => rfl
  | run =>
    simp only [Act.bind_run, Act.look_run, State.precedenceMode]
    by_cases foggy : (v.state.ctrl.conditions.fog && precedence v.state.ctrl true == .demist) = true
    · have fog := (Bool.and_eq_true_iff.1 foggy).1
      simp only [foggy, if_true, Act.bind_run, readParams_undamaged u, Act.pure_run]
      rw [fog, Bool.true_and]
    · simp only [foggy, Bool.false_eq_true, if_false, Act.pure_run]
      cases fog : v.state.ctrl.conditions.fog
      · rfl
      · have other : precedence v.state.ctrl true ≠ .demist := by simpa [fog] using foggy
        exact congrArg (EStateM.Result.ok · v) (precedence_of_not_demist other _).symm

/-- A SAFE cause has the mode SAFE without a read. -/
theorem chooseMode_of_cause {v : Event} (run : v.state.mgmt.opState = .run)
    (cause : (v.state.ctrl.causes.tableFault || v.state.ctrl.causes.inputLost) = true) :
    chooseMode v = .ok .safe v := by
  have safe (b : Bool) : precedence v.state.ctrl b = .safe := if_pos cause
  have notFoggy : (v.state.ctrl.conditions.fog && precedence v.state.ctrl true == .demist) = false := by
    rw [safe true, Bool.and_eq_false_iff]
    exact .inr rfl
  simp only [chooseMode, Act.bind_run, Act.look_run, run, notFoggy, Bool.false_eq_true, if_false, Act.pure_run,
    safe false]

/-! ### A change of the mode -/

/-- A change of the mode told: the AIR lamp, the hand-over and MODE_CHANGE. -/
def State.modeTold (m : Mode) (h : Handover) (s : State) : State :=
  ((s.setMode m).handOver { h with mode := some m }).raiseRecord .modeChange (.mode m)

/-- A change of the mode, told and with its targets. -/
def State.modeChanged (m : Mode) (h : Handover) (s : State) : State := (s.modeTold m h).targetsHanded (s.dueTargets m)

section
variable (m : Mode) (h : Handover) (s : State)

/-- The state before the raise of MODE_CHANGE. -/
theorem handOver_setMode : (s.setMode m).handOver { h with mode := some m } =
    (s.setMode m).onTimer fun t => { t with handovers := t.handovers ++ [{ h with mode := some m }] } := rfl

theorem modeTold_ctrl : (s.modeTold m h).ctrl = { s.ctrl with mode := m } := by
  rw [State.modeTold, State.raiseRecord_ctrl, handOver_setMode]
  rfl

theorem modeTold_timer : (s.modeTold m h).timer =
    { s.timer with handovers := s.timer.handovers ++ [{ h with mode := some m }] } := by
  rw [State.modeTold, State.raiseRecord_timer, handOver_setMode]
  rfl

theorem modeTold_cmd : (s.modeTold m h).cmd = s.cmd := by
  rw [State.modeTold, State.raiseRecord_cmd, handOver_setMode]
  rfl

theorem modeTold_rest :
    { s.modeTold m h with ctrl := s.ctrl, timer := s.timer, notice := s.notice, port := s.port } = s := by
  have rest := raiseRecord_rest .modeChange (.mode m) ((s.setMode m).handOver { h with mode := some m })
  exact congrArg (fun x : State => { x with ctrl := s.ctrl, timer := s.timer, notice := s.notice, port := s.port }) rest

theorem modeTold_tables : (s.modeTold m h).tables = s.tables := by
  have rest := modeTold_rest m h s
  have ctrl := modeTold_ctrl m h s
  have timer := modeTold_timer m h s
  generalize s.modeTold m h = t at rest ctrl timer
  have back : t = { s with ctrl := t.ctrl, timer := t.timer, notice := t.notice, port := t.port } :=
    congrArg (fun x : State => { x with ctrl := t.ctrl, timer := t.timer, notice := t.notice, port := t.port }) rest
  rw [back, ctrl, timer]
  rfl

/-- A raise speaks of the notice unit and the port alone. -/
theorem State.RaisedFrom.congr {s s' t t' : State} {k : NoticeKind} {d : Detail} {n : Nat} (h : s.RaisedFrom t k d n)
    (notice : s'.notice = s.notice) (port : s'.port = s.port) (notice' : t'.notice = t.notice)
    (port' : t'.port = t.port) : s'.RaisedFrom t' k d n := by
  obtain ⟨⟩ := s
  obtain ⟨⟩ := s'
  obtain ⟨⟩ := t
  obtain ⟨⟩ := t'
  dsimp only at notice port notice' port'
  subst notice port notice' port'
  exact h

theorem modeTold_raisedFrom : (s.airTurned m).RaisedFrom (s.modeTold m h) .modeChange (.mode m) 0 :=
  (raiseRecord_raisedFrom .modeChange (.mode m) ((s.setMode m).handOver { h with mode := some m })).congr rfl rfl rfl rfl

end

theorem changeMode_run {v : Event} (u : v.state.Undamaged) (m : Mode) (h : Handover) :
    changeMode m h v = .ok () ⟨v.state.modeChanged m h, v.owed⟩ := by
  have w : (v.state.modeTold m h).Undamaged := u.of_tables (modeTold_tables m h v.state)
  have due : (v.state.modeTold m h).dueTargets m = v.state.dueTargets m := by
    have rest := modeTold_rest m h v.state
    refine dueTargets_congr m ?_ ?_ ?_ (modeTold_cmd m h v.state) ?_
    · rw [modeTold_ctrl]
    · rw [modeTold_ctrl]
    · rw [modeTold_timer]
    · have params := congrArg (fun x : State => x.mgmt.params) rest
      exact params
  have mode : (v.state.modeTold m h).ctrl.mode = m := by rw [modeTold_ctrl]
  have compute := computeTargets_run (v := ⟨v.state.modeTold m h, v.owed⟩) w
  rw [mode, due] at compute
  simp only [changeMode, Act.bind_run, Act.upd_run]
  exact compute

/-- A mode settled on: kept, with its targets again where DIRTY_IN changed, or changed. -/
def State.settledOn (m : Mode) (h : Handover) (dirtyIn : Bool) (s : State) : State :=
  if m = s.ctrl.mode then
    if dirtyIn then (s.handOver h).targetsHanded (s.dueTargets m) else s.handOver h
  else s.modeChanged m h

theorem handOver_tables (h : Handover) (s : State) : (s.handOver h).tables = s.tables := by
  unfold State.handOver
  split <;> rfl

/-- What follows the choice. -/
theorem settledOn_run {v : Event} (u : v.state.Undamaged) (m : Mode) (h : Handover) (dirtyIn : Bool) :
    (if m = v.state.ctrl.mode then do
        upd (State.handOver h)
        onlyIf dirtyIn computeTargets
      else changeMode m h : Act Unit) v = .ok () ⟨v.state.settledOn m h dirtyIn, v.owed⟩ := by
  by_cases same : m = v.state.ctrl.mode
  · have w : (v.state.handOver h).Undamaged := u.of_tables (handOver_tables h v.state)
    have due : (v.state.handOver h).dueTargets m = v.state.dueTargets m := by
      refine dueTargets_congr _ (by simp) (by simp) ?_ (by simp) (by simp)
      rw [handOver_timer]
    have compute := computeTargets_run (v := ⟨v.state.handOver h, v.owed⟩) w
    have mode : (v.state.handOver h).ctrl.mode = m := by simp [same]
    rw [mode, due] at compute
    rw [if_pos same, State.settledOn, if_pos same, Act.bind_ok (Act.upd_run _ _)]
    cases dirtyIn
    · rfl
    · exact compute
  · rw [if_neg same, State.settledOn, if_neg same, changeMode_run u]

theorem settle_run {v : Event} (u : v.state.Undamaged) (choose : Bool) (h : Handover) (dirtyIn : Bool) :
    settle choose h dirtyIn v = .ok ()
      ⟨v.state.settledOn (if choose then v.state.chosenMode else v.state.ctrl.mode) h dirtyIn, v.owed⟩ := by
  rw [settle, Act.bind_ok (Act.look_run _ _)]
  cases choose
  · exact settledOn_run u ..
  · exact (Act.bind_ok (chooseMode_run u)).trans (settledOn_run u ..)

/-- The Controller told of a change of the operating state. -/
def State.opStateTold (s : State) : State :=
  (s.onCtrl fun c => { c with timerView := s.timer.view }).settledOn
    (s.onCtrl fun c => { c with timerView := s.timer.view }).chosenMode ⟨none, none, none, none⟩ false

theorem opStateChanged_run {v : Event} (u : v.state.Undamaged) :
    opStateChanged v = .ok () ⟨v.state.opStateTold, v.owed⟩ := by
  have w : (v.state.onCtrl fun c => { c with timerView := v.state.timer.view }).Undamaged := u.of_tables rfl
  rw [opStateChanged, Act.bind_ok (Act.upd_run _ _)]
  exact settle_run (v := ⟨v.state.onCtrl fun c => { c with timerView := v.state.timer.view }, v.owed⟩) w ..

/-- A change of the mode is the statements'. -/
theorem modeChanged_spec {s : State} (u : s.Undamaged) {m : Mode}
    (held : m = .manual → s.timer.overrideRecord.isSome = true) :
    s.ChangedMode (s.modeChanged m ⟨none, none, none, none⟩) m (s.targetsFor m s.ctrl.conditions.dirtyIn) := by
  have told := modeTold_timer m ⟨none, none, none, none⟩ s
  have w : (s.modeTold m ⟨none, none, none, none⟩).Undamaged := u.of_tables (modeTold_tables ..)
  refine ⟨?_, ?_, ?_, ?_⟩
  · exact congrArg Controller.mode (modeTold_ctrl m ⟨none, none, none, none⟩ s)
  · exact congrArg TimerUnit.handovers told
  · exact modeTold_raisedFrom m ⟨none, none, none, none⟩ s
  · rw [State.modeChanged, dueTargets_eq held]
    exact (targetsHanded_spec w _).congr (modeTold_cmd ..).symm rfl

end Sys2Proof.Machine
end

section
/-! SUPPORT. Requests that bring targets: WRITE_MODE, OVERRIDE, RESUME, and the purge's requests. -/
namespace Sys2Proof.Machine
open Sys2Proof

/-! ### WRITE_MODE -/

theorem ofCode_code (m : Mode) : Mode.ofCode m.code = some m := by cases m <;> rfl

/-- The record a code names. -/
theorem record_of_code {n : Nat} {m : Mode} {i : Fin 7} (code : n = m.code) (index : m.recordIndex = some i) :
    ((Mode.ofCode n).bind fun m => m.recordIndex.map fun i => (m, i)) = some (m, i) := by
  simp [code, ofCode_code, index]

theorem no_record_of_code {n : Nat} (h : 7 ≤ n) :
    ((Mode.ofCode n).bind fun m => m.recordIndex.map fun i => (m, i)) = none := by
  match n, h with
  | 7, _ => rfl
  | 8, _ => rfl
  | _ + 9, _ => rfl

theorem readFlag_good {b : Byte} (h : b.toNat ≤ 1) : readFlag b = some (b == 1) := by
  have : b = 0 ∨ b = 1 := by
    rcases Nat.le_one_iff_eq_zero_or_eq_one.1 h with e | e
    · exact .inl (BitVec.eq_of_toNat_eq e)
    · exact .inr (BitVec.eq_of_toNat_eq e)
  rcases this with rfl | rfl <;> rfl

theorem modeRecordOf_good {m : Mode} {flap blower carbon demist : Byte} (hc : carbon.toNat ≤ 1) (hd : demist.toNat ≤ 1)
    (range : m ≠ .manual → flap.toNat ≤ 100 ∧ blower.toNat ≤ 15) : modeRecordOf m flap blower carbon demist =
      some ⟨if m = .manual then 0 else flap.toNat, if m = .manual then 0 else blower.toNat, carbon == 1, demist == 1⟩ := by
  simp only [modeRecordOf, readFlag_good hc, readFlag_good hd]
  by_cases manual : m = .manual
  · simp only [manual, if_true]
  · obtain ⟨flap, blower⟩ := range manual
    simp [manual, flap, blower]

section
variable {v : Event} {mode flap blower carbon demist : Byte} {m : Mode} {i : Fin 7} {r : ModeRecord}
variable (code : mode.toNat = m.code) (index : m.recordIndex = some i)
variable (content : modeRecordOf m flap blower carbon demist = some r)
include code index content

theorem writeModeReply_other (other : v.state.ctrl.mode ≠ m) : writeModeReply mode flap blower carbon demist v =
    .ok (plain .done) ⟨v.state.writeRecord i r, v.owed⟩ := by
  have mode : (v.state.writeRecord i r).ctrl.mode = v.state.ctrl.mode := State.rewritten_mode ..
  have no : (v.state.ctrl.mode == m) = false := by simpa using other
  simp only [writeModeReply, record_of_code code index, content, Act.bind_run, Act.upd_run, Act.look_run, mode, no,
    onlyIf_false, Act.pure_run]

theorem writeModeReply_current (u : (v.state.writeRecord i r).Undamaged) (current : v.state.ctrl.mode = m) :
    writeModeReply mode flap blower carbon demist v = .ok (plain .done)
      ⟨(v.state.writeRecord i r).targetsHanded ((v.state.writeRecord i r).dueTargets m), v.owed⟩ := by
  have mode : (v.state.writeRecord i r).ctrl.mode = m := (State.rewritten_mode ..).trans current
  have yes : ((v.state.writeRecord i r).ctrl.mode == m) = true := by rw [mode, beq_self_eq_true]
  have compute := computeTargets_run (v := ⟨v.state.writeRecord i r, v.owed⟩) u
  rw [mode] at compute
  simp only [writeModeReply, record_of_code code index, content, Act.bind_run, Act.upd_run, Act.look_run, yes,
    onlyIf_true, compute, Act.pure_run]

end

/-- What a mode's targets are. -/
theorem targetsFor_congr {s t : State} (m : Mode) (dirtyIn : Bool) (ctrl : t.ctrl = s.ctrl) (timer : t.timer = s.timer)
    (mgmt : t.mgmt = s.mgmt) : t.targetsFor m dirtyIn = s.targetsFor m dirtyIn := by
  simp only [State.targetsFor, ctrl, timer, mgmt]

theorem writeRecord_eq {s : State} (u : s.Undamaged) (i : Fin 7) (r : ModeRecord) :
    s.writeRecord i r = s.onCtrl fun c => { c with records := c.records.set i ⟨r, []⟩ } :=
  rewritten_undamaged (s := s.onCtrl fun c => { c with records := c.records.set i ⟨r, []⟩ }) u.1 _

theorem writeRecord_undamaged {s : State} (u : s.Undamaged) (i : Fin 7) (r : ModeRecord) : (s.writeRecord i r).Undamaged := by
  rw [writeRecord_eq u]
  refine ⟨u.1, fun e => ?_⟩
  cases e with
  | modeRecord j =>
    simp only [State.flips, State.onCtrl_ctrl, Fin.getElem_fin, Vector.getElem_set]
    split
    · rfl
    · exact u.2 (.modeRecord j)
  | channelMap j => exact u.2 (.channelMap j)
  | slotSetup j => exact u.2 (.slotSetup j)
  | recovery j => exact u.2 (.recovery j)
  | actuator a => exact u.2 (.actuator a)
  | params => exact u.2 .params

/-- The targets of a written record. -/
theorem dueTargets_written {s : State} (u : s.Undamaged) {m : Mode} {i : Fin 7} (r : ModeRecord)
    (index : m.recordIndex = some i) (notManual : m ≠ .manual) : (s.writeRecord i r).dueTargets m =
      { r with blower := if m = .door then r.blower
                         else boosted r.blower s.mgmt.params.content.dirtyInBoost s.ctrl.conditions.dirtyIn } := by
  rw [writeRecord_eq u]
  simp only [State.dueTargets, index, notManual, if_false, State.onCtrl_ctrl, State.onCtrl_mgmt, Fin.getElem_fin,
    Vector.getElem_set_self]
  by_cases door : m = .door
  · simp only [door, if_true]
  · simp only [door, if_false]

/-- Settles O30: the record stored, and its targets where the mode is the current one. -/
theorem writeModeStoresTheRecord : Obligations.WriteModeStoresTheRecord := by
  intro s tag mode flap blower carbon demist m i ht inState
  refine ⟨fun out => ?_, fun code index hc hd range => ?_⟩
  · refine exec_gateway_quiet rfl rfl ht (config_or_run inState) ?_
    simp only [writeModeReply, no_record_of_code out]
    rfl
  · have content := modeRecordOf_good (m := m) hc hd range
    intro rec'
    let a := s.answeredPlain tag (codeByte 10 0) .done
    have port : (a.writeRecord i rec').port = a.port := (State.rewritten_port ..).trans rfl
    have current (h : s.ctrl.mode = m) (u : s.Undamaged) : exec (.writeMode (gateway tag) mode flap blower carbon demist) s =
        .next ((a.writeRecord i rec').targetsHanded ((a.writeRecord i rec').dueTargets m)) := by
      have w : a.Undamaged := u.of_tables rfl
      refine exec_gateway_done (t := (a.writeRecord i rec').targetsHanded ((a.writeRecord i rec').dueTargets m)) rfl rfl ht
        (config_or_run inState) (more := []) (owed := []) ?_ ?_
      · exact writeModeReply_current (v := ⟨a, []⟩) code index content (writeRecord_undamaged w i rec') h
      · rw [List.append_nil]
        exact congrArg PortUnit.rpq port
    have handed (u : s.Undamaged) : a.writeRecord i rec' = { s with
        ctrl := { s.ctrl with records := s.ctrl.records.set i ⟨rec', []⟩ }
        port := a.port
        park := a.park } := writeRecord_eq (s := a) (u.of_tables rfl) i rec'
    have targets (u : s.Undamaged) (held : m = .manual → s.timer.overrideRecord.isSome = true) :
        s.TargetsHanded ((a.writeRecord i rec').targetsHanded ((a.writeRecord i rec').dueTargets m))
          (({ s with ctrl := (a.writeRecord i rec').ctrl } : State).targetsFor m s.ctrl.conditions.dirtyIn) := by
      have w : (a.writeRecord i rec').Undamaged := writeRecord_undamaged (s := a) (u.of_tables rfl) i rec'
      have due : (a.writeRecord i rec').dueTargets m =
          ({ s with ctrl := (a.writeRecord i rec').ctrl } : State).targetsFor m s.ctrl.conditions.dirtyIn := by
        rw [dueTargets_eq (s := a.writeRecord i rec') (by rw [handed u]; exact held), handed u]
        exact targetsFor_congr m _ rfl rfl rfl
      rw [← due]
      exact (targetsHanded_spec w _).congr (by rw [handed u]) rfl
    refine ⟨fun other => ?_, fun same notManual u => ?_, fun same manual held u => ?_⟩
    · refine ⟨a.writeRecord i rec', exec_gateway_done (t := a.writeRecord i rec') rfl rfl ht (config_or_run inState)
        (more := []) (owed := []) ?_ ?_, ?_, ?_, ?_, ?_⟩
      · exact writeModeReply_other (v := ⟨a, []⟩) code index content other
      · rw [List.append_nil]
        exact congrArg PortUnit.rpq port
      · rw [State.writeRecord, rewritten_ctrl]
        rfl
      · rw [State.writeRecord, rewritten_integ]
        rfl
      · rw [State.writeRecord, rewritten_ctrl]
        rfl
      · exact congrArg (fun x : State => { x with ctrl := s.ctrl })
          (rewritten_rest (.modeRecord i) (a.onCtrl fun c => { c with records := c.records.set i (PowerOn.fresh rec') }))
    · refine ⟨_, current same u, ?_, fun x => ?_, ?_, ?_, ?_⟩
      · rw [handed u]
        rfl
      · rw [targetsHanded_target, dueTargets_written (s := a) (u.of_tables rfl) rec' index notManual]
        rfl
      · exact targets u fun manual => absurd manual notManual
      · rw [targetsHanded_completion, handed u]
      · rw [handed u]
        rfl
    · subst manual
      refine ⟨_, current same u, ?_, targets u fun _ => held, ?_, ?_⟩
      · rw [handed u]
        rfl
      · rw [targetsHanded_completion, handed u]
      · rw [handed u]
        rfl

end Sys2Proof.Machine
end

section
/-! SUPPORT. The purge's, the override's and RESUME's requests. -/
namespace Sys2Proof.Machine
open Sys2Proof

/-! ### PURGE_START and PURGE_STOP -/

section
variable {v : Event} (u : v.state.Undamaged)
include u

theorem purgeStartReply_refused (h : v.state.timer.heldMode = .safe ∨ v.state.mgmt.params.content.enablesPurge = false) :
    purgeStartReply v = .ok (plain .refusedState) v := by
  rw [purgeStartReply, Act.bind_ok (Act.look_run _ _)]
  cases safe : v.state.timer.heldMode == .safe
  · have disabled : v.state.mgmt.params.content.enablesPurge = false :=
      h.resolve_left fun e => by rw [e] at safe; cases safe
    simp only [Bool.false_eq_true, if_false, Act.bind_run, readParams_undamaged u, Act.look_run, disabled, Bool.not_false,
      if_true, Act.pure_run]
  · rfl

variable (notSafe : v.state.timer.heldMode ≠ .safe) (enabled : v.state.mgmt.params.content.enablesPurge = true)
include notSafe enabled

theorem purgeStartReply_door (isOpen : v.state.timer.doorOpen = true) :
    purgeStartReply v = .ok (plain .refusedDoor) v := by
  have safe : (v.state.timer.heldMode == .safe) = false := by simpa using notSafe
  simp only [purgeStartReply, Act.bind_run, Act.look_run, safe, Bool.false_eq_true, if_false, readParams_undamaged u,
    enabled, Bool.not_true, isOpen, if_true, Act.pure_run]

theorem purgeStartReply_starts (closed : v.state.timer.doorOpen = false) : purgeStartReply v =
    .ok (plain .done) ⟨if v.state.timer.purge = none then
      (v.state.onTimer fun t => { t with
        purge := some (v.state.mgmt.params.content.purgeLength * 1000) }).reportTimers else v.state, v.owed⟩ := by
  have safe : (v.state.timer.heldMode == .safe) = false := by simpa using notSafe
  simp only [purgeStartReply, Act.bind_run, Act.look_run, safe, Bool.false_eq_true, if_false, readParams_undamaged u,
    enabled, Bool.not_true, closed]
  cases v.state.timer.purge <;> rfl

end

theorem purgeStopReply_run {v : Event} (u : v.state.Undamaged) : purgeStopReply v =
    .ok (plain .done) ⟨if v.state.timer.purge = none then v.state
      else (v.state.onTimer fun t => { t with
        purge := none, gap := some (v.state.mgmt.params.content.purgeGap * 1000) }).reportTimers, v.owed⟩ := by
  simp only [purgeStopReply, Act.bind_run, Act.look_run]
  cases v.state.timer.purge
  · rfl
  · simp only [Option.isSome_some, onlyIf_true, Act.bind_run, readParams_undamaged u]
    rfl

/-- Settles O37: PURGE_START by its refusals, and PURGE_STOP. -/
theorem purgeRequestsStartAndStopThePurge : Obligations.PurgeRequestsStartAndStopThePurge := by
  intro s tag ht run u
  have w (code : Byte) : (s.answeredPlain tag code .done).Undamaged := u.of_tables rfl
  refine ⟨fun refused => ?_, fun notSafe enabled isOpen => ?_, fun notSafe enabled closed => ?_, ?_⟩
  · exact exec_gateway_quiet rfl rfl ht (in_run run)
      (by exact purgeStartReply_refused (v := ⟨s.answeredPlain tag (codeByte 19 0) .done, []⟩) (w _) refused)
  · exact exec_gateway_quiet rfl rfl ht (in_run run)
      (by exact purgeStartReply_door (v := ⟨s.answeredPlain tag (codeByte 19 0) .done, []⟩) (w _) notSafe enabled isOpen)
  · have reply := purgeStartReply_starts (v := ⟨s.answeredPlain tag (codeByte 19 0) .done, []⟩) (w _) notSafe enabled closed
    by_cases none : s.timer.purge = none
    · rw [if_pos none]
      exact exec_gateway_done rfl rfl ht (in_run run) (more := []) (owed := [])
        (by exact reply.trans (congrArg (fun x => EStateM.Result.ok _ (Event.mk x [])) (if_pos none)))
        (List.append_nil _).symm
    · rw [if_neg none]
      exact exec_gateway_done rfl rfl ht (in_run run) (more := []) (owed := [])
        (by exact reply.trans (congrArg (fun x => EStateM.Result.ok _ (Event.mk x [])) (if_neg none)))
        (List.append_nil _).symm
  · have reply := purgeStopReply_run (v := ⟨s.answeredPlain tag (codeByte 20 0) .done, []⟩) (w _)
    by_cases none : s.timer.purge = none
    · rw [if_pos none]
      exact exec_gateway_done rfl rfl ht (in_run run) (more := []) (owed := [])
        (by exact reply.trans (congrArg (fun x => EStateM.Result.ok _ (Event.mk x [])) (if_pos none)))
        (List.append_nil _).symm
    · rw [if_neg none]
      exact exec_gateway_done rfl rfl ht (in_run run) (more := []) (owed := [])
        (by exact reply.trans (congrArg (fun x => EStateM.Result.ok _ (Event.mk x [])) (if_neg none)))
        (List.append_nil _).symm

/-! ### OVERRIDE and CANCEL_OVERRIDE -/

section
variable {i : Instr} {src tag : Byte} {n : Nat} {part : Fin 4} {rule : PanelRule} {states : List OpState}
variable {own : OriginClass → Act Reply} {s t : State}

/-- A panel's request that answers DONE, behind whose reply further frames may stand. -/
theorem exec_panel_done (known : i.origin? = some (onDn src tag))
    (run : runRequest i = serve (onDn src tag) (codeByte n part) (afterChecks rule states own)) (ht : s.TakesDnRequest)
    (fitted : s.mgmt.params.content.panelNode ≠ 0) (node : src.toNat = s.mgmt.params.content.panelNode)
    (may : classCheck (some .panel) rule s.tally.tallies = none)
    (allowed : states.contains s.mgmt.opState = true) {owed : List (Fin 4)}
    (h : own .panel ⟨s.answeredDn src tag (codeByte n part) (plain .done), []⟩ = .ok (plain .done) ⟨t, owed⟩)
    {more : List Frame} (behind : t.port.ptq = (s.answeredDn src tag (codeByte n part) (plain .done)).port.ptq ++ more) :
    exec i s = .next (Event.settled ⟨t, owed⟩) := by
  rw [exec_panel known run ht fitted node may allowed h, setReply_same_dn (more := more)]
  refine behind.trans ?_
  simp only [State.answeredDn, State.onPort_port, List.append_assoc, List.singleton_append]

end

section
variable {flap blower : Byte} {duration : Word16} {origin : OriginClass}

theorem overrideOf_bad
    (h : 1 < flap.toNat ∨ 15 < blower.toNat ∨ duration.toNat < 30 ∨ 3600 < duration.toNat) :
    overrideOf flap blower duration origin = none := by
  have range (bad : 15 < blower.toNat ∨ duration.toNat < 30 ∨ 3600 < duration.toNat) :
      (decide (blower.toNat ≤ 15) && decide (30 ≤ duration.toNat) && decide (duration.toNat ≤ 3600)) = false := by
    simp only [Bool.and_eq_false_iff, decide_eq_false_iff_not]
    omega
  by_cases fresh : flap = 0
  · subst fresh
    exact if_neg (by rw [range (h.resolve_left (by decide))]; decide)
  · by_cases recirc : flap = 1
    · subst recirc
      exact if_neg (by rw [range (h.resolve_left (by decide))]; decide)
    · simp only [overrideOf, fresh, recirc, if_false]

theorem overrideOf_good {fc : FlapChoice} (choice : (flap = 0 ∧ fc = .fresh) ∨ (flap = 1 ∧ fc = .recirc))
    (hb : blower.toNat ≤ 15) (low : 30 ≤ duration.toNat) (high : duration.toNat ≤ 3600) :
    overrideOf flap blower duration origin = some ⟨fc, blower.toNat, duration.toNat, origin⟩ := by
  have range : (decide (blower.toNat ≤ 15) && decide (30 ≤ duration.toNat) && decide (duration.toNat ≤ 3600)) = true := by
    rw [decide_eq_true hb, decide_eq_true low, decide_eq_true high]
    rfl
  rcases choice with ⟨rfl, rfl⟩ | ⟨rfl, rfl⟩ <;> exact if_pos range

end

/-- An override that stands from the request on. -/
def State.overridden (r : OverrideRecord) (s : State) : State :=
  s.onTimer fun t => { t with overrideRecord := some r, overrideTimer := some (r.duration * 1000) }

section
variable {v : Event} {r : OverrideRecord}

theorem overrideReply_severe (fresh : r.flap = .fresh) (severe : v.state.timer.heldSevere = true) :
    overrideReply (some r) v = .ok (plain .refusedSevere) v := by
  have both : r.flap = .fresh ∧ v.state.timer.heldSevere = true := ⟨fresh, severe⟩
  simp only [overrideReply, Act.bind_run, Act.look_run]
  exact congrFun (if_pos both) v

/-- What OVERRIDE comes to once it is taken. -/
theorem overrideReply_taken (may : ¬(r.flap = .fresh ∧ v.state.timer.heldSevere = true)) : overrideReply (some r) v = (do
      onlyIf (v.state.ctrl.mode == .manual) computeTargets
      upd State.reportTimers
      pure (plain .done) : Act Reply) ⟨v.state.overridden r, v.owed⟩ := by
  rw [overrideReply, Act.bind_ok (Act.look_run _ _)]
  exact (congrFun (if_neg may) v).trans rfl

theorem overrideReply_set (may : ¬(r.flap = .fresh ∧ v.state.timer.heldSevere = true)) (mode : v.state.ctrl.mode ≠ .manual) :
    overrideReply (some r) v = .ok (plain .done) ⟨(v.state.overridden r).reportTimers, v.owed⟩ := by
  have notManual : (v.state.ctrl.mode == .manual) = false := by simpa using mode
  rw [overrideReply_taken may, notManual]
  rfl

theorem overrideReply_manual (u : v.state.Undamaged) (may : ¬(r.flap = .fresh ∧ v.state.timer.heldSevere = true))
    (mode : v.state.ctrl.mode = .manual) : overrideReply (some r) v = .ok (plain .done)
      ⟨((v.state.overridden r).targetsHanded ((v.state.overridden r).targetsFor .manual false)).reportTimers, v.owed⟩ := by
  have w : (v.state.overridden r).Undamaged := u.of_tables rfl
  have due : (v.state.overridden r).dueTargets .manual = (v.state.overridden r).targetsFor .manual false :=
    (dueTargets_eq (s := v.state.overridden r) fun _ => rfl).trans rfl
  have compute := computeTargets_run (v := ⟨v.state.overridden r, v.owed⟩) w
  have here : (v.state.overridden r).ctrl.mode = .manual := mode
  rw [here, due] at compute
  have on : (Mode.manual == Mode.manual) = true := rfl
  rw [overrideReply_taken may, mode, on, onlyIf_true, Act.bind_ok compute]
  rfl

theorem cancelOverrideReply_run (v : Event) : cancelOverrideReply v = .ok (plain .done)
    ⟨if v.state.timer.overrideTimer = none then v.state
      else (v.state.onTimer fun t => { t with overrideTimer := none, overrideRecord := none }).reportTimers, v.owed⟩ := by
  rw [cancelOverrideReply, Act.bind_ok (Act.look_run _ _)]
  cases v.state.timer.overrideTimer <;> rfl

end

theorem may_override {flap : Byte} {fc : FlapChoice} {s : State}
    (h : (flap = 0 ∧ fc = .fresh ∧ s.timer.heldSevere = false) ∨ (flap = 1 ∧ fc = .recirc)) :
    ((flap = 0 ∧ fc = .fresh) ∨ (flap = 1 ∧ fc = .recirc)) ∧ ¬(fc = .fresh ∧ s.timer.heldSevere = true) := by
  rcases h with ⟨flap, rfl, calm⟩ | ⟨flap, rfl⟩
  · exact ⟨.inl ⟨flap, rfl⟩, fun both => by rw [calm] at both; exact absurd both.2 (by decide)⟩
  · exact ⟨.inr ⟨flap, rfl⟩, fun both => by cases both.1⟩

/-- Settles O38: OVERRIDE and CANCEL_OVERRIDE of the gateway and of the panel, and OVERRIDE in MANUAL. -/
theorem overrideRequestsSetAndCancelTheOverride : Obligations.OverrideRequestsSetAndCancelTheOverride := by
  refine ⟨fun s tag flap blower duration ht run => ⟨fun bad => ?_, fun fresh hb low high severe => ?_,
    fun fc choice hb low high mode => ?_, ?_⟩,
    fun s src tag flap blower duration fc ht fitted node run choice hb low high mode => ?_,
    fun s o origin flap blower duration fc u run mode from_ choice hb low high => ?_,
    fun s src tag ht fitted node run => ?_⟩
  · exact exec_gateway_quiet rfl rfl ht (in_run run) (by rw [overrideOf_bad bad]; rfl)
  · exact exec_gateway_quiet rfl rfl ht (in_run run) (by
      rw [overrideOf_good (fc := .fresh) (.inl ⟨fresh, rfl⟩) hb low high]
      exact overrideReply_severe rfl severe)
  · obtain ⟨choice, may⟩ := may_override choice
    exact exec_gateway_done rfl rfl ht (in_run run) (more := []) (owed := []) (by
      rw [overrideOf_good choice hb low high]
      exact overrideReply_set (v := ⟨s.answeredPlain tag (codeByte 21 0) .done, []⟩) may mode) (List.append_nil _).symm
  · have reply := cancelOverrideReply_run ⟨s.answeredPlain tag (codeByte 22 0) .done, []⟩
    by_cases none : s.timer.overrideTimer = none
    · rw [if_pos none]
      exact exec_gateway_done rfl rfl ht (in_run run) (more := []) (owed := [])
        (by exact reply.trans (congrArg (fun x => EStateM.Result.ok _ (Event.mk x [])) (if_pos none)))
        (List.append_nil _).symm
    · rw [if_neg none]
      exact exec_gateway_done rfl rfl ht (in_run run) (more := []) (owed := [])
        (by exact reply.trans (congrArg (fun x => EStateM.Result.ok _ (Event.mk x [])) (if_neg none)))
        (List.append_nil _).symm
  · obtain ⟨choice, may⟩ := may_override choice
    exact exec_panel_done rfl rfl ht fitted node rfl (in_run run) (more := []) (owed := []) (by
      rw [overrideOf_good choice hb low high]
      exact overrideReply_set (v := ⟨s.answeredDn src tag (codeByte 21 0) (plain .done), []⟩) may mode)
      (List.append_nil _).symm
  · obtain ⟨choice, may⟩ := may_override choice
    rcases from_ with ⟨ht, ho, rfl⟩ | ⟨ht, ho, rfl, fitted, node⟩
    · obtain ⟨tag, rfl⟩ : ∃ tag, o = gateway tag := ⟨_, ho⟩
      let a := s.answeredPlain tag (codeByte 21 0) .done
      let b := a.overridden ⟨fc, blower.toNat, duration.toNat, .gateway⟩
      have w : b.Undamaged := u.of_tables rfl
      refine ⟨(b.targetsHanded (b.targetsFor .manual false)).reportTimers,
        exec_gateway_done rfl rfl ht (in_run run) (more := []) (owed := []) ?_ (List.append_nil _).symm,
        (targetsHanded_spec w _).congr rfl rfl, targetsHanded_completion (b.targetsFor .manual false) b, rfl⟩
      rw [overrideOf_good choice hb low high]
      exact overrideReply_manual (v := ⟨a, []⟩) (u.of_tables rfl) may mode
    · obtain ⟨src, tag, rfl⟩ : ∃ src tag, o = onDn src tag := ⟨_, _, ho⟩
      let a := s.answeredDn src tag (codeByte 21 0) (plain .done)
      let b := a.overridden ⟨fc, blower.toNat, duration.toNat, .panel⟩
      have w : b.Undamaged := u.of_tables rfl
      refine ⟨(b.targetsHanded (b.targetsFor .manual false)).reportTimers,
        exec_panel_done rfl rfl ht fitted node rfl (in_run run) (more := []) (owed := []) ?_ (List.append_nil _).symm,
        (targetsHanded_spec w _).congr rfl rfl, targetsHanded_completion (b.targetsFor .manual false) b, rfl⟩
      rw [overrideOf_good choice hb low high]
      exact overrideReply_manual (v := ⟨a, []⟩) (u.of_tables rfl) may mode
  · have reply := cancelOverrideReply_run ⟨s.answeredDn src tag (codeByte 22 0) (plain .done), []⟩
    by_cases none : s.timer.overrideTimer = none
    · rw [if_pos none]
      exact exec_panel_done rfl rfl ht fitted node rfl (in_run run) (more := []) (owed := [])
        (by exact reply.trans (congrArg (fun x => EStateM.Result.ok _ (Event.mk x [])) (if_pos none)))
        (List.append_nil _).symm
    · rw [if_neg none]
      exact exec_panel_done rfl rfl ht fitted node rfl (in_run run) (more := []) (owed := [])
        (by exact reply.trans (congrArg (fun x => EStateM.Result.ok _ (Event.mk x [])) (if_neg none)))
        (List.append_nil _).symm

end Sys2Proof.Machine
end

section
/-! SUPPORT. RESUME. -/
namespace Sys2Proof.Machine
open Sys2Proof

/-- Whether the target held is not the position reported. -/
def Delivery.offTarget (d : Delivery) : Bool :=
  match d.target, d.reported with
  | none, _ => false
  | some _, none => true
  | some v, some r => r.position != v

/-- A delivery resumed. -/
def Delivery.resumed (sends : Bool) (d : Delivery) : Delivery :=
  if sends && d.offTarget then { d with pendingValue := d.target } else d

/-- The Command Engine once an actuator is resumed, `fits` saying whether it is fitted. -/
def CommandEngine.resumed (fits : Bool) (a : Actuator) (c : CommandEngine) : CommandEngine :=
  if fits && (c.delivery.get a).offTarget then c.queueValue a ((c.delivery.get a).target.getD 0) else c

theorem getD_of_offTarget {d : Delivery} (h : d.offTarget = true) : some (d.target.getD 0) = d.target := by
  unfold Delivery.offTarget at h
  cases target : d.target with
  | none => rw [target] at h; cases h
  | some v => rfl

theorem resumed_get (fits : Bool) (a b : Actuator) (c : CommandEngine) : (c.resumed fits a).delivery.get b =
    if b = a then (c.delivery.get a).resumed fits else c.delivery.get b := by
  unfold CommandEngine.resumed Delivery.resumed
  by_cases sends : (fits && (c.delivery.get a).offTarget) = true
  · rw [if_pos sends, if_pos sends, queueValue_get, getD_of_offTarget (Bool.and_eq_true_iff.1 sends).2]
  · rw [if_neg sends, if_neg sends]
    split
    next e => rw [e]
    next => rfl

theorem resumed_cmq (fits : Bool) (a : Actuator) (c : CommandEngine) : (c.resumed fits a).cmq = c.cmq ++
    if fits && (c.delivery.get a).offTarget && (c.delivery.get a).pendingValue.isNone then [a] else [] := by
  unfold CommandEngine.resumed
  cases sends : fits && (c.delivery.get a).offTarget
  · exact (List.append_nil _).symm
  · simp only [if_true, CommandEngine.queueValue, Bool.true_and]
    cases (c.delivery.get a).pendingValue
    · rfl
    · exact (List.append_nil _).symm

theorem resumed_rest (fits : Bool) (a : Actuator) (c : CommandEngine) :
    { c.resumed fits a with delivery := c.delivery, cmq := c.cmq } = c := by
  unfold CommandEngine.resumed
  split <;> rfl

/-- The Command Engine once a list of actuators is resumed. -/
def CommandEngine.resumedAll (fits : Actuator → Bool) (l : List Actuator) (c : CommandEngine) : CommandEngine :=
  l.foldl (fun c a => c.resumed (fits a) a) c

section
variable (fits : Actuator → Bool)

theorem resumedAll_rest (l : List Actuator) (c : CommandEngine) :
    { c.resumedAll fits l with delivery := c.delivery, cmq := c.cmq } = c := by
  induction l generalizing c with
  | nil => rfl
  | cons a as ih =>
    refine (congrArg (fun d : CommandEngine => { d with delivery := c.delivery, cmq := c.cmq })
      (ih (c.resumed (fits a) a))).trans ?_
    exact resumed_rest (fits a) a c

theorem resumedAll_get {l : List Actuator} (once : l.Nodup) (c : CommandEngine) (b : Actuator) :
    (c.resumedAll fits l).delivery.get b =
      if b ∈ l then (c.delivery.get b).resumed (fits b) else c.delivery.get b := by
  induction l generalizing c with
  | nil => rfl
  | cons a as ih =>
    obtain ⟨fresh, once⟩ := List.nodup_cons.1 once
    refine (ih once _).trans ?_
    rw [resumed_get]
    by_cases e : b = a
    · subst e
      simp [fresh]
    · simp [e]

theorem resumedAll_cmq {l : List Actuator} (once : l.Nodup) (c : CommandEngine) :
    (c.resumedAll fits l).cmq = c.cmq ++ l.filter fun a =>
      fits a && (c.delivery.get a).offTarget && (c.delivery.get a).pendingValue.isNone := by
  induction l generalizing c with
  | nil => exact (List.append_nil _).symm
  | cons a as ih =>
    obtain ⟨fresh, once⟩ := List.nodup_cons.1 once
    refine (ih once _).trans ?_
    have same : (as.filter fun b => fits b && ((c.resumed (fits a) a).delivery.get b).offTarget &&
        ((c.resumed (fits a) a).delivery.get b).pendingValue.isNone) =
        as.filter fun b => fits b && (c.delivery.get b).offTarget && (c.delivery.get b).pendingValue.isNone := by
      refine List.filter_congr fun b hb => ?_
      have other : b ≠ a := fun e => fresh (e ▸ hb)
      rw [resumed_get, if_neg other]
    rw [same, resumed_cmq, List.append_assoc, List.filter_cons]
    split <;> rfl

end

theorem resumeActuator_run {v : Event} (u : v.state.Undamaged) (a : Actuator) :
    resumeActuator a v = .ok () ⟨v.state.onCmd (·.resumed (v.state.fits a) a), v.owed⟩ := by
  have same {c : CommandEngine} (h : v.state.cmd.resumed (v.state.fits a) a = c) :
      v.state.onCmd (·.resumed (v.state.fits a) a) = v.state.onCmd fun _ => c :=
    congrArg (fun c => { v.state with cmd := c }) h
  simp only [resumeActuator, Act.bind_run, readActuator_known (u.known _), Act.look_run]
  cases target : (v.state.cmd.delivery.get a).target with
  | none =>
    have off : (v.state.cmd.delivery.get a).offTarget = false := by simp only [Delivery.offTarget, target]
    rw [same (c := v.state.cmd) (by rw [CommandEngine.resumed, off, Bool.and_false]; rfl)]
    rfl
  | some x =>
    have off : (v.state.cmd.delivery.get a).offTarget =
        (match (v.state.cmd.delivery.get a).reported with
          | some r => r.position != x
          | none => true) := by
      simp only [Delivery.offTarget, target]
      cases (v.state.cmd.delivery.get a).reported <;> rfl
    have resumed : v.state.cmd.resumed (v.state.fits a) a =
        if v.state.fits a && (v.state.cmd.delivery.get a).offTarget then v.state.cmd.queueValue a x else v.state.cmd := by
      rw [CommandEngine.resumed, target]
      rfl
    rw [same resumed, off]
    refine (onlyIf_upd_run ..).trans (congrArg (fun s => EStateM.Result.ok () (Event.mk s v.owed)) ?_)
    have either (b : Bool) (c : CommandEngine) : (if b then v.state.onCmd (fun _ => c) else v.state) =
        v.state.onCmd fun _ => if b then c else v.state.cmd := by cases b <;> rfl
    exact either _ _

theorem forAll_resumeActuator_run {v : Event} (u : v.state.Undamaged) (l : List Actuator) :
    forAll l resumeActuator v = .ok () ⟨v.state.onCmd (·.resumedAll v.state.fits l), v.owed⟩ := by
  induction l generalizing v with
  | nil => rfl
  | cons a as ih =>
    have entries : (v.state.cmd.resumed (v.state.fits a) a).entries = v.state.cmd.entries := by
      have rest := congrArg CommandEngine.entries (resumed_rest (v.state.fits a) a v.state.cmd)
      exact rest
    have tables := onCmd_tables (s := v.state) (f := (·.resumed (v.state.fits a) a)) entries
    rw [forAll, Act.bind_ok (resumeActuator_run u a), ih (u.of_tables tables)]
    simp only [fits_of_tables tables]
    rfl

/-- The state once RESUME has let the queue go on. -/
def State.resumed (s : State) : State :=
  (s.onCmd fun c => { c with halted := false }).onCmd (·.resumedAll s.fits Actuator.all)

theorem resumeReply_halted {v : Event} (u : v.state.Undamaged) (halted : v.state.cmd.halted = true) :
    resumeReply v = .ok (plain .done) ⟨v.state.resumed, v.owed⟩ := by
  have w : (v.state.onCmd fun c => { c with halted := false }).Undamaged := u.of_tables rfl
  have all := forAll_resumeActuator_run (v := ⟨v.state.onCmd fun c => { c with halted := false }, v.owed⟩) w Actuator.all
  have fits : (v.state.onCmd fun c => { c with halted := false }).fits = v.state.fits := fits_of_tables rfl
  rw [fits] at all
  simp only [resumeReply, resumeDelivery, Act.bind_run, Act.look_run, halted, onlyIf_true, Act.upd_run, all, Act.pure_run]
  rfl

theorem resumeReply_free {v : Event} (free : v.state.cmd.halted = false) : resumeReply v = .ok (plain .done) v := by
  simp only [resumeReply, resumeDelivery, Act.bind_run, Act.look_run, free, onlyIf_false, Act.pure_run]

/-- Settles O39: nothing with the queue free; else the actuators off target, in index order. -/
theorem resumeQueuesTheActuatorsOffTarget : Obligations.ResumeQueuesTheActuatorsOffTarget := by
  intro s tag ht inState u off
  have w : (s.answeredPlain tag (codeByte 30 0) .done).Undamaged := u.of_tables rfl
  have fits : (s.answeredPlain tag (codeByte 30 0) .done).fits = s.fits := fits_of_tables rfl
  have off_eq (a : Actuator) : off a = (s.fits a && (s.cmd.delivery.get a).offTarget) := by
    rw [fits_undamaged u]
    rfl
  refine ⟨fun free => ?_, fun halted empty none => ?_⟩
  · exact exec_gateway_quiet rfl rfl ht (config_or_run inState)
      (by exact resumeReply_free (v := ⟨s.answeredPlain tag (codeByte 30 0) .done, []⟩) free)
  · let a := s.answeredPlain tag (codeByte 30 0) .done
    have run : exec (.resume (gateway tag)) s = .next a.resumed :=
      exec_gateway_done rfl rfl ht (config_or_run inState) (more := []) (owed := [])
        (by exact resumeReply_halted (v := ⟨a, []⟩) w halted) (List.append_nil _).symm
    have cmd : a.resumed.cmd = ({ s.cmd with halted := false } : CommandEngine).resumedAll s.fits Actuator.all := by
      rw [← fits]
      rfl
    have rest := resumedAll_rest s.fits Actuator.all ({ s.cmd with halted := false } : CommandEngine)
    refine ⟨a.resumed, run, ?_, ?_, fun b => ?_, ?_⟩
    · rw [cmd]
      exact congrArg CommandEngine.halted rest
    · rw [cmd, resumedAll_cmq s.fits (by decide)]
      refine (congrArg (· ++ _) empty).trans (List.filter_congr fun b _ => ?_)
      have free : (s.cmd.delivery.get b).pendingValue.isNone = true := by rw [none]; rfl
      rw [off_eq]
      exact (congrArg (_ && ·) free).trans (Bool.and_true _)
    · rw [cmd, resumedAll_get s.fits (by decide), if_pos (by cases b <;> decide), off_eq, Delivery.resumed]
      have same : { s.cmd.delivery.get b with pendingValue := Option.none } = s.cmd.delivery.get b := by
        rw [← none b]
      cases s.fits b && (s.cmd.delivery.get b).offTarget
      · exact same.symm
      · rfl
    · have back : { a.resumed.cmd with halted := true, cmq := [], delivery := s.cmd.delivery } = s.cmd := by
        rw [cmd, ← halted, ← empty]
        exact congrArg (fun c : CommandEngine => { c with halted := s.cmd.halted }) rest
      exact congrArg (fun c => ({ a with cmd := c } : State)) back

end Sys2Proof.Machine
end

section
/-! SUPPORT. A report taken by the Controller, without damage. -/
namespace Sys2Proof.Machine
open Sys2Proof

/-! ### What the Controller is told -/

/-- Whether a report has CLOGGED become true. -/
def State.clogs (s : State) : Bool :=
  (deriveConditions s.ctrl.bindings s.ctrl.slotViews).clogged && !s.ctrl.conditions.clogged

/-- The state once a report is absorbed: told, derived again, and the causes after it. -/
def State.absorbed (r : Report) (s : State) : State :=
  (s.onCtrl (·.told r)).deriveAgain.onCtrl fun c =>
    { c with causes := deriveCauses s.mgmt.params.content.criticalRoles c }

theorem told_bindings (c : Controller) (r : Report) : (c.told r).bindings = c.bindings := by cases r <;> rfl

theorem told_conditions (c : Controller) (r : Report) : (c.told r).conditions = c.conditions := by cases r <;> rfl

theorem told_causes (c : Controller) (r : Report) : (c.told r).causes = c.causes := by cases r <;> rfl

theorem told_records (c : Controller) (r : Report) : (c.told r).records = c.records := by cases r <;> rfl

theorem told_mode (c : Controller) (r : Report) : (c.told r).mode = c.mode := by cases r <;> rfl

theorem deriveAgain_ctrl (s : State) : s.deriveAgain.ctrl =
    { s.ctrl with conditions := deriveConditions s.ctrl.bindings s.ctrl.slotViews } := by
  unfold State.deriveAgain
  dsimp only
  split
  · split
    · exact State.raiseRecord_ctrl ..
    · rfl
  · rfl

/-- The derivation raises FILTER_CLOGGED where CLOGGED becomes true for a bound slot, and does no more elsewhere. -/
theorem deriveAgain_clogs {s : State} {i : Fin 32} (bound : s.ctrl.bindings.filterDp = some i) (h : s.clogs = true) :
    s.deriveAgain = (s.onCtrl fun c =>
      { c with conditions := deriveConditions c.bindings c.slotViews }).raiseRecord .filterClogged (.slot i) := by
  simp only [State.deriveAgain, State.onCtrl_ctrl, bound]
  exact if_pos h

theorem deriveAgain_calm {s : State} (h : s.clogs = false) : s.deriveAgain = s.onCtrl fun c =>
    { c with conditions := deriveConditions c.bindings c.slotViews } := by
  unfold State.deriveAgain
  dsimp only
  split
  · exact if_neg (Bool.eq_false_iff.1 h)
  · rfl

theorem deriveAgain_rest (s : State) :
    { s.deriveAgain with ctrl := s.ctrl, notice := s.notice, port := s.port } = s := by
  unfold State.deriveAgain
  dsimp only
  split
  next i _ =>
    split
    · exact congrArg (fun x : State => { x with ctrl := s.ctrl, notice := s.notice, port := s.port })
        (raiseRecord_rest .filterClogged (.slot i) (s.onCtrl fun c =>
          { c with conditions := deriveConditions s.ctrl.bindings s.ctrl.slotViews }))
    · rfl
  next => rfl

theorem absorbed_ctrl (r : Report) (s : State) : (s.absorbed r).ctrl = { s.ctrl.told r with
    conditions := deriveConditions s.ctrl.bindings (s.ctrl.told r).slotViews
    causes := deriveCauses s.mgmt.params.content.criticalRoles (s.ctrl.told r) } := by
  rw [State.absorbed, State.onCtrl_ctrl, deriveAgain_ctrl, State.onCtrl_ctrl, ← told_bindings s.ctrl r]
  rfl

theorem absorbed_rest (r : Report) (s : State) :
    { s.absorbed r with ctrl := s.ctrl, notice := s.notice, port := s.port } = s :=
  congrArg (fun x : State => { x with ctrl := s.ctrl }) (deriveAgain_rest (s.onCtrl (·.told r)))

theorem deriveAgain_tables (s : State) : s.deriveAgain.tables = s.tables := by
  have rest := deriveAgain_rest s
  have ctrl := deriveAgain_ctrl s
  generalize s.deriveAgain = t at rest ctrl
  have back : t = { s with ctrl := t.ctrl, notice := t.notice, port := t.port } :=
    congrArg (fun x : State => { x with ctrl := t.ctrl, notice := t.notice, port := t.port }) rest
  rw [back, ctrl]
  rfl

theorem told_tables (r : Report) (s : State) : (s.onCtrl (·.told r)).tables = s.tables := by
  simp only [State.tables, State.onCtrl, told_records]

theorem absorbed_tables (r : Report) (s : State) : (s.absorbed r).tables = s.tables :=
  ((deriveAgain_tables (s.onCtrl (·.told r))).trans (told_tables r s)).symm ▸ rfl

/-- What a report brings for the mode. -/
def State.changesBy (r : Report) (s : State) : Changes :=
  let c := (s.absorbed r).ctrl
  ⟨conditionChanges s.ctrl.conditions c.conditions,
    s.ctrl.conditions != c.conditions || s.ctrl.causes != c.causes, s.ctrl.conditions.dirtyIn != c.conditions.dirtyIn⟩

theorem absorb_run {v : Event} (u : v.state.Undamaged) (r : Report) :
    absorb r v = .ok (v.state.changesBy r) ⟨v.state.absorbed r, v.owed⟩ := by
  have w : (v.state.onCtrl (·.told r)).deriveAgain.Undamaged :=
    u.of_tables ((deriveAgain_tables _).trans (told_tables r v.state))
  have read := readParams_undamaged (v := ⟨(v.state.onCtrl (·.told r)).deriveAgain, v.owed⟩) w
  have params : (v.state.onCtrl (·.told r)).deriveAgain.mgmt.params = v.state.mgmt.params :=
    congrArg (·.2.2.2.2.2.2) ((deriveAgain_tables _).trans (told_tables r v.state))
  rw [params] at read
  simp only [absorb, causesAgain, Act.bind_run, Act.look_run, Act.upd_run, read, Act.pure_run]
  rfl

/-- The state once a report is taken. -/
def State.reportTaken (r : Report) (s : State) : State :=
  let t := s.absorbed r
  let ch := s.changesBy r
  t.settledOn (if ch.changed || r.source == .timerUnit then t.chosenMode else t.ctrl.mode) ch.handover ch.dirtyIn

theorem takeReport_run {v : Event} (u : v.state.Undamaged) (r : Report) :
    takeReport r v = .ok () ⟨v.state.reportTaken r, v.owed⟩ := by
  have w : (v.state.absorbed r).Undamaged := u.of_tables (absorbed_tables r v.state)
  rw [takeReport, Act.bind_ok (absorb_run u r)]
  exact settle_run (v := ⟨v.state.absorbed r, v.owed⟩) w ..

end Sys2Proof.Machine
end

section
/-! SUPPORT. What a report taken leaves, field by field, and the Controller's tables. -/
namespace Sys2Proof.Machine
open Sys2Proof

/-! ### A mode settled on -/

theorem isEmpty_iff (h : Handover) : h.isEmpty = true ↔ h = ⟨none, none, none, none⟩ := by
  obtain ⟨m, a, b, c⟩ := h
  simp [Handover.isEmpty, and_assoc]

theorem handOver_handovers (h : Handover) (s : State) : (s.handOver h).timer =
    { s.timer with handovers := s.timer.handovers ++ if h = ⟨none, none, none, none⟩ then [] else [h] } := by
  unfold State.handOver
  by_cases empty : h = ⟨none, none, none, none⟩
  · rw [if_pos ((isEmpty_iff h).2 empty), if_pos empty, List.append_nil]
  · rw [if_neg (mt (isEmpty_iff h).1 empty), if_neg empty]
    rfl

theorem handOver_rest (h : Handover) (s : State) : { s.handOver h with timer := s.timer } = s := by
  unfold State.handOver
  split <;> rfl

section
variable (m : Mode) (h : Handover) (dirtyIn : Bool) (s : State)

theorem settledOn_ctrl : (s.settledOn m h dirtyIn).ctrl = { s.ctrl with mode := m } := by
  unfold State.settledOn
  by_cases same : m = s.ctrl.mode
  · have ctrl : (s.handOver h).ctrl = { s.ctrl with mode := m } := by
      rw [State.handOver_ctrl, same]
    rw [if_pos same]
    split
    · exact ctrl
    · exact ctrl
  · rw [if_neg same]
    exact modeTold_ctrl m h s

theorem settledOn_timer : (s.settledOn m h dirtyIn).timer = { s.timer with handovers := s.timer.handovers ++
    (if m ≠ s.ctrl.mode then [{ h with mode := some m }]
      else if h = ⟨none, none, none, none⟩ then [] else [h]) } := by
  unfold State.settledOn
  by_cases same : m = s.ctrl.mode
  · rw [if_pos same, if_neg (not_not.2 same)]
    split
    · exact handOver_handovers h s
    · exact handOver_handovers h s
  · rw [if_neg same, if_pos same]
    exact modeTold_timer m h s

theorem settledOn_rest : { s.settledOn m h dirtyIn with
    ctrl := s.ctrl, timer := s.timer, cmd := s.cmd, notice := s.notice, port := s.port } = s := by
  unfold State.settledOn
  split
  · have kept : { s.handOver h with
        ctrl := s.ctrl, timer := s.timer, cmd := s.cmd, notice := s.notice, port := s.port } = s :=
      congrArg (fun x : State => { x with
        ctrl := s.ctrl, cmd := s.cmd, notice := s.notice, port := s.port }) (handOver_rest h s)
    split
    · exact kept
    · exact kept
  · exact congrArg (fun x : State => { x with cmd := s.cmd }) (modeTold_rest m h s)

theorem settledOn_completion : (s.settledOn m h dirtyIn).cmd.completion = s.cmd.completion := by
  unfold State.settledOn
  split
  · split
    · rw [targetsHanded_completion, State.handOver_cmd]
    · rw [State.handOver_cmd]
  · rw [State.modeChanged, targetsHanded_completion, modeTold_cmd]

variable {m h dirtyIn s}

theorem settledOn_kept (same : m = s.ctrl.mode) :
    (s.settledOn m h dirtyIn).notice = s.notice ∧ (s.settledOn m h dirtyIn).port = s.port := by
  rw [State.settledOn, if_pos same]
  split
  · exact ⟨State.handOver_notice .., State.handOver_port ..⟩
  · exact ⟨State.handOver_notice .., State.handOver_port ..⟩

theorem settledOn_raised (new : m ≠ s.ctrl.mode) :
    (s.airTurned m).RaisedFrom (s.settledOn m h dirtyIn) .modeChange (.mode m) 0 := by
  rw [State.settledOn, if_neg new]
  exact (modeTold_raisedFrom m h s).congr rfl rfl rfl rfl

theorem settledOn_cmd_kept (same : m = s.ctrl.mode) (dry : dirtyIn = false) :
    (s.settledOn m h dirtyIn).cmd = s.cmd := by
  rw [State.settledOn, if_pos same, dry]
  exact State.handOver_cmd ..

/-- The targets of a mode settled on, where they are handed over. -/
theorem settledOn_targets (u : s.Undamaged) (due : m ≠ s.ctrl.mode ∨ dirtyIn = true) :
    s.TargetsHanded (s.settledOn m h dirtyIn) (s.dueTargets m) := by
  by_cases same : m = s.ctrl.mode
  · have w : (s.handOver h).Undamaged := u.of_tables (handOver_tables h s)
    rw [State.settledOn, if_pos same, if_pos (due.resolve_left (not_not.2 same))]
    exact (targetsHanded_spec w _).congr (State.handOver_cmd ..).symm rfl
  · have w : (s.modeTold m h).Undamaged := u.of_tables (modeTold_tables m h s)
    rw [State.settledOn, if_neg same]
    exact (targetsHanded_spec w _).congr (modeTold_cmd ..).symm rfl

end

/-- The targets that are handed over are held from then on. -/
theorem State.TargetsHanded.target {s t : State} {r : ModeRecord} (h : s.TargetsHanded t r) (a : Actuator) :
    (t.cmd.delivery.get a).target = some (PowerOn.targetOf r a) := by
  rw [h.1 a]
  dsimp only
  split
  · rfl
  next same => simpa using same

/-! ### The report of CONTROLLER_REPORT -/

/-- The state as a report is taken off the queue. -/
def State.reportOff (r : Report) (s : State) : State := s.onCtrl fun c => { c with reports := c.reports.erase r }

theorem exec_controllerReport {s : State} (alive : s.alive = true) (u : s.Undamaged) {src : ReportSource} {r : Report}
    (first : (s.ctrl.reports.find? fun x => x.source == src) = some r) :
    exec (.controllerReport src) s = .next ((s.reportOff r).reportTaken r) := by
  refine live_run_plain alive ?_
  have w : (s.reportOff r).Undamaged := u.of_tables rfl
  simp only [controllerReport, Act.bind_run, Act.look_run, first, Act.upd_run]
  exact takeReport_run (v := ⟨s.reportOff r, []⟩) w r

/-- Outside RUN the mode chosen is the one that stands. -/
theorem chosenMode_follows {s : State} (follows : s.ModeFollows) (notRun : s.mgmt.opState ≠ .run) :
    s.chosenMode = s.ctrl.mode := by
  unfold State.ModeFollows at follows
  unfold State.chosenMode
  cases state : s.mgmt.opState <;> rw [state] at follows
  · exact follows.symm
  · exact absurd state notRun
  · exact follows.symm
  · exact follows.symm

theorem chosenMode_run {s : State} (run : s.mgmt.opState = .run) : s.chosenMode = s.precedenceMode s.ctrl := by
  rw [State.chosenMode, run]

end Sys2Proof.Machine
end

section
/-! SUPPORT. CONTROLLER_REPORT: the conditions, the causes and the mode. -/
namespace Sys2Proof.Machine
open Sys2Proof

/-! ### The state a report leaves -/

theorem told_reportOff (r : Report) (s : State) :
    (s.reportOff r).ctrl.told r = { s.ctrl.told r with reports := s.ctrl.reports.erase r } := by
  cases r <;> rfl

section
variable (r : Report) (s : State)

/-- The Controller once the report is off the queue and absorbed. -/
theorem absorbed_reportOff : ((s.reportOff r).absorbed r).ctrl = { s.ctrl.told r with
    conditions := deriveConditions s.ctrl.bindings (s.ctrl.told r).slotViews
    causes := deriveCauses s.mgmt.params.content.criticalRoles (s.ctrl.told r)
    reports := s.ctrl.reports.erase r } := by
  rw [absorbed_ctrl, told_reportOff]
  rfl

theorem absorbed_reportOff_rest :
    { (s.reportOff r).absorbed r with ctrl := s.ctrl, notice := s.notice, port := s.port } = s :=
  congrArg (fun x : State => { x with ctrl := s.ctrl }) (absorbed_rest r (s.reportOff r))

theorem absorbed_mgmt : ((s.reportOff r).absorbed r).mgmt = s.mgmt :=
  (congrArg State.mgmt (absorbed_reportOff_rest r s) :)

theorem absorbed_timer : ((s.reportOff r).absorbed r).timer = s.timer :=
  (congrArg State.timer (absorbed_reportOff_rest r s) :)

theorem absorbed_cmd : ((s.reportOff r).absorbed r).cmd = s.cmd :=
  (congrArg State.cmd (absorbed_reportOff_rest r s) :)

/-- The mode that stands once the report is taken. -/
def State.modeAfter : Mode :=
  let ch := (s.reportOff r).changesBy r
  if ch.changed || r.source == .timerUnit then ((s.reportOff r).absorbed r).chosenMode
  else ((s.reportOff r).absorbed r).ctrl.mode

theorem reportTaken_eq : (s.reportOff r).reportTaken r = ((s.reportOff r).absorbed r).settledOn (s.modeAfter r)
    ((s.reportOff r).changesBy r).handover ((s.reportOff r).changesBy r).dirtyIn := rfl

theorem absorbed_mode : ((s.reportOff r).absorbed r).ctrl.mode = s.ctrl.mode := by
  rw [absorbed_reportOff]
  exact told_mode ..

theorem reportTaken_ctrl : ((s.reportOff r).reportTaken r).ctrl =
    { ((s.reportOff r).absorbed r).ctrl with mode := s.modeAfter r } := settledOn_ctrl ..

theorem reportTaken_conditions :
    ((s.reportOff r).reportTaken r).ctrl.conditions = ((s.reportOff r).absorbed r).ctrl.conditions :=
  (congrArg Controller.conditions (reportTaken_ctrl r s) :)

theorem changesBy_handover : ((s.reportOff r).changesBy r).handover =
    conditionChanges s.ctrl.conditions ((s.reportOff r).reportTaken r).ctrl.conditions := by
  rw [reportTaken_conditions]
  rfl

theorem changesBy_changed : ((s.reportOff r).changesBy r).changed = true ↔
    ((s.reportOff r).reportTaken r).ctrl.conditions ≠ s.ctrl.conditions ∨
      ((s.reportOff r).reportTaken r).ctrl.causes ≠ s.ctrl.causes := by
  rw [reportTaken_ctrl]
  simp only [State.changesBy, Bool.or_eq_true, bne_iff_ne, ne_eq]
  exact or_congr (not_congr eq_comm) (not_congr eq_comm)

theorem changesBy_dirtyIn : ((s.reportOff r).changesBy r).dirtyIn = true ↔
    ((s.reportOff r).reportTaken r).ctrl.conditions.dirtyIn ≠ s.ctrl.conditions.dirtyIn := by
  rw [reportTaken_conditions]
  simp only [State.changesBy, bne_iff_ne, ne_eq]
  exact not_congr eq_comm

theorem reportTaken_mode : ((s.reportOff r).reportTaken r).ctrl.mode = s.modeAfter r :=
  (congrArg Controller.mode (reportTaken_ctrl r s) :)

/-- A change, or any report of the Timer Unit, has the mode chosen in RUN. -/
theorem modeAfter_chosen (run : s.mgmt.opState = .run)
    (due : ((s.reportOff r).changesBy r).changed = true ∨ r.source = .timerUnit) :
    s.modeAfter r = s.precedenceMode ((s.reportOff r).reportTaken r).ctrl := by
  have mgmt := absorbed_mgmt r s
  have choose : (((s.reportOff r).changesBy r).changed || r.source == .timerUnit) = true := by
    simpa using due
  rw [State.modeAfter, if_pos choose, chosenMode_run (by rw [mgmt, run]), reportTaken_ctrl]
  simp only [State.precedenceMode, mgmt]
  rfl

theorem modeAfter_stays (follows : s.ModeFollows)
    (calm : s.mgmt.opState ≠ .run ∨
      ¬(((s.reportOff r).changesBy r).changed = true ∨ r.source = .timerUnit)) :
    s.modeAfter r = s.ctrl.mode := by
  have mgmt := absorbed_mgmt r s
  unfold State.modeAfter
  dsimp only
  split
  next choose =>
    have notRun : s.mgmt.opState ≠ .run := calm.resolve_right (not_not.2 (by simpa using choose))
    have follows' : ((s.reportOff r).absorbed r).ModeFollows := by
      rw [State.ModeFollows, mgmt, absorbed_mode]
      exact follows
    rw [chosenMode_follows follows' (by rw [mgmt]; exact notRun), absorbed_mode]
  next => exact absorbed_mode r s

theorem reportTaken_timer : ((s.reportOff r).reportTaken r).timer =
    { s.timer with handovers := s.timer.handovers ++
      (if s.modeAfter r ≠ s.ctrl.mode then
        [{ ((s.reportOff r).changesBy r).handover with mode := some (s.modeAfter r) }]
      else if ((s.reportOff r).changesBy r).handover = ⟨none, none, none, none⟩ then []
      else [((s.reportOff r).changesBy r).handover]) } := by
  rw [reportTaken_eq, settledOn_timer, absorbed_mode, absorbed_timer]

theorem reportTaken_rest : { (s.reportOff r).reportTaken r with
    ctrl := s.ctrl, timer := s.timer, cmd := s.cmd, notice := s.notice, port := s.port } = s := by
  have rest := settledOn_rest (s.modeAfter r) ((s.reportOff r).changesBy r).handover
    ((s.reportOff r).changesBy r).dirtyIn ((s.reportOff r).absorbed r)
  have again := congrArg (fun x : State => { x with
    ctrl := s.ctrl, timer := s.timer, cmd := s.cmd, notice := s.notice, port := s.port }) rest
  exact again.trans (congrArg (fun x : State => { x with timer := s.timer, cmd := s.cmd }) (absorbed_reportOff_rest r s))

/-- The targets, where they are handed over. -/
theorem reportTaken_targets (u : s.Undamaged)
    (due : s.modeAfter r ≠ s.ctrl.mode ∨ ((s.reportOff r).changesBy r).dirtyIn = true)
    (held : s.modeAfter r = .manual → s.timer.overrideRecord.isSome = true) :
    s.TargetsHanded ((s.reportOff r).reportTaken r)
      (s.targetsFor (s.modeAfter r) ((s.reportOff r).reportTaken r).ctrl.conditions.dirtyIn) := by
  have timer := absorbed_timer r s
  have mgmt := absorbed_mgmt r s
  have records : ((s.reportOff r).absorbed r).ctrl.records = s.ctrl.records := by
    rw [absorbed_reportOff]
    exact told_records ..
  have w : ((s.reportOff r).absorbed r).Undamaged := u.of_tables (absorbed_tables r (s.reportOff r))
  have handed := settledOn_targets (h := ((s.reportOff r).changesBy r).handover)
    (dirtyIn := ((s.reportOff r).changesBy r).dirtyIn) (m := s.modeAfter r) w (by rwa [absorbed_mode])
  have content : ((s.reportOff r).absorbed r).dueTargets (s.modeAfter r) =
      s.targetsFor (s.modeAfter r) ((s.reportOff r).reportTaken r).ctrl.conditions.dirtyIn := by
    rw [dueTargets_eq (by rw [timer]; exact held), reportTaken_conditions]
    simp only [State.targetsFor, records, timer, mgmt]
  rw [content] at handed
  exact handed.congr (absorbed_cmd r s).symm rfl

/-! ### The notices of a report -/

theorem clogs_iff : ((s.reportOff r).onCtrl (·.told r)).clogs = true ↔
    (s.ctrl.conditions.clogged = false ∧ ((s.reportOff r).reportTaken r).ctrl.conditions.clogged = true) := by
  have bindings := told_bindings (s.reportOff r).ctrl r
  have conditions := told_conditions (s.reportOff r).ctrl r
  have views : ((s.reportOff r).ctrl.told r).slotViews = (s.ctrl.told r).slotViews := by rw [told_reportOff]
  rw [reportTaken_conditions, absorbed_reportOff]
  simp only [State.clogs, State.onCtrl_ctrl, bindings, conditions, views, Bool.and_eq_true, Bool.not_eq_true']
  exact and_comm

theorem absorbed_clogs {i : Fin 32} (bound : s.ctrl.bindings.filterDp = some i)
    (h : ((s.reportOff r).onCtrl (·.told r)).clogs = true) :
    s.RaisedFrom ((s.reportOff r).absorbed r) .filterClogged (.slot i) 0 := by
  have bound' : ((s.reportOff r).onCtrl (·.told r)).ctrl.bindings.filterDp = some i := by
    rw [State.onCtrl_ctrl, told_bindings]
    exact bound
  rw [State.absorbed, deriveAgain_clogs bound' h]
  generalize inner : ((s.reportOff r).onCtrl (·.told r)).onCtrl _ = w
  have raised := raiseRecord_raisedFrom .filterClogged (.slot i) w
  exact raised.congr (by rw [← inner]; rfl) (by rw [← inner]; rfl) (by rw [State.onCtrl_notice]) (by rw [State.onCtrl_port])

theorem absorbed_calm (h : ¬((s.reportOff r).onCtrl (·.told r)).clogs = true) :
    ((s.reportOff r).absorbed r).notice = s.notice ∧ ((s.reportOff r).absorbed r).port = s.port := by
  rw [State.absorbed, deriveAgain_calm (Bool.eq_false_iff.2 h)]
  exact ⟨rfl, rfl⟩

end

/-- FILTER_CLOGGED outlasts what follows it. -/
theorem filterClogged_outlasts {s t : State} {m : Mode} {d : Detail} (raised : s.Raised .filterClogged d)
    (told : (s.airTurned m).RaisedFrom t .modeChange (.mode m) 0) : t.Raised .filterClogged d := by
  obtain ⟨_, others, _⟩ := told
  have same : t.noticeRecord .filterClogged = s.noticeRecord .filterClogged := others .filterClogged (by decide)
  rw [State.Raised, same]
  exact raised

/-- What MODE_CHANGE's raise leaves of the record and of the AIR lamp. -/
theorem State.RaisedFrom.modeChange {s t : State} {m : Mode}
    (told : (s.airTurned m).RaisedFrom t .modeChange (.mode m) 0) :
    (t.noticeRecord .modeChange).pending = true ∧ (t.noticeRecord .modeChange).detail = some (.mode m) ∧
      t.notice.airLamp.pattern = airPattern m := by
  obtain ⟨record, _, _, lamp, _⟩ := told
  refine ⟨by rw [record], by rw [record], ?_⟩
  rw [lamp]
  exact Lamp.turned_pattern ..

end Sys2Proof.Machine
end

section
/-! SUPPORT. CONTROLLER_REPORT: the derivation tables, and the settlement. -/
namespace Sys2Proof.Machine
open Sys2Proof

/-! ### The conditions, the causes and the precedence -/

/-- A role's slot is FRESH or SUSPECT, and reported so with `p`. -/
def usableWith (b : PerRole (Option (Fin 32))) (views : Vector SlotView 32) (r : Role) (p : SlotView → Bool) : Prop :=
  ∃ i, b.get r = some i ∧ (views[i].status = .fresh ∨ views[i].status = .suspect) ∧ p views[i] = true

/-- An unbound role is as an empty slot, which is not usable. -/
theorem usableWith_iff (b : PerRole (Option (Fin 32))) (views : Vector SlotView 32) (r : Role) (p : SlotView → Bool) :
    usableWith b views r p ↔ ((roleView b views r).status.usable && p (roleView b views r)) = true := by
  unfold usableWith roleView
  cases b.get r with
  | none => simp [PowerOn.slotView, SlotStatus.usable]
  | some i =>
    simp only [Option.some.injEq, exists_eq_left', Bool.and_eq_true]
    refine and_congr ?_ Iff.rfl
    cases views[i].status <;> simp [SlotStatus.usable]

theorem deriveConditions_rows (b : PerRole (Option (Fin 32))) (views : Vector SlotView 32) :
    let c := deriveConditions b views
    (c.dirtyOut = true ↔ ¬usableWith b views .outPm (fun _ => true) ∨ usableWith b views .outPm (·.compA) ∨
      usableWith b views .outGas (·.compA)) ∧
    (c.severe = true ↔ usableWith b views .outPm (·.compB)) ∧
    (c.stuffy = true ↔ usableWith b views .cabCo2 (·.compA)) ∧
    (c.co2High = true ↔ usableWith b views .cabCo2 (·.compB)) ∧
    (c.fog = true ↔ usableWith b views .cabRh (·.compA)) ∧
    (c.dirtyIn = true ↔ usableWith b views .cabPm (·.compA)) ∧
    (c.clogged = true ↔ usableWith b views .filterDp (·.compA)) := by
  simp only [usableWith_iff, deriveConditions]
  refine ⟨?_, trivial, trivial, trivial, trivial, trivial, trivial⟩
  cases (roleView b views .outPm).status.usable <;> simp

theorem deriveCauses_inputLost (critical : Byte) (c : Controller) : (deriveCauses critical c).inputLost = true ↔
    ∃ (r : Role) (i : Fin 32), critical.getLsbD r.bit = true ∧ c.bindings.get r = some i ∧
      (c.slotViews[i].status = .stale ∨ c.slotViews[i].status = .fault) := by
  simp only [deriveCauses, List.any_eq_true, roleInSet, Bool.and_eq_true, Bool.or_eq_true, beq_iff_eq]
  constructor
  · rintro ⟨r, -, ⟨critical, bound⟩, lost⟩
    obtain ⟨i, hi⟩ := Option.isSome_iff_exists.1 bound
    rw [roleView, hi] at lost
    exact ⟨r, i, critical, hi, lost⟩
  · rintro ⟨r, i, critical, hi, lost⟩
    refine ⟨r, by cases r <;> decide, ⟨critical, by rw [hi]; rfl⟩, ?_⟩
    rw [roleView, hi]
    exact lost

theorem precedenceMode_list (s : State) (c : Controller) :
    let m := s.precedenceMode c
    let safe := c.causes.tableFault = true ∨ c.causes.inputLost = true
    let door := c.timerView.door1Open = true ∨ c.timerView.door2Open = true
    let demist := c.conditions.fog = true ∧ s.mgmt.params.content.modeEnable.getLsbD 2 = true
    (safe → m = .safe) ∧ (¬safe → door → m = .door) ∧
    (¬safe → ¬door → c.timerView.override = true → m = .manual) ∧
    (¬safe → ¬door → c.timerView.override = false →
      (c.timerView.recovery = true → m = .recover) ∧
      (c.timerView.recovery = false → demist → m = .demist) ∧
      (c.timerView.recovery = false → ¬demist →
        (c.timerView.purge = true → m = .purge) ∧
        (c.timerView.purge = false → c.conditions.dirtyOut = true → m = .shield) ∧
        (c.timerView.purge = false → c.conditions.dirtyOut = false → m = .fresh))) := by
  simp only [State.precedenceMode, precedence, Params.enablesDemist, ← Bool.or_eq_true, ← Bool.and_eq_true]
  refine ⟨fun safe => by rw [if_pos safe], fun calm door => by rw [if_neg calm, if_pos door],
    fun calm shut manual => by rw [if_neg calm, if_neg shut, if_pos manual], fun calm shut free => ?_⟩
  simp only [if_neg calm, if_neg shut, free, Bool.false_eq_true, if_false]
  refine ⟨fun run => by rw [if_pos run], fun still fog => ?_, fun still clear => ?_⟩
  · simp only [still, fog, Bool.false_eq_true, if_false, if_true]
  · simp only [still, Bool.eq_false_iff.2 clear, Bool.false_eq_true, if_false]
    refine ⟨fun purge => by rw [if_pos purge], fun idle dirty => ?_, fun idle clean => ?_⟩
    · simp only [idle, dirty, Bool.false_eq_true, if_false, if_true]
    · simp only [idle, clean, Bool.false_eq_true, if_false]

theorem Lamp.lit_times (n : Nat) :
    (⟨.off, n⟩ : Lamp).lit = false ∧ (⟨.on, n⟩ : Lamp).lit = true ∧
      ((⟨.slow, n⟩ : Lamp).lit = true ↔ n < 1000) ∧ ((⟨.fast, n⟩ : Lamp).lit = true ↔ n < 250) ∧
      ((⟨.double, n⟩ : Lamp).lit = true ↔ n < 125 ∨ (250 ≤ n ∧ n < 375)) := by
  simp [Lamp.lit]

/-! ### The settlement -/

theorem State.RaisedFrom.raised {s t : State} {k : NoticeKind} {d : Detail} {n : Nat} (h : s.RaisedFrom t k d n) :
    t.Raised k d := by
  obtain ⟨record, _⟩ := h
  exact ⟨by rw [record], by rw [record]⟩

/-- Settles O48: the report absorbed and the mode settled on; then the tables of the Controller, row by row. -/
theorem reportsDeriveTheConditionsAndTheMode : Obligations.ReportsDeriveTheConditionsAndTheMode := by
  refine ⟨fun s src alive u follows => ⟨fun none => ?_, fun r first => ?_⟩, fun b views => deriveConditions_rows b views,
    fun critical c => ⟨rfl, deriveCauses_inputLost critical c⟩, precedenceMode_list,
    rfl, Lamp.lit_times, fun r => by cases h : r.carbon <;> cases k : r.demist <;> simp [PowerOn.targetOf, h, k]⟩
  · have unfound : (s.ctrl.reports.find? fun x => x.source == src) = Option.none :=
      List.find?_eq_none.2 fun r mem => by simpa using none r mem
    refine live_run_plain alive ?_
    simp only [controllerReport, Act.bind_run, Act.look_run, unfound]
    rfl
  · have source : r.source = src := by simpa using List.find?_some first
    subst source
    have ctrl := reportTaken_ctrl r s
    have conditions := reportTaken_conditions r s
    have absorbed := absorbed_reportOff r s
    have mode := reportTaken_mode r s
    have changed := changesBy_changed r s
    have handover := changesBy_handover r s
    have dirty := changesBy_dirtyIn r s
    have timer := reportTaken_timer r s
    have chosen := modeAfter_chosen r s
    have stays := modeAfter_stays r s follows
    have rest := reportTaken_rest r s
    have targets := reportTaken_targets r s u
    have raised : s.modeAfter r ≠ s.ctrl.mode → (((s.reportOff r).absorbed r).airTurned (s.modeAfter r)).RaisedFrom
        ((s.reportOff r).reportTaken r) .modeChange (.mode (s.modeAfter r)) 0 :=
      fun new => settledOn_raised (by rw [absorbed_mode]; exact new)
    have quiet : s.modeAfter r = s.ctrl.mode →
        ((s.reportOff r).reportTaken r).notice = ((s.reportOff r).absorbed r).notice ∧
          ((s.reportOff r).reportTaken r).port = ((s.reportOff r).absorbed r).port :=
      fun same => settledOn_kept (m := s.modeAfter r) (by rw [absorbed_mode]; exact same)
    refine ⟨_, exec_controllerReport alive u first, ?_⟩
    rw [← mode] at chosen stays targets timer raised quiet
    rw [handover] at timer
    have clogs := clogs_iff r s
    refine ⟨?_, ?_, ?_, ?_, ?_, ?_, ?_, ?_, ?_, ?_, ?_, ?_, ?_, ?_⟩
    · rw [conditions, absorbed]
    · rw [ctrl, absorbed]
    · rw [ctrl, absorbed]
    · intro run due
      refine chosen run ?_
      rw [changed]
      exact or_assoc.2 due
    · intro calm
      refine stays (calm.imp_right ?_)
      rw [changed]
      rintro ⟨sameConditions, sameCauses, other⟩
      simp [sameConditions, sameCauses, other]
    · exact timer
    · intro new
      exact (raised new).modeChange
    · intro due held a
      exact (targets (due.imp_right dirty.2) held).target a
    · intro due held
      exact targets (due.imp_right dirty.2) held
    · exact (settledOn_completion ..).trans (congrArg CommandEngine.completion (absorbed_cmd r s))
    · refine ⟨((s.reportOff r).absorbed r).notice, ((s.reportOff r).absorbed r).port, ?_, ?_, ?_, quiet⟩
      · intro become i bound
        exact (absorbed_clogs r s bound (clogs.2 become)).congr rfl rfl rfl rfl
      · intro calm
        obtain ⟨notice, port⟩ := absorbed_calm r s (mt clogs.1 calm)
        rw [notice, port]
      · intro new
        exact (raised new).congr rfl rfl rfl rfl
    · intro same dry
      have kept := settledOn_cmd_kept (h := ((s.reportOff r).changesBy r).handover)
        (show s.modeAfter r = ((s.reportOff r).absorbed r).ctrl.mode by rw [absorbed_mode, ← mode, same])
        (Bool.eq_false_iff.2 fun wet => dirty.1 wet dry)
      exact kept.trans (absorbed_cmd r s)
    · intro i bound was become
      have first := absorbed_clogs r s bound (clogs.2 ⟨was, become⟩)
      have pending : ((s.reportOff r).absorbed r).Raised .filterClogged (.slot i) := first.raised
      by_cases new : ((s.reportOff r).reportTaken r).ctrl.mode = s.ctrl.mode
      · obtain ⟨notice, -⟩ := quiet new
        rw [State.noticeRecord, notice]
        exact pending
      · exact filterClogged_outlasts pending (raised new)
    · refine ⟨?_, ?_, ?_, ?_, ?_, ?_⟩
      · exact (congrArg State.quantity rest :)
      · exact (congrArg State.intake rest :)
      · exact (congrArg State.mgmt rest :)
      · exact (congrArg State.tally rest :)
      · exact (congrArg State.integ rest :)
      · exact (congrArg State.park rest :)

end Sys2Proof.Machine
end

section
/-! SUPPORT. The Controller told of a change of the operating state; PARKING entered. -/
namespace Sys2Proof.Machine
open Sys2Proof

/-! ### What the Controller makes of a new operating state -/

/-- The mode a change of the operating state brings. -/
def State.nextMode (s : State) : Mode := (s.onCtrl fun c => { c with timerView := s.timer.view }).chosenMode

theorem nextMode_config {s : State} (h : s.mgmt.opState = .config) : s.nextMode = .safe := by
  simp only [State.nextMode, State.chosenMode, State.onCtrl_mgmt, h]

theorem nextMode_parking {s : State} (h : s.mgmt.opState = .parking) : s.nextMode = .park := by
  simp only [State.nextMode, State.chosenMode, State.onCtrl_mgmt, h]

theorem nextMode_run {s : State} (h : s.mgmt.opState = .run) :
    s.nextMode = s.precedenceMode { s.ctrl with timerView := s.timer.view } := by
  simp only [State.nextMode, State.chosenMode, State.onCtrl_mgmt, h]
  rfl

section
variable (s : State)

theorem opStateTold_ctrl : s.opStateTold.ctrl = { s.ctrl with mode := s.nextMode, timerView := s.timer.view } :=
  settledOn_ctrl ..

theorem opStateTold_mode : s.opStateTold.ctrl.mode = s.nextMode :=
  (congrArg Controller.mode (opStateTold_ctrl s) :)

theorem opStateTold_timer : s.opStateTold.timer = { s.timer with handovers := s.timer.handovers ++
    (if s.nextMode ≠ s.ctrl.mode then [⟨some s.nextMode, none, none, none⟩] else []) } := by
  refine (settledOn_timer ..).trans ?_
  rw [if_pos rfl]
  rfl

theorem opStateTold_rest : { s.opStateTold with
    ctrl := s.ctrl, timer := s.timer, cmd := s.cmd, notice := s.notice, port := s.port } = s :=
  congrArg (fun x : State => { x with ctrl := s.ctrl })
    (settledOn_rest _ _ _ (s.onCtrl fun c => { c with timerView := s.timer.view }))

theorem opStateTold_mgmt : s.opStateTold.mgmt = s.mgmt := (congrArg State.mgmt (opStateTold_rest s) :)
theorem opStateTold_park : s.opStateTold.park = s.park := (congrArg State.park (opStateTold_rest s) :)
theorem opStateTold_intake : s.opStateTold.intake = s.intake := (congrArg State.intake (opStateTold_rest s) :)
theorem opStateTold_quantity : s.opStateTold.quantity = s.quantity := (congrArg State.quantity (opStateTold_rest s) :)
theorem opStateTold_tally : s.opStateTold.tally = s.tally := (congrArg State.tally (opStateTold_rest s) :)
theorem opStateTold_integ : s.opStateTold.integ = s.integ := (congrArg State.integ (opStateTold_rest s) :)

theorem opStateTold_completion : s.opStateTold.cmd.completion = s.cmd.completion := settledOn_completion ..

variable {s}

theorem opStateTold_kept (same : s.nextMode = s.ctrl.mode) : s.opStateTold.cmd = s.cmd ∧
    s.opStateTold.notice = s.notice ∧ s.opStateTold.port = s.port :=
  ⟨settledOn_cmd_kept same rfl, settledOn_kept same⟩

/-- A change of the mode does not ask how the rest of the device stands. -/
theorem State.ChangedMode.congr {a b t u : State} {m : Mode} {v : ModeRecord} (h : a.ChangedMode t m v)
    (handovers : b.timer.handovers = a.timer.handovers) (notice : b.notice = a.notice) (port : b.port = a.port)
    (cmd : b.cmd = a.cmd) (mode' : u.ctrl.mode = t.ctrl.mode) (handovers' : u.timer.handovers = t.timer.handovers)
    (notice' : u.notice = t.notice) (port' : u.port = t.port) (cmd' : u.cmd = t.cmd) : b.ChangedMode u m v := by
  obtain ⟨mode, handed, raised, targets⟩ := h
  refine ⟨mode'.trans mode, by rw [handovers', handovers, handed], ?_, targets.congr cmd cmd'⟩
  exact raised.congr (by rw [State.airTurned, State.airTurned, notice]) port notice' port'

theorem opStateTold_changed (u : s.Undamaged) (new : s.nextMode ≠ s.ctrl.mode)
    (held : s.nextMode = .manual → s.timer.overrideRecord.isSome = true) :
    s.ChangedMode s.opStateTold s.nextMode (s.targetsFor s.nextMode s.ctrl.conditions.dirtyIn) := by
  have w : (s.onCtrl fun c => { c with timerView := s.timer.view }).Undamaged := u.of_tables rfl
  have changed := modeChanged_spec w (m := s.nextMode) held
  have told : s.opStateTold =
      (s.onCtrl fun c => { c with timerView := s.timer.view }).modeChanged s.nextMode ⟨none, none, none, none⟩ :=
    if_neg new
  rw [told]
  exact changed.congr rfl rfl rfl rfl rfl rfl rfl rfl rfl

end

/-- A change of the operating state, no report waiting and its work plain. -/
theorem changeOpState_run {v : Event} {o : OpState} {work : Act Unit} {w : Event} (quiet : v.state.ctrl.reports = [])
    (h : work { v with state := v.state.setOpState o } = .ok () w) (u : w.state.Undamaged) :
    changeOpState o work v = .ok () ⟨w.state.opStateTold, w.owed⟩ := by
  rw [changeOpState_quiet o work quiet, Act.bind_ok h]
  exact opStateChanged_run u

/-! ### The completion reported -/

/-- The targets handed over do not ask for the completion. -/
theorem State.TargetsHanded.completion {s t : State} {r : ModeRecord} (h : s.TargetsHanded t r) {u : State} {b : Bool}
    (cmd : u.cmd = { t.cmd with completion := b }) : s.TargetsHanded u r := by
  obtain ⟨each, rest⟩ := h
  refine ⟨fun a => by rw [cmd]; exact each a, ?_⟩
  rw [cmd]
  exact congrArg (fun c : CommandEngine => { c with completion := b }) rest

theorem reportCompletion_cmd (s : State) : s.reportCompletion.cmd =
    { s.cmd with completion := (s.mgmt.opState == .parking && s.cmd.quiet) || s.cmd.completion } := by
  unfold State.reportCompletion
  split
  next h => rw [h]; rfl
  next h => rw [Bool.eq_false_iff.2 h]; rfl

theorem reportCompletion_rest (s : State) : { s.reportCompletion with cmd := s.cmd } = s := by
  unfold State.reportCompletion
  split <;> rfl

/-! ### PARKING entered -/

theorem TimerUnit.stopAll_stopped (t : TimerUnit) : t.stopAll.Stopped := ⟨rfl, rfl, rfl, rfl, rfl, rfl, rfl⟩

/-- What PARKING entry does ahead of the mode. -/
def State.parkingWork (minutes : Nat) (s : State) : State :=
  (((s.setOpState .parking).onPark fun p => { p with wakeMinutes := minutes }).onTimer TimerUnit.stopAll).onPark fun p =>
    { p with preclean := none }

/-- The state PARKING is entered with. -/
def State.parkingEntered (minutes : Nat) (s : State) : State := (s.parkingWork minutes).opStateTold.reportCompletion

theorem parkingEntry_run {v : Event} (u : v.state.Undamaged) (quiet : v.state.ctrl.reports = []) (minutes : Nat) :
    parkingEntry minutes v = .ok () ⟨v.state.parkingEntered minutes, v.owed⟩ := by
  have w : (v.state.parkingWork minutes).Undamaged := u.of_tables rfl
  rw [parkingEntry, Act.bind_ok (changeOpState_run (w := ⟨v.state.parkingWork minutes, v.owed⟩) quiet rfl w)]
  rfl

section
variable (minutes : Nat) (s : State)

theorem parkingEntered_rest : { s.parkingEntered minutes with
    ctrl := s.ctrl, timer := s.timer, cmd := s.cmd, notice := s.notice, port := s.port, mgmt := s.mgmt,
    park := s.park } = s :=
  (congrArg (fun x : State => { x with
    ctrl := s.ctrl, timer := s.timer, cmd := s.cmd, notice := s.notice, port := s.port, mgmt := s.mgmt, park := s.park })
    (reportCompletion_rest (s.parkingWork minutes).opStateTold)).trans
  (congrArg (fun x : State => { x with
    ctrl := s.ctrl, timer := s.timer, cmd := s.cmd, notice := s.notice, port := s.port, mgmt := s.mgmt, park := s.park })
    (opStateTold_rest (s.parkingWork minutes)))

theorem parkingEntered_told : { s.parkingEntered minutes with cmd := (s.parkingWork minutes).opStateTold.cmd } =
    (s.parkingWork minutes).opStateTold := reportCompletion_rest _

theorem parkingEntered_mgmt : (s.parkingEntered minutes).mgmt = { s.mgmt with opState := .parking } :=
  (congrArg State.mgmt (parkingEntered_told minutes s) :).trans (opStateTold_mgmt _)

theorem parkingEntered_park :
    (s.parkingEntered minutes).park = { s.park with preclean := none, wakeMinutes := minutes } :=
  (congrArg State.park (parkingEntered_told minutes s) :).trans (opStateTold_park _)

theorem parkingEntered_mode : (s.parkingEntered minutes).ctrl.mode = .park :=
  (congrArg (·.ctrl.mode) (parkingEntered_told minutes s) :).trans
    ((opStateTold_mode _).trans (nextMode_parking rfl))

theorem parkingEntered_timer : (s.parkingEntered minutes).timer = { s.timer.stopAll with
    handovers := (s.parkingEntered minutes).timer.handovers } := by
  have timer : (s.parkingEntered minutes).timer = _ :=
    (congrArg State.timer (parkingEntered_told minutes s) :).trans (opStateTold_timer _)
  rw [timer]
  rfl

theorem parkingEntered_stopped : (s.parkingEntered minutes).timer.Stopped := by
  rw [parkingEntered_timer]
  exact s.timer.stopAll_stopped

theorem parkingEntered_completion :
    ((s.parkingEntered minutes).cmd.quiet = true → (s.parkingEntered minutes).cmd.completion = true) ∧
    ((s.parkingEntered minutes).cmd.quiet = false →
      (s.parkingEntered minutes).cmd.completion = s.cmd.completion) := by
  have cmd : (s.parkingEntered minutes).cmd = _ := reportCompletion_cmd (s.parkingWork minutes).opStateTold
  have parking : (s.parkingWork minutes).opStateTold.mgmt.opState = .parking := by
    rw [opStateTold_mgmt]
    rfl
  have quiet : (s.parkingEntered minutes).cmd.quiet = (s.parkingWork minutes).opStateTold.cmd.quiet := by
    rw [cmd]
    rfl
  rw [quiet, cmd, parking]
  refine ⟨fun q => ?_, fun q => ?_⟩
  · rw [q]
    rfl
  · rw [q]
    exact opStateTold_completion (s.parkingWork minutes)

variable {s}

theorem parkingEntered_changed (u : s.Undamaged) (new : s.ctrl.mode ≠ .park) :
    s.ChangedMode (s.parkingEntered minutes) .park ⟨0, 0, false, false⟩ := by
  have w : (s.parkingWork minutes).Undamaged := u.of_tables rfl
  have park : (s.parkingWork minutes).nextMode = .park := nextMode_parking rfl
  have changed := opStateTold_changed w (by rw [park]; exact new.symm) (by rw [park]; exact fun h => by cases h)
  rw [park] at changed
  have told : s.ChangedMode (s.parkingWork minutes).opStateTold .park ⟨0, 0, false, false⟩ :=
    changed.congr rfl rfl rfl rfl rfl rfl rfl rfl rfl
  obtain ⟨mode, handed, raised, targets⟩ := told
  have rest := parkingEntered_told minutes s
  refine ⟨parkingEntered_mode minutes s, (congrArg (·.timer.handovers) rest :).trans handed,
    raised.congr rfl rfl (congrArg State.notice rest :) (congrArg State.port rest :), ?_⟩
  exact targets.completion (reportCompletion_cmd _)

end

theorem targetOf_parked (a : Actuator) : PowerOn.targetOf ⟨0, 0, false, false⟩ a = 0 := by cases a <;> rfl

/-- Of a masked kind a raise sends no frame. -/
theorem State.RaisedFrom.port_masked {s t : State} {k : NoticeKind} {d : Detail} {n : Nat} (h : s.RaisedFrom t k d n)
    (masked : (s.noticeRecord k).masked = true) : t.port = s.port := by
  obtain ⟨_, _, _, _, _, port⟩ := h
  rw [port, masked]
  simp

/-- Settles O52: nothing without a pre-clean; else PARKING entry with no minutes. -/
theorem precleanExpiryEntersParking : Obligations.PrecleanExpiryEntersParking := by
  refine fun s alive => ⟨fun stopped => ?_, fun running u quiet new => ?_⟩
  · refine live_run_plain alive ?_
    simp only [precleanExpiry, Act.bind_run, Act.look_run, stopped]
    rfl
  · have run : exec .precleanExpiry s = .next (s.parkingEntered 0) := by
      refine live_run_plain alive ?_
      simp only [precleanExpiry, Act.bind_run, Act.look_run, running, onlyIf_true]
      exact parkingEntry_run (v := ⟨s, []⟩) u quiet 0
    have changed := parkingEntered_changed 0 u new
    have rest := parkingEntered_rest 0 s
    have mgmt := parkingEntered_mgmt 0 s
    have timer := parkingEntered_timer 0 s
    obtain ⟨done, kept⟩ := parkingEntered_completion 0 s
    obtain ⟨-, -, raised, targets⟩ := parkingEntered_changed 0 u new
    obtain ⟨pending, detail, -⟩ := raised.modeChange
    refine ⟨_, run, by rw [mgmt], parkingEntered_mode 0 s, parkingEntered_park 0 s, parkingEntered_stopped 0 s,
      by rw [timer]; rfl, fun a => (targets.target a).trans (by rw [targetOf_parked]), done, kept, pending, detail,
      fun masked => raised.port_masked masked, changed, ?_, ?_, ?_, ?_, by rw [mgmt]⟩
    · exact (congrArg State.intake rest :)
    · exact (congrArg State.quantity rest :)
    · exact (congrArg State.tally rest :)
    · exact (congrArg State.integ rest :)

end Sys2Proof.Machine
end

section
/-! SUPPORT. PARK and ENTER_CONFIG. -/
namespace Sys2Proof.Machine
open Sys2Proof

/-- A raise lengthens RPQ, and does no more to the Port Unit. -/
theorem State.RaisedFrom.more {s t : State} {k : NoticeKind} {d : Detail} {n : Nat} (h : s.RaisedFrom t k d n) :
    ∃ more, t.port = { s.port with rpq := s.port.rpq ++ more } := by
  obtain ⟨_, _, _, _, _, port⟩ := h
  exact ⟨_, port⟩

theorem State.ChangedMode.more {s t : State} {m : Mode} {v : ModeRecord} (h : s.ChangedMode t m v) :
    ∃ more, t.port = { s.port with rpq := s.port.rpq ++ more } := by
  obtain ⟨-, -, raised, -⟩ := h
  exact raised.more

theorem answered_rpq (s : State) (tag code : Byte) (r : Reply) :
    (s.answered tag code r).port.rpq = s.port.rpq ++ [replyFrame 0 tag code r] := rfl

theorem take_answered {s : State} {tag code : Byte} {r : Reply} {q : List Frame}
    (h : q = (s.answered tag code r).port.rpq) (more : List Frame) :
    (q ++ more).take (s.port.rpq.length + 1) = s.port.rpq ++ [replyFrame 0 tag code r] := by
  rw [h, answered_rpq]
  exact List.take_left' (by simp)

/-! ### PARK -/

/-- Settles O40: PARKING entry behind the place of the reply. -/
theorem parkEntersParking : Obligations.ParkEntersParking := by
  refine fun s tag minutes ht inRun => ⟨fun long => ?_, fun short openDoor => ?_, fun short shut u quiet new => ?_⟩
  · exact exec_gateway_quiet rfl rfl ht (in_run inRun) (r := plain .badValue) (by rw [parkReply, if_pos long]; rfl)
  · refine exec_gateway_quiet rfl rfl ht (in_run inRun) (r := plain .refusedDoor) ?_
    have door : (s.answeredPlain tag (codeByte 31 0) .done).timer.doorOpen = true := openDoor
    simp only [parkReply, if_neg (not_lt.2 short), Act.bind_run, Act.look_run, door]
    rfl
  · let a := s.answeredPlain tag (codeByte 31 0) .done
    have w : a.Undamaged := u.of_tables rfl
    have changed := parkingEntered_changed minutes.toNat w new
    obtain ⟨more, port⟩ := changed.more
    have run : exec (.park (gateway tag) minutes) s = .next (a.parkingEntered minutes.toNat) := by
      refine exec_gateway_done rfl rfl ht (in_run inRun) (owed := []) ?_ (congrArg PortUnit.rpq port)
      have door : (s.answeredPlain tag (codeByte 31 0) .done).timer.doorOpen = false := shut
      simp only [parkReply, if_neg (not_lt.2 short), Act.bind_run, Act.look_run, door]
      exact Act.bind_ok (parkingEntry_run (v := ⟨a, []⟩) w quiet minutes.toNat)
    have rest := parkingEntered_rest minutes.toNat a
    have mgmt := parkingEntered_mgmt minutes.toNat a
    have park := parkingEntered_park minutes.toNat a
    obtain ⟨done, kept⟩ := parkingEntered_completion minutes.toNat a
    obtain ⟨-, -, raised, targets⟩ := parkingEntered_changed minutes.toNat w new
    obtain ⟨-, detail, -⟩ := raised.modeChange
    refine ⟨_, run, by rw [mgmt], parkingEntered_mode _ a, by rw [park], by rw [park], parkingEntered_stopped _ a,
      fun b => (targets.target b).trans (by rw [targetOf_parked]), done, kept, detail, changed, ?_, ?_, ?_, ?_, ?_⟩
    · rw [port]
      exact take_answered rfl more
    · exact (congrArg State.intake rest :)
    · exact (congrArg State.quantity rest :)
    · exact (congrArg State.tally rest :)
    · exact (congrArg State.integ rest :)

/-! ### ENTER_CONFIG -/

/-- What ENTER_CONFIG does ahead of the mode. -/
def State.configWork (s : State) : State := ((s.setOpState .config).onTimer TimerUnit.stopAll).stopPreclean

theorem configWork_mode (s : State) : s.configWork.nextMode = .safe := nextMode_config rfl

theorem enterConfigReply_run {v : Event} (u : v.state.Undamaged) (quiet : v.state.ctrl.reports = []) :
    enterConfigReply v = .ok (plain .done) ⟨v.state.configWork.opStateTold, v.owed⟩ := by
  have w : v.state.configWork.Undamaged := u.of_tables rfl
  rw [enterConfigReply, Act.bind_ok (changeOpState_run (w := ⟨v.state.configWork, v.owed⟩) quiet rfl w)]
  rfl

/-- A report that waits is taken ahead of ENTER_CONFIG. -/
theorem enterConfigReply_waiting {v : Event} (u : v.state.Undamaged) {r : Report} (one : v.state.ctrl.reports = [r]) :
    enterConfigReply v = enterConfigReply ⟨(v.state.reportOff r).reportTaken r, v.owed⟩ := by
  have off : (v.state.onCtrl fun c => { c with reports := [] }) = v.state.reportOff r := by
    simp only [State.reportOff, State.onCtrl, one, List.erase_cons_head]
  have w : (v.state.reportOff r).Undamaged := u.of_tables rfl
  have taken : takeWaiting v = .ok () ⟨(v.state.reportOff r).reportTaken r, v.owed⟩ := by
    rw [takeWaiting_cons one, off]
    exact Act.bind_ok (takeReport_run (v := ⟨v.state.reportOff r, v.owed⟩) w r)
  have none : ((v.state.reportOff r).reportTaken r).ctrl.reports = [] := by
    rw [reportTaken_ctrl, absorbed_reportOff]
    simp only [one, List.erase_cons_head]
  have still := takeWaiting_none (v := ⟨(v.state.reportOff r).reportTaken r, v.owed⟩) none
  unfold enterConfigReply changeOpState
  simp only [Act.bind_run, taken, still]

section
variable {s : State}

theorem configTold_changed (u : s.Undamaged) (new : s.ctrl.mode ≠ .safe) :
    s.ChangedMode s.configWork.opStateTold .safe ⟨20, 8, true, true⟩ := by
  have w : s.configWork.Undamaged := u.of_tables rfl
  have safe := configWork_mode s
  have changed := opStateTold_changed w (by rw [safe]; exact new.symm) (by rw [safe]; exact fun h => by cases h)
  rw [safe] at changed
  exact changed.congr rfl rfl rfl rfl rfl rfl rfl rfl rfl

theorem configTold_kept (same : s.ctrl.mode = .safe) : s.configWork.opStateTold.cmd = s.cmd ∧
    s.configWork.opStateTold.notice = s.notice ∧ s.configWork.opStateTold.port = s.port :=
  opStateTold_kept ((configWork_mode s).trans same.symm)

theorem configTold_more (u : s.Undamaged) :
    ∃ more, s.configWork.opStateTold.port = { s.port with rpq := s.port.rpq ++ more } := by
  by_cases same : s.ctrl.mode = .safe
  · obtain ⟨-, -, port⟩ := configTold_kept same
    exact ⟨[], by rw [port, List.append_nil]⟩
  · exact (configTold_changed u same).more

theorem configTold_timer : s.configWork.opStateTold.timer =
    { s.timer.stopAll with handovers := s.configWork.opStateTold.timer.handovers } := by
  rw [opStateTold_timer]
  rfl

end

theorem targetsHanded_cmd {s t : State} {v : ModeRecord} (h : s.TargetsHanded t v) :
    t.cmd.entries = s.cmd.entries ∧ t.cmd.halted = s.cmd.halted ∧ t.cmd.tagCounter = s.cmd.tagCounter := by
  obtain ⟨-, cmd⟩ := h
  rw [cmd]
  exact ⟨rfl, rfl, rfl⟩

theorem settledOn_tables (m : Mode) (h : Handover) (dirtyIn : Bool) (s : State) :
    (s.settledOn m h dirtyIn).tables = s.tables := by
  unfold State.settledOn State.modeChanged
  split
  · split
    · rw [targetsHanded_tables, handOver_tables]
    · exact handOver_tables h s
  · rw [targetsHanded_tables, modeTold_tables]

theorem reportTaken_tables (r : Report) (s : State) : ((s.reportOff r).reportTaken r).tables = s.tables := by
  rw [reportTaken_eq, settledOn_tables, absorbed_tables]
  rfl

theorem deriveAgain_more (s : State) : ∃ more, s.deriveAgain.port = { s.port with rpq := s.port.rpq ++ more } := by
  have same : ∃ more, s.port = { s.port with rpq := s.port.rpq ++ more } := ⟨[], by rw [List.append_nil]⟩
  unfold State.deriveAgain
  dsimp only
  split
  · split
    · exact (raiseRecord_raisedFrom .filterClogged _ _).more
    · exact same
  · exact same

theorem append_more {p q r : PortUnit} (h : ∃ more, q = { p with rpq := p.rpq ++ more })
    (h' : ∃ more, r = { q with rpq := q.rpq ++ more }) : ∃ more, r = { p with rpq := p.rpq ++ more } := by
  obtain ⟨l, rfl⟩ := h
  obtain ⟨l', rfl⟩ := h'
  exact ⟨l ++ l', by rw [List.append_assoc]⟩

/-- Taking a report lengthens RPQ, and does no more to the Port Unit. -/
theorem reportTaken_more (r : Report) (s : State) :
    ∃ more, ((s.reportOff r).reportTaken r).port = { s.port with rpq := s.port.rpq ++ more } := by
  have first : ∃ more, ((s.reportOff r).absorbed r).port = { s.port with rpq := s.port.rpq ++ more } :=
    deriveAgain_more ((s.reportOff r).onCtrl (·.told r))
  refine append_more first ?_
  by_cases same : s.modeAfter r = s.ctrl.mode
  · have quiet := settledOn_kept (m := s.modeAfter r) (h := ((s.reportOff r).changesBy r).handover)
      (dirtyIn := ((s.reportOff r).changesBy r).dirtyIn) (s := (s.reportOff r).absorbed r) (by rw [absorbed_mode]; exact same)
    obtain ⟨-, port⟩ := quiet
    exact ⟨[], by rw [reportTaken_eq, port, List.append_nil]⟩
  · have raised := settledOn_raised (m := s.modeAfter r) (h := ((s.reportOff r).changesBy r).handover)
      (dirtyIn := ((s.reportOff r).changesBy r).dirtyIn) (s := (s.reportOff r).absorbed r) (by rw [absorbed_mode]; exact same)
    exact raised.more

/-- ENTER_CONFIG with one report waiting. -/
theorem exec_enterConfig_waiting {s : State} {tag : Byte} (ht : s.TakesRequest) (inRun : s.mgmt.opState = .run)
    (u : s.Undamaged) {r : Report} (one : s.ctrl.reports = [r]) :
    exec (.enterConfig (gateway tag)) s =
      .next (((s.answeredPlain tag (codeByte 17 0) .done).reportOff r).reportTaken r).configWork.opStateTold := by
  let a := s.answeredPlain tag (codeByte 17 0) .done
  have w : ((a.reportOff r).reportTaken r).Undamaged := u.of_tables (reportTaken_tables r a)
  have none : ((a.reportOff r).reportTaken r).ctrl.reports = [] := by
    have one : a.ctrl.reports = [r] := one
    rw [reportTaken_ctrl, absorbed_reportOff]
    simp only [one, List.erase_cons_head]
  obtain ⟨more, port⟩ := append_more (reportTaken_more r a) (configTold_more w)
  refine exec_gateway_done rfl rfl ht (in_run inRun) (owed := []) ?_ (congrArg PortUnit.rpq port)
  exact (enterConfigReply_waiting (v := ⟨a, []⟩) (u.of_tables rfl) one).trans
    (enterConfigReply_run (v := ⟨(a.reportOff r).reportTaken r, []⟩) w none)

end Sys2Proof.Machine
end

section
/-! SUPPORT. ENTER_CONFIG: the settlement. -/
namespace Sys2Proof.Machine
open Sys2Proof

theorem configTold_ctrl (s : State) : s.configWork.opStateTold.ctrl =
    { s.ctrl with mode := .safe, timerView := s.configWork.opStateTold.timer.view } := by
  have timer := configTold_timer (s := s)
  generalize s.configWork.opStateTold.timer = now at timer ⊢
  rw [opStateTold_ctrl, configWork_mode, timer]
  rfl

theorem configTold_stopped (s : State) : s.configWork.opStateTold.timer.Stopped := by
  rw [configTold_timer]
  exact s.timer.stopAll_stopped

/-- ENTER_CONFIG with no report waiting. -/
theorem exec_enterConfig {s : State} {tag : Byte} (ht : s.TakesRequest) (inRun : s.mgmt.opState = .run)
    (u : s.Undamaged) (quiet : s.ctrl.reports = []) : exec (.enterConfig (gateway tag)) s =
      .next (s.answeredPlain tag (codeByte 17 0) .done).configWork.opStateTold := by
  let a := s.answeredPlain tag (codeByte 17 0) .done
  have w : a.Undamaged := u.of_tables rfl
  obtain ⟨more, port⟩ := configTold_more w
  exact exec_gateway_done rfl rfl ht (in_run inRun) (owed := [])
    (enterConfigReply_run (v := ⟨a, []⟩) w quiet) (congrArg PortUnit.rpq port)

/-- A broadcast ENTER_CONFIG, no report waiting and no pre-clean under way. -/
theorem exec_enterConfig_everyNode {s : State} {tag : Byte} (alive : s.alive = true) (inRun : s.mgmt.opState = .run)
    (u : s.Undamaged) (quiet : s.ctrl.reports = []) (stopped : s.stopPreclean = s) :
    exec (.enterConfig (toEveryNode tag)) s = .next s.configWork.opStateTold := by
  refine exec_everyNode (owed := []) rfl rfl alive (by rw [inRun]; decide) (in_run inRun)
    (t := s.configWork.opStateTold) (r := plain .done) ?_
  rw [stopped]
  exact enterConfigReply_run (v := ⟨s, []⟩) u quiet

/-- A report that says no more than the conditions derived already raises no FILTER_CLOGGED. -/
theorem absorbed_same {s : State} {r : Report}
    (same : ((s.reportOff r).reportTaken r).ctrl.conditions = s.ctrl.conditions) :
    ((s.reportOff r).absorbed r).notice = s.notice ∧ ((s.reportOff r).absorbed r).port = s.port := by
  refine absorbed_calm r s (mt (clogs_iff r s).1 ?_)
  rintro ⟨was, now⟩
  rw [same, was] at now
  cases now

theorem conditionChanges_self (c : Conditions) : conditionChanges c c = ⟨none, none, none, none⟩ := by
  simp [conditionChanges]

/-- A report that changes the mode and no condition. -/
theorem reportTaken_changed {s : State} {r : Report} (u : s.Undamaged)
    (same : ((s.reportOff r).reportTaken r).ctrl.conditions = s.ctrl.conditions)
    (new : s.modeAfter r ≠ s.ctrl.mode) (held : s.modeAfter r = .manual → s.timer.overrideRecord.isSome = true) :
    s.ChangedMode ((s.reportOff r).reportTaken r) (s.modeAfter r)
      (s.targetsFor (s.modeAfter r) s.ctrl.conditions.dirtyIn) := by
  obtain ⟨notice, port⟩ := absorbed_same same
  have handover := changesBy_handover r s
  have timer := reportTaken_timer r s
  have targets := reportTaken_targets r s u (.inl new) held
  have raised := settledOn_raised (m := s.modeAfter r) (h := ((s.reportOff r).changesBy r).handover)
    (dirtyIn := ((s.reportOff r).changesBy r).dirtyIn) (s := (s.reportOff r).absorbed r) (by rw [absorbed_mode]; exact new)
  rw [same] at handover targets
  refine ⟨reportTaken_mode r s, ?_, raised.congr ?_ port.symm rfl rfl, targets⟩
  · rw [timer, if_pos new, handover, conditionChanges_self]
  · rw [State.airTurned, State.airTurned, notice]

/-- The first OVERRIDE of the panel, with nothing else on, has MANUAL chosen as its report is taken. -/
theorem modeAfter_manual {s : State} (inRun : s.mgmt.opState = .run)
    (again : deriveCauses s.mgmt.params.content.criticalRoles s.ctrl = ⟨false, false⟩) (shut : s.timer.doorOpen = false)
    (runs : s.timer.overrideTimer.isSome = true) : s.modeAfter (.timers s.timer.view) = .manual := by
  rw [modeAfter_chosen _ s inRun (.inr rfl), reportTaken_ctrl, absorbed_reportOff]
  have same : deriveCauses s.mgmt.params.content.criticalRoles (s.ctrl.told (.timers s.timer.view)) = ⟨false, false⟩ := again
  obtain ⟨-, -, manual, -⟩ := precedenceMode_list s { s.ctrl.told (.timers s.timer.view) with
    conditions := deriveConditions s.ctrl.bindings (s.ctrl.told (.timers s.timer.view)).slotViews
    causes := ⟨false, false⟩
    reports := s.ctrl.reports.erase (.timers s.timer.view)
    mode := s.modeAfter (.timers s.timer.view) }
  obtain ⟨door1, door2⟩ := Bool.or_eq_false_iff.1 shut
  rw [same]
  refine manual (by simp) ?_ runs
  simpa [Controller.told, TimerUnit.view] using ⟨door1, door2⟩

/-- Settles O35: no report waiting; one waiting, taken first; and the report of the panel's OVERRIDE. -/
theorem enterConfigStopsTheAirPath : Obligations.EnterConfigStopsTheAirPath := by
  refine ⟨fun s tag ht inRun u quiet => ?_, fun s after tag r ht inRun u one taken => ?_, ?_⟩
  · let a := s.answeredPlain tag (codeByte 17 0) .done
    have w : a.Undamaged := u.of_tables rfl
    obtain ⟨more, port⟩ := configTold_more w
    have ctrl := configTold_ctrl a
    have timer := configTold_timer (s := a)
    have mgmt : a.configWork.opStateTold.mgmt = { s.mgmt with opState := .config } := opStateTold_mgmt _
    have kept : a.configWork.opStateTold.cmd.entries = s.cmd.entries ∧
        a.configWork.opStateTold.cmd.halted = s.cmd.halted ∧
        a.configWork.opStateTold.cmd.tagCounter = s.cmd.tagCounter := by
      by_cases same : a.ctrl.mode = .safe
      · obtain ⟨cmd, -⟩ := configTold_kept same
        rw [cmd]
        exact ⟨rfl, rfl, rfl⟩
      · obtain ⟨-, -, -, targets⟩ := configTold_changed w same
        exact targetsHanded_cmd targets
    obtain ⟨entries, halted, tags⟩ := kept
    refine ⟨_, exec_enterConfig ht inRun u quiet, by rw [mgmt], by rw [ctrl], configTold_stopped a, ?_, ?_, ?_, ?_, ?_,
      opStateTold_intake _, opStateTold_quantity _, opStateTold_tally _, opStateTold_integ _, by rw [mgmt], ctrl,
      entries, halted, tags, opStateTold_park _, fun new => ?_, opStateTold_completion _, fun same => ?_⟩
    · rw [opStateTold_park]
      rfl
    · rw [timer]
      rfl
    · rw [timer]
      rfl
    · rw [port]
      exact take_answered rfl more
    · rw [State.OnlyRpq, port]
      rfl
    · obtain ⟨-, -, raised, targets⟩ := configTold_changed w new
      obtain ⟨pending, detail, -⟩ := raised.modeChange
      exact ⟨targets.target, pending, detail, configTold_changed w new⟩
    · obtain ⟨cmd, notice, -⟩ := configTold_kept (s := a) same
      exact ⟨cmd, notice⟩
  · let a := s.answeredPlain tag (codeByte 17 0) .done
    have w : a.Undamaged := u.of_tables rfl
    have first : (a.ctrl.reports.find? fun x => x.source == r.source) = some r := by
      have one : a.ctrl.reports = [r] := one
      rw [one]
      simp
    have alive : a.alive = true := ht.1
    have taken : exec (.controllerReport r.source) a = .next after := taken
    rw [exec_controllerReport alive w first] at taken
    obtain rfl := Host.Outcome.next.inj taken
    have rest := reportTaken_rest r a
    have mgmt : ((a.reportOff r).reportTaken r).mgmt = a.mgmt := (congrArg State.mgmt rest :)
    have park : ((a.reportOff r).reportTaken r).park = a.park := (congrArg State.park rest :)
    have still : ((a.reportOff r).reportTaken r).alive = a.alive := (congrArg State.alive rest :)
    have none : ((a.reportOff r).reportTaken r).ctrl.reports = [] := by
      have one : a.ctrl.reports = [r] := one
      rw [reportTaken_ctrl, absorbed_reportOff]
      simp only [one, List.erase_cons_head]
    rw [exec_enterConfig_waiting ht inRun u one]
    refine (exec_enterConfig_everyNode (still.trans alive) (by rw [mgmt]; exact inRun)
      (w.of_tables (reportTaken_tables r a)) none ?_).symm
    generalize (a.reportOff r).reportTaken r = x at park
    obtain ⟨⟩ := x
    subst park
    rfl
  · intro s src tag tag' flap blower duration fc ht hd fitted node inRun u quiet mode choice hb low high shut
      conditions causes again
    obtain ⟨choice, may⟩ := may_override choice
    let b := (s.answeredDn src tag' (codeByte 21 0) (plain .done)).overridden ⟨fc, blower.toNat, duration.toNat, .panel⟩
    let a := b.reportTimers.answeredPlain tag (codeByte 17 0) .done
    let r : Report := .timers b.timer.view
    have first : exec (.override (onDn src tag') flap blower duration) s = .next b.reportTimers := by
      refine exec_panel_done rfl rfl hd fitted node rfl (in_run inRun) (more := []) (owed := []) ?_ (List.append_nil _).symm
      rw [overrideOf_good choice hb low high]
      exact overrideReply_set (v := ⟨s.answeredDn src tag' (codeByte 21 0) (plain .done), []⟩) may mode
    have one : b.reportTimers.ctrl.reports = [r] := by
      have quiet : b.ctrl.reports = [] := quiet
      simp [State.reportTimers, State.report, quiet, r]
    have w : a.Undamaged := u.of_tables rfl
    have manual : a.modeAfter r = .manual := modeAfter_manual inRun again shut rfl
    have same : ((a.reportOff r).reportTaken r).ctrl.conditions = a.ctrl.conditions := by
      rw [reportTaken_conditions, absorbed_reportOff]
      exact conditions.symm
    have changed := reportTaken_changed w same (by rw [manual]; exact Ne.symm mode) fun _ => rfl
    rw [manual] at changed
    have now : ((a.reportOff r).reportTaken r).ctrl.mode = .manual := (reportTaken_mode r a).trans manual
    refine ⟨_, (a.reportOff r).reportTaken r, _, first, exec_enterConfig_waiting (s := b.reportTimers) (r := r) ?_ inRun (u.of_tables rfl) one, rfl,
      changed, configTold_changed (w.of_tables (reportTaken_tables r a)) (by rw [now]; decide), ?_, ?_,
      configTold_stopped _, ?_⟩
    · exact ht
    · rw [opStateTold_mgmt]
      rfl
    · rw [configTold_ctrl]
    · rw [configTold_ctrl, reportTaken_ctrl, absorbed_reportOff]
      exact (congrArg (fun q : List Report => q.erase r) one).trans (List.erase_cons_head ..)

end Sys2Proof.Machine
end

section
/-! SUPPORT. ENTER_RUN. -/
namespace Sys2Proof.Machine
open Sys2Proof

/-! ### The validation -/

/-- A setup seen that is UNUSED. -/
def seenUnused (su : Option SlotSetup) : Bool := su.any (·.kind == .unused)

/-- A map entry seen, valid, and naming an UNUSED slot whose setup is seen. -/
def State.namesUnused (s : State) (i : Fin 64) : Bool := (s.mapSeen i).any fun c => c.valid && seenUnused (s.setupSeen c.slot)

/-- The verdict of the validation, no damage being new. -/
def State.runCheck (s : State) : Option RunCheck :=
  if s.ctrl.bindings.outPm.isNone then some .noOutPm
  else if s.ctrl.bindings.cabCo2.isNone then some .noCabCo2
  else if mapIndexes.any s.namesUnused then some .mapToUnused
  else if s.fits .flap then
    if s.fits .blower then if s.integ.faultList.isEmpty then none else some .faultsPresent
    else some .noBlower
  else some .noFlap

theorem mapToUnused_run {v : Event} (k : ∀ e, v.state.Known e) (is : List (Fin 64)) :
    mapToUnused is v = .ok (is.any v.state.namesUnused) v := by
  induction is with
  | nil => rfl
  | cons i is ih =>
    rw [mapToUnused, Act.bind_ok (readMapEntry_known (k _)), List.any_cons, State.namesUnused]
    cases v.state.mapSeen i with
    | none => exact (Act.bind_ok ih).trans rfl
    | some c =>
      simp only [Option.any]
      cases c.valid with
      | false => exact (Act.bind_ok ih).trans rfl
      | true =>
        refine (Act.bind_ok (readSetup_known (k _))).trans ((Act.bind_ok ih).trans ?_)
        cases v.state.setupSeen c.slot <;> rfl

theorem validateActuators_run {v : Event} (k : ∀ e, v.state.Known e) : validateActuators v = .ok
    (if v.state.fits .flap then
      if v.state.fits .blower then if v.state.integ.faultList.isEmpty then none else some .faultsPresent
      else some .noBlower
    else some .noFlap) v := by
  rw [validateActuators, Act.bind_ok (readActuator_known (k _)), State.fits]
  cases flap : v.state.actuatorSeen .flap with
  | none => rfl
  | some f =>
    refine (Act.bind_ok (readActuator_known (k _))).trans ?_
    rw [State.fits]
    cases blower : v.state.actuatorSeen .blower <;> rfl

theorem validateRun_run {v : Event} (k : ∀ e, v.state.Known e) : validateRun v = .ok v.state.runCheck v := by
  rw [validateRun, Act.bind_ok (Act.look_run _ _), State.runCheck]
  cases v.state.ctrl.bindings.outPm with
  | none => rfl
  | some o =>
    cases v.state.ctrl.bindings.cabCo2 with
    | none => rfl
    | some o' =>
      refine (Act.bind_ok (mapToUnused_run k mapIndexes)).trans ?_
      cases mapIndexes.any v.state.namesUnused with
      | true => rfl
      | false => exact validateActuators_run k

theorem namesUnused_any (s : State) : mapIndexes.any s.namesUnused = true ↔
    ∃ i : Fin 64, s.intake.map[i].content.valid = true ∧ s.isFaulted (.channelMap i) = false ∧
      s.isFaulted (.slotSetup s.intake.map[i].content.slot) = false ∧
      s.quantity.setups[s.intake.map[i].content.slot].content.kind = .unused := by
  rw [List.any_eq_true]
  refine ⟨?_, ?_⟩
  · rintro ⟨i, -, named⟩
    refine ⟨i, ?_⟩
    simp only [State.namesUnused, State.mapSeen, State.setupSeen, seenUnused] at named
    cases map : s.isFaulted (.channelMap i)
    · rw [map] at named
      cases setup : s.isFaulted (.slotSetup s.intake.map[i].content.slot) <;> simp_all
    · simp [map] at named
  · rintro ⟨i, valid, map, setup, kind⟩
    refine ⟨i, List.mem_finRange i, ?_⟩
    have mapSeen : s.mapSeen i = some s.intake.map[i].content := if_neg (Bool.eq_false_iff.1 map)
    have setupSeen : s.setupSeen s.intake.map[i].content.slot =
        some s.quantity.setups[s.intake.map[i].content.slot].content := if_neg (Bool.eq_false_iff.1 setup)
    rw [State.namesUnused, mapSeen, Option.any, valid, setupSeen, seenUnused, Option.any, kind]
    rfl

theorem fits_iff (s : State) (a : Actuator) :
    s.fits a = true ↔ (s.cmd.entries.get a).content.present = true ∧ s.isFaulted (.actuator a) = false := by
  simp only [State.fits, State.actuatorSeen]
  cases s.isFaulted (.actuator a) <;> cases (s.cmd.entries.get a).content.present <;> simp

/-- ENTER_RUN refused by a check. -/
theorem exec_enterRun_invalid {s : State} {tag : Byte} (ht : s.TakesRequest) (inConfig : s.mgmt.opState = .config)
    (k : ∀ e, s.Known e) {c : RunCheck} (failing : s.runCheck = some c) {n : Byte} (code : byteOf c.code = n) :
    exec (.enterRun (gateway tag)) s = .next (s.answered tag (codeByte 18 0) ⟨.invalid, [n]⟩) := by
  subst code
  let a := s.answeredPlain tag (codeByte 18 0) .done
  have tables : a.tables = s.tables := rfl
  have failing : a.runCheck = some c := failing
  refine exec_gateway_quiet rfl rfl ht (in_config inConfig) ?_
  have validated := validateRun_run (v := ⟨a, []⟩) fun e => (k e).of_tables tables
  rw [failing] at validated
  exact (Act.bind_ok validated).trans rfl

/-! ### RUN entered -/

/-- What ENTER_RUN does ahead of the mode. -/
def State.runWork (s : State) : State := (s.setOpState .run).onTimer TimerUnit.enterRun

theorem TimerUnit.enterRun_rest (t : TimerUnit) : { t.enterRun with measurement := t.measurement } = t := by
  unfold TimerUnit.enterRun
  split <;> rfl

theorem TimerUnit.enterRun_view (t : TimerUnit) : t.enterRun.view = t.view :=
  (congrArg TimerUnit.view t.enterRun_rest :)

theorem TimerUnit.enterRun_measurement {t : TimerUnit} (rearmed : t.measurement = ⟨0, false, 0⟩) :
    t.enterRun.measurement = ⟨0, t.doorOpen, 0⟩ := by
  unfold TimerUnit.enterRun
  split
  next h => rw [h]; rfl
  next h => rw [Bool.eq_false_iff.2 h]; exact rearmed

theorem onTimer_tables {f : TimerUnit → TimerUnit} {s : State} (bins : (f s.timer).bins = s.timer.bins) :
    (s.onTimer f).tables = s.tables := by
  simp only [State.tables, State.onTimer, bins]

theorem runWork_tables (s : State) : s.runWork.tables = s.tables :=
  (onTimer_tables (s := s.setOpState .run) (congrArg TimerUnit.bins s.timer.enterRun_rest :)).trans rfl

theorem enterRunReply_run {v : Event} (u : v.state.Undamaged) (quiet : v.state.ctrl.reports = [])
    (passed : v.state.runCheck = none) :
    enterRunReply v = .ok (plain .done) ⟨v.state.runWork.opStateTold, v.owed⟩ := by
  have w : v.state.runWork.Undamaged := u.of_tables (runWork_tables v.state)
  have validated := validateRun_run fun e => u.known e
  rw [passed] at validated
  refine (Act.bind_ok validated).trans ?_
  exact Act.bind_ok (changeOpState_run (w := ⟨v.state.runWork, v.owed⟩) quiet rfl w)

end Sys2Proof.Machine
end

section
/-! SUPPORT. ENTER_RUN: the settlement. -/
namespace Sys2Proof.Machine
open Sys2Proof

/-! ### The verdict, check by check -/

section
variable {s : State}

theorem runCheck_noOutPm (h : s.ctrl.bindings.outPm = none) : s.runCheck = some .noOutPm := by
  rw [State.runCheck, h]
  rfl

theorem isNone_false {α : Type} {o : Option α} (h : o ≠ none) : ¬o.isNone = true := by simpa using h

theorem runCheck_noCabCo2 (outPm : s.ctrl.bindings.outPm ≠ none) (h : s.ctrl.bindings.cabCo2 = none) :
    s.runCheck = some .noCabCo2 := by
  rw [State.runCheck, if_neg (isNone_false outPm), h]
  rfl

section
variable (outPm : s.ctrl.bindings.outPm ≠ none) (cabCo2 : s.ctrl.bindings.cabCo2 ≠ none)
include outPm cabCo2

theorem runCheck_mapToUnused (h : mapIndexes.any s.namesUnused = true) : s.runCheck = some .mapToUnused := by
  rw [State.runCheck, if_neg (isNone_false outPm), if_neg (isNone_false cabCo2), if_pos h]

variable (used : ¬mapIndexes.any s.namesUnused = true)
include used

theorem runCheck_noFlap (h : ¬s.fits .flap = true) : s.runCheck = some .noFlap := by
  rw [State.runCheck, if_neg (isNone_false outPm), if_neg (isNone_false cabCo2), if_neg used, if_neg h]

variable (flap : s.fits .flap = true)
include flap

theorem runCheck_noBlower (h : ¬s.fits .blower = true) : s.runCheck = some .noBlower := by
  rw [State.runCheck, if_neg (isNone_false outPm), if_neg (isNone_false cabCo2), if_neg used, if_pos flap, if_neg h]

theorem runCheck_faults (h : s.fits .blower = true) :
    s.runCheck = if s.integ.faultList.isEmpty then none else some .faultsPresent := by
  rw [State.runCheck, if_neg (isNone_false outPm), if_neg (isNone_false cabCo2), if_neg used, if_pos flap, if_pos h]

end

/-! ### RUN entered -/

theorem runTold_mode (s : State) :
    s.runWork.opStateTold.ctrl.mode = s.precedenceMode { s.ctrl with timerView := s.timer.view } := by
  rw [opStateTold_mode, nextMode_run (s := s.runWork) rfl]
  have view : s.runWork.timer.view = s.timer.view := s.timer.enterRun_view
  rw [view]
  rfl

theorem runTold_view (s : State) : s.runWork.opStateTold.timer.view = s.runWork.timer.view := by
  rw [opStateTold_timer]
  rfl

theorem runTold_ctrl (s : State) : s.runWork.opStateTold.ctrl =
    { s.ctrl with mode := s.runWork.opStateTold.ctrl.mode, timerView := s.runWork.opStateTold.timer.view } := by
  rw [opStateTold_mode, runTold_view]
  exact opStateTold_ctrl s.runWork

theorem runTold_changed (u : s.Undamaged) (new : s.runWork.opStateTold.ctrl.mode ≠ s.ctrl.mode)
    (held : s.runWork.opStateTold.ctrl.mode = .manual → s.timer.overrideRecord.isSome = true) :
    s.ChangedMode s.runWork.opStateTold s.runWork.opStateTold.ctrl.mode
      (s.targetsFor s.runWork.opStateTold.ctrl.mode s.ctrl.conditions.dirtyIn) := by
  have w : s.runWork.Undamaged := u.of_tables (runWork_tables s)
  have record : s.runWork.timer.overrideRecord = s.timer.overrideRecord :=
    (congrArg TimerUnit.overrideRecord s.timer.enterRun_rest :)
  have handovers : s.timer.handovers = s.runWork.timer.handovers :=
    (congrArg TimerUnit.handovers s.timer.enterRun_rest :).symm
  have content : s.runWork.targetsFor s.runWork.nextMode s.runWork.ctrl.conditions.dirtyIn =
      s.targetsFor s.runWork.nextMode s.ctrl.conditions.dirtyIn := by
    simp only [State.targetsFor, record]
    rfl
  rw [opStateTold_mode] at new held ⊢
  rw [← content]
  exact (opStateTold_changed w new (by rw [record]; exact held)).congr handovers rfl rfl rfl rfl rfl rfl rfl rfl

theorem runTold_kept (same : s.runWork.opStateTold.ctrl.mode = s.ctrl.mode) :
    { s.runWork.opStateTold with mgmt := s.mgmt, ctrl := s.ctrl, timer := s.timer } = s := by
  rw [opStateTold_mode] at same
  obtain ⟨cmd, notice, port⟩ := opStateTold_kept (s := s.runWork) same
  have rest := congrArg (fun x : State => { x with mgmt := s.mgmt, timer := s.timer }) (opStateTold_rest s.runWork)
  generalize s.runWork.opStateTold = t at cmd notice port rest ⊢
  have back : { t with mgmt := s.mgmt, ctrl := s.ctrl, timer := s.timer } =
      { t with ctrl := s.ctrl, timer := s.timer, cmd := t.cmd, notice := t.notice, port := t.port, mgmt := s.mgmt } := rfl
  rw [back, cmd, notice, port]
  exact rest

end

/-- The Controller told of the operating state lengthens RPQ, and does no more to the Port Unit. -/
theorem opStateTold_more (s : State) : ∃ more, s.opStateTold.port = { s.port with rpq := s.port.rpq ++ more } := by
  by_cases same : s.nextMode = s.ctrl.mode
  · obtain ⟨-, -, port⟩ := opStateTold_kept same
    exact ⟨[], by rw [port, List.append_nil]⟩
  · have raised := settledOn_raised (m := s.nextMode) (h := ⟨none, none, none, none⟩) (dirtyIn := false)
      (s := s.onCtrl fun c => { c with timerView := s.timer.view }) same
    exact raised.more

/-! ### The settlement -/

/-- Settles O36: the checks in their order, first without damage, then with a Fault List. -/
theorem enterRunValidatesAndChoosesTheMode : Obligations.EnterRunValidatesAndChoosesTheMode := by
  refine ⟨fun s tag ht inConfig safe u quiet rearmed => ?_, fun s tag ht inConfig known faults outPm cabCo2 => ?_⟩
  · have k (e : EntryId) : s.Known e := u.known e
    have unused : mapIndexes.any s.namesUnused = true ↔ ∃ i : Fin 64, s.intake.map[i].content.valid = true ∧
        s.quantity.setups[s.intake.map[i].content.slot].content.kind = .unused := by
      simp only [namesUnused_any, u.isFaulted, true_and]
    have flap : s.fits .flap = s.cmd.entries.flap.content.present := fits_undamaged u .flap
    have blower : s.fits .blower = s.cmd.entries.blower.content.present := fits_undamaged u .blower
    simp only [← unused, ← flap, ← blower, ← Bool.not_eq_true]
    have refused {c : RunCheck} (failing : s.runCheck = some c) {n : Byte} (code : byteOf c.code = n) :=
      exec_enterRun_invalid (tag := tag) ht inConfig k failing code
    refine ⟨fun h => refused (runCheck_noOutPm h) rfl, fun outPm h => refused (runCheck_noCabCo2 outPm h) rfl,
      fun outPm cabCo2 => ⟨fun h => refused (runCheck_mapToUnused outPm cabCo2 h) rfl,
        fun used h => refused (runCheck_noFlap outPm cabCo2 used h) rfl,
        fun used flap h => refused (runCheck_noBlower outPm cabCo2 used flap h) rfl, fun used flap blower => ?_⟩⟩
    let a := s.answeredPlain tag (codeByte 18 0) .done
    have passed : s.runCheck = none := by
      rw [runCheck_faults outPm cabCo2 used flap blower, u.1]
      rfl
    obtain ⟨more, port⟩ := opStateTold_more a.runWork
    have run : exec (.enterRun (gateway tag)) s = .next a.runWork.opStateTold :=
      exec_gateway_done rfl rfl ht (in_config inConfig) (owed := [])
        (enterRunReply_run (v := ⟨a, []⟩) (u.of_tables rfl) quiet passed) (congrArg PortUnit.rpq port)
    have mgmt : a.runWork.opStateTold.mgmt = { s.mgmt with opState := .run } := opStateTold_mgmt _
    refine ⟨_, run, by rw [mgmt], runTold_mode a, ?_, ?_, opStateTold_intake _, opStateTold_quantity _,
      opStateTold_tally _, opStateTold_integ _, by rw [mgmt], runTold_ctrl a, fun still => ?_, fun new held => ?_⟩
    · rw [opStateTold_timer]
      exact TimerUnit.enterRun_measurement rearmed
    · rw [port]
      exact take_answered rfl more
    · exact runTold_kept (s := a) (still.trans safe.symm)
    · exact ⟨runTold_changed (s := a) (u.of_tables rfl) (by rw [show a.ctrl.mode = .safe from safe]; exact new) held,
        opStateTold_completion _⟩
  · have refused {c : RunCheck} (failing : s.runCheck = some c) {n : Byte} (code : byteOf c.code = n) :=
      exec_enterRun_invalid (tag := tag) ht inConfig known failing code
    simp only [← namesUnused_any, ← fits_iff]
    refine ⟨fun h => refused (runCheck_mapToUnused outPm cabCo2 h) rfl,
      fun used h => refused (runCheck_noFlap outPm cabCo2 used h) rfl,
      fun used flap h => refused (runCheck_noBlower outPm cabCo2 used flap h) rfl, fun used flap blower => ?_⟩
    refine refused (c := .faultsPresent) ?_ rfl
    rw [runCheck_faults outPm cabCo2 used flap blower, if_neg (by simpa using faults)]

end Sys2Proof.Machine
end

section
/-! SUPPORT. Every slot emptied: what the Controller makes of it. -/
namespace Sys2Proof.Machine
open Sys2Proof

/-- What is reported of a slot whose own state is empty. -/
def emptiedView (faulted : Bool) : SlotView := ⟨if faulted then .fault else .empty, false, false⟩

theorem emptySlots_slots (timers : Fin 32 → Option Nat) (s : State) (i : Fin 32) :
    (s.emptySlots timers).quantity.slots[i] = emptiedSlot (timers i) := QuantityTable.emptyAll_get _ _ i

theorem emptySlots_views (timers : Fin 32 → Option Nat) (s : State) (i : Fin 32) :
    (s.emptySlots timers).slotViews[i] = emptiedView (s.isFaulted (.slotSetup i)) := by
  rw [State.slotViews_get]
  cases h : s.isFaulted (.slotSetup i)
  · rw [State.emptySlots_seen_good timers h]
    rfl
  · rw [State.slotSeen_faulted (s := s.emptySlots timers) h, emptySlots_slots]
    rfl

section
variable {b : PerRole (Option (Fin 32))} {views : Vector SlotView 32} {faulted : Fin 32 → Bool}
  (each : ∀ i : Fin 32, views[i] = emptiedView (faulted i))
include each

theorem roleView_emptied (r : Role) : ∃ f, roleView b views r = emptiedView f := by
  unfold roleView
  cases b.get r with
  | none => exact ⟨false, rfl⟩
  | some i => exact ⟨faulted i, each i⟩

/-- With no usable slot DIRTY_OUT alone holds. -/
theorem deriveConditions_emptied : deriveConditions b views = ⟨true, false, false, false, false, false, false⟩ := by
  have unusable (r : Role) : (roleView b views r).status.usable = false := by
    obtain ⟨f, view⟩ := roleView_emptied (b := b) each r
    rw [view]
    cases f <;> rfl
  simp only [deriveConditions, unusable]
  rfl

end

/-- Of the emptied slots those with a faulted setup alone make INPUT_LOST a cause. -/
theorem deriveCauses_emptied {critical : Byte} {c : Controller} {faulted : Fin 32 → Bool}
    (each : ∀ i : Fin 32, c.slotViews[i] = emptiedView (faulted i)) :
    (deriveCauses critical c).inputLost = true ↔
      ∃ r i, critical.getLsbD r.bit = true ∧ c.bindings.get r = some i ∧ faulted i = true := by
  have lost (i : Fin 32) : (c.slotViews[i].status = .stale ∨ c.slotViews[i].status = .fault) ↔ faulted i = true := by
    rw [each]
    cases faulted i <;> simp [emptiedView]
  simp only [deriveCauses_inputLost, lost]

/-- The causes derived from slots emptied from `s`. -/
theorem causesOnceEmptied {s : State} {c : Controller}
    (each : ∀ i : Fin 32, c.slotViews[i] = emptiedView (s.isFaulted (.slotSetup i)))
    (bindings : c.bindings = s.ctrl.bindings) :
    s.CausesOnceEmptied c.faultsReported (deriveCauses s.paramsSeen.criticalRoles c) := by
  have critical : (if s.isFaulted .params then State.reset.mgmt.params.content.criticalRoles
      else s.mgmt.params.content.criticalRoles) = s.paramsSeen.criticalRoles := by
    rw [State.paramsSeen]
    split <;> rfl
  unfold State.CausesOnceEmptied
  rw [critical, ← bindings]
  exact ⟨rfl, deriveCauses_emptied each⟩

theorem State.CausesOnceEmptied.undamaged {s : State} (u : s.Undamaged) {b : Bool} {c : SafeCauses}
    (h : s.CausesOnceEmptied b c) : c = ⟨b, false⟩ := by
  obtain ⟨table, lost⟩ := h
  have none : c.inputLost = false := by
    rw [Bool.eq_false_iff, ne_eq, lost]
    rintro ⟨r, i, -, -, faulted⟩
    rw [u.isFaulted] at faulted
    cases faulted
  obtain ⟨_, _⟩ := c
  cases table
  cases none
  rfl

end Sys2Proof.Machine
end

section
/-! SUPPORT. The link reset. -/
namespace Sys2Proof.Machine
open Sys2Proof

theorem linkCleared_eq (reply : Option Frame) (s : State) : s.linkCleared reply = { s with
    port := { PowerOn.port with rpq := reply.toList }
    timer := s.timer.linkReset
    quantity := s.quantity.emptyAll s.staleStart
    draws := s.draws + 32
    intake := s.intake.linkReset
    park := { s.park with preclean := none, wakeMinutes := 0, wakeTimer := none }
    cmd := s.cmd.cleared
    mgmt := { s.mgmt with opState := .config }
    ctrl := { s.ctrl.linkReset (!s.integ.faultList.isEmpty) (s.emptySlots s.staleStart).slotViews s.timer.linkReset.view with
      mode := .safe }
    notice := { s.notice with airLamp := s.notice.airLamp.show (airPattern .safe) } } := by
  obtain ⟨⟩ := s
  rfl
/-- The SAFE causes derived from the parameters as they are read. -/
def State.causesDerived (s : State) : State :=
  s.onCtrl fun c => { c with causes := deriveCauses s.paramsSeen.criticalRoles c }

theorem causesDerived_tables (s : State) : s.causesDerived.tables = s.tables := rfl

theorem causesAgain_run {v : Event} (k : v.state.Known .params) : causesAgain v = .ok () ⟨v.state.causesDerived, v.owed⟩ := by
  rw [causesAgain, Act.bind_ok (readParams_known k)]
  rfl

/-- The link reset, up to the notices. -/
def State.linkDerived (reply : Option Frame) (s : State) : State :=
  (s.linkCleared reply).causesDerived.targetsHanded PowerOn.safeTargets

/-- The state a link reset leaves. -/
def State.linked (reply : Option Frame) (s : State) : State :=
  ((s.linkDerived reply).onNotice NoticeUnit.clearRecords).startWith .linkReset

theorem linkCleared_tables (reply : Option Frame) (s : State) : (s.linkCleared reply).tables = s.tables := by
  rw [linkCleared_eq]
  rfl

theorem paramsSeen_of_tables {s t : State} (h : t.tables = s.tables) : t.paramsSeen = s.paramsSeen := by
  have params : t.mgmt.params = s.mgmt.params := by
    simp only [State.tables, Prod.mk.injEq] at h
    obtain ⟨-, -, -, -, -, -, params⟩ := h
    exact params
  simp only [State.paramsSeen, isFaulted_of_tables h, params]

theorem linkReset_run {v : Event} (k : ∀ e, v.state.Known e) (reply : Option Frame) :
    linkReset reply v = .ok () ⟨v.state.linked reply, v.owed⟩ := by
  have tables := linkCleared_tables reply v.state
  rw [linkReset, State.linked, State.linkDerived, Act.bind_ok (Act.upd_run _ _)]
  generalize v.state.linkCleared reply = x at tables ⊢
  have params : x.Known .params := (k .params).of_tables tables
  have actuators (a : Actuator) : x.causesDerived.Known (.actuator a) :=
    (k (.actuator a)).of_tables ((causesDerived_tables x).trans tables)
  rw [Act.bind_ok (causesAgain_run (v := ⟨x, v.owed⟩) params),
    Act.bind_ok (handTargets_run (v := ⟨x.causesDerived, v.owed⟩) actuators _)]
  rfl

section
variable {s : State} {tag : Byte} (alive : s.alive = true) (awake : s.mgmt.opState ≠ .parked) (k : ∀ e, s.Known e)
include alive awake k

theorem exec_reset {o : Origin} (from_ : fromGateway o = true) : exec (.reset o) s = .next (s.linked
    (if o.broadcast then none else some (replyFrame o.src o.tag (codeByte 32 0) (plain .done)))) := by
  refine live_run_plain alive ?_
  have running : (s.mgmt.opState == OpState.parked) = false := by simpa using awake
  simp only [resetRequest, Act.bind_run, Act.look_run, from_, running, if_true, Bool.not_false, onlyIf_true]
  exact linkReset_run (v := ⟨s, []⟩) k _

theorem exec_reset_gateway : exec (.reset (gateway tag)) s =
    .next (s.linked (some (replyFrame 0 tag (codeByte 32 0) (plain .done)))) := exec_reset alive awake k rfl

theorem exec_reset_everyNode : exec (.reset (toEveryNode tag)) s = .next (s.linked none) := exec_reset alive awake k rfl

end

/-! ### What the link reset leaves -/

section
variable (reply : Option Frame) (s : State)

theorem linkCleared_slots (i : Fin 32) :
    (s.linkCleared reply).quantity.slots[i] = emptiedSlot (s.staleStart i) := by
  rw [linkCleared_eq]
  exact emptySlots_slots _ s i

theorem linkCleared_views (i : Fin 32) :
    (s.linkCleared reply).ctrl.slotViews[i] = emptiedView (s.isFaulted (.slotSetup i)) := by
  rw [linkCleared_eq]
  exact emptySlots_views s.staleStart s i

theorem linkCleared_causes : s.CausesOnceEmptied (!s.integ.faultList.isEmpty)
    (s.linkCleared reply).causesDerived.ctrl.causes := by
  have each := linkCleared_views reply s
  have seen : (s.linkCleared reply).paramsSeen = s.paramsSeen := paramsSeen_of_tables (linkCleared_tables reply s)
  have bindings : (s.linkCleared reply).ctrl.bindings = s.ctrl.bindings := by rw [linkCleared_eq]; rfl
  have told : (s.linkCleared reply).ctrl.faultsReported = !s.integ.faultList.isEmpty := by rw [linkCleared_eq]; rfl
  have causes := causesOnceEmptied each bindings
  rw [told, ← seen] at causes
  exact causes

/-- The targets and the notices put nothing in the way of the rest. -/
theorem linked_rest : { s.linked reply with
      cmd := s.cmd, notice := s.notice, port := s.port, park := s.park } =
    { (s.linkCleared reply).causesDerived with cmd := s.cmd, notice := s.notice, port := s.port, park := s.park } := by
  rw [State.linked, State.linkDerived]
  generalize (s.linkCleared reply).causesDerived = x
  have rest := raiseRecord_rest .start (.startCause .linkReset)
    (((x.targetsHanded PowerOn.safeTargets).onNotice NoticeUnit.clearRecords).onPark fun p =>
      { p with startCause := .linkReset })
  exact congrArg (fun y : State => { y with cmd := s.cmd, notice := s.notice, port := s.port, park := s.park }) rest

theorem linkDerived_park : (s.linkDerived reply).park =
    { s.park with preclean := none, wakeMinutes := 0, wakeTimer := none } := by
  rw [State.linkDerived, linkCleared_eq]
  rfl

theorem linked_park : (s.linked reply).park =
    { s.park with startCause := .linkReset, preclean := none, wakeMinutes := 0, wakeTimer := none } := by
  simp only [State.linked, State.startWith, State.raiseRecord_park, State.onPark_park, State.onNotice_park,
    linkDerived_park]

theorem linked_cmd : (s.linked reply).cmd = (s.linkDerived reply).cmd := State.startWith_cmd ..

theorem linked_raised : ((s.linkDerived reply).onNotice NoticeUnit.clearRecords).RaisedFrom (s.linked reply) .start
    (.startCause .linkReset) 0 := by
  rw [State.linked]
  generalize (s.linkDerived reply).onNotice NoticeUnit.clearRecords = x
  exact (raiseRecord_raisedFrom .start (.startCause .linkReset) (x.onPark fun p =>
    { p with startCause := .linkReset })).congr rfl rfl rfl rfl

theorem clearRecords_record (s : State) (k : NoticeKind) : (s.onNotice NoticeUnit.clearRecords).noticeRecord k =
    ⟨false, (s.noticeRecord k).masked, none, 0, false, none⟩ := mapTable_get NoticeRecord.cleared s.notice.records k.index

theorem linkDerived_notice : (s.linkDerived reply).notice =
    { s.notice with airLamp := s.notice.airLamp.show (airPattern .safe) } := by
  rw [State.linkDerived, linkCleared_eq]
  rfl

theorem linkDerived_port : (s.linkDerived reply).port = { PowerOn.port with rpq := reply.toList } := by
  rw [State.linkDerived, linkCleared_eq]
  rfl

theorem linkDerived_record (k : NoticeKind) : (s.linkDerived reply).noticeRecord k = s.noticeRecord k := by
  rw [State.noticeRecord, linkDerived_notice]
  rfl

theorem linked_record_start : (s.linked reply).noticeRecord .start =
    ⟨true, (s.noticeRecord .start).masked, some (.startCause .linkReset), 1, false, none⟩ := by
  obtain ⟨record, -⟩ := linked_raised reply s
  rw [record, clearRecords_record, linkDerived_record]
  rfl

theorem linked_record_other {k : NoticeKind} (h : k ≠ .start) : (s.linked reply).noticeRecord k =
    ⟨false, (s.noticeRecord k).masked, none, 0, false, none⟩ := by
  obtain ⟨-, others, -⟩ := linked_raised reply s
  rw [others k h, clearRecords_record, linkDerived_record]

theorem linked_port : (s.linked reply).port = { PowerOn.port with rpq := reply.toList ++
    if (s.noticeRecord .start).masked then []
    else [noticeFrame 0 s.notice.tagCounter .start (.startCause .linkReset)] } := by
  obtain ⟨-, -, -, -, -, port⟩ := linked_raised reply s
  have room : (Option.toList reply).length < 8 := by cases reply <;> simp
  rw [port, clearRecords_record, linkDerived_record, State.onNotice_port, linkDerived_port]
  exact congrArg (fun q => ({ PowerOn.port with rpq := reply.toList ++ q } : PortUnit)) ((if_pos room).trans (by
    rw [State.onNotice_notice, NoticeUnit.clearRecords, linkDerived_notice]
    rfl))

end

end Sys2Proof.Machine
end

section
/-! SUPPORT. RESET: the settlement. -/
namespace Sys2Proof.Machine
open Sys2Proof

section
variable {reply : Option Frame} {s : State}

theorem linkDerived_targets (u : s.Undamaged) :
    ({ s with cmd := s.cmd.cleared } : State).TargetsHanded (s.linkDerived reply) PowerOn.safeTargets := by
  have w : (s.linkCleared reply).causesDerived.Undamaged := u.of_tables (linkCleared_tables reply s)
  have cmd : (s.linkCleared reply).causesDerived.cmd = s.cmd.cleared := by
    rw [State.causesDerived, linkCleared_eq]
    rfl
  exact (targetsHanded_spec w PowerOn.safeTargets).congr cmd.symm rfl

theorem linkDerived_delivery (u : s.Undamaged) (a : Actuator) : (s.linkDerived reply).cmd.delivery.get a =
    ⟨some (PowerOn.targetOf ⟨20, 8, true, true⟩ a),
      if (s.cmd.entries.get a).content.present then some (PowerOn.targetOf ⟨20, 8, true, true⟩ a) else none,
      none, none, none, false, none⟩ := by
  obtain ⟨each, -⟩ := linkDerived_targets (reply := reply) u
  rw [each]
  cases a <;> simp [CommandEngine.cleared, PerActuator.get, PowerOn.delivery, PowerOn.safeTargets] <;> rfl

theorem linkDerived_cmq (u : s.Undamaged) :
    (s.linkDerived reply).cmd.cmq = Actuator.all.filter fun a => (s.cmd.entries.get a).content.present := by
  obtain ⟨-, cmd⟩ := linkDerived_targets (reply := reply) u
  rw [cmd]
  refine (List.nil_append _).trans (List.filter_congr fun a _ => ?_)
  cases a <;> simp [CommandEngine.cleared, PerActuator.get, PowerOn.delivery]

theorem linkDerived_kept (u : s.Undamaged) : (s.linkDerived reply).cmd.halted = false ∧
    (s.linkDerived reply).cmd.tagCounter = s.cmd.tagCounter ∧ (s.linkDerived reply).cmd.entries = s.cmd.entries := by
  obtain ⟨-, cmd⟩ := linkDerived_targets (reply := reply) u
  rw [cmd]
  exact ⟨rfl, rfl, rfl⟩

end

theorem raiseRecord_notice_congr {s t : State} (h : t.notice = s.notice) (k : NoticeKind) (d : Detail) :
    (t.raiseRecord k d).notice = (s.raiseRecord k d).notice := by
  have record : t.noticeRecord k = s.noticeRecord k := by rw [State.noticeRecord, State.noticeRecord, h]
  simp only [State.raiseRecord, record]
  by_cases sends : (!(s.noticeRecord k).pending && !(s.noticeRecord k).masked) = true
  · rw [if_pos sends, if_pos sends]
    simp only [State.sendNotice, State.setNotice, State.onNotice_notice, State.onPort_notice, h]
  · rw [if_neg sends, if_neg sends]
    simp only [State.setNotice, State.onNotice_notice, h]

/-- The reply of the link reset is all that its origin makes of it. -/
theorem linked_none (f : Frame) (s : State) :
    s.linked none = (s.linked (some f)).onPort fun p => { p with rpq := p.rpq.tail } := by
  have rest := linked_rest none s
  have rest' := linked_rest (some f) s
  have same : { (s.linkCleared none).causesDerived with cmd := s.cmd, notice := s.notice, port := s.port, park := s.park } =
      { (s.linkCleared (some f)).causesDerived with cmd := s.cmd, notice := s.notice, port := s.port, park := s.park } := by
    simp only [linkCleared_eq]
    rfl
  have derived : (s.linkDerived none).cmd = (s.linkDerived (some f)).cmd := by
    simp only [State.linkDerived, linkCleared_eq]
    rfl
  have cmd : (s.linked none).cmd = (s.linked (some f)).cmd := by rw [linked_cmd, linked_cmd, derived]
  have notice : (s.linked none).notice = (s.linked (some f)).notice :=
    raiseRecord_notice_congr (by
      simp only [State.onPark_notice, State.onNotice_notice, linkDerived_notice]) ..
  have port : (s.linked none).port =
      { (s.linked (some f)).port with rpq := (s.linked (some f)).port.rpq.tail } := by
    rw [linked_port, linked_port]
    rfl
  have park : (s.linked none).park = (s.linked (some f)).park := by rw [linked_park, linked_park]
  rw [same, ← rest'] at rest
  generalize s.linked none = t at *
  generalize s.linked (some f) = t' at *
  have back := congrArg (fun x : State => { x with cmd := t.cmd, notice := t.notice, port := t.port, park := t.park }) rest
  have full : t = { t' with cmd := t.cmd, notice := t.notice, port := t.port, park := t.park } := back
  rw [full, cmd, notice, port, park]
  rfl

section
variable (reply : Option Frame) (s : State)

theorem linked_ctrl : (s.linked reply).ctrl = (s.linkCleared reply).causesDerived.ctrl :=
  (congrArg State.ctrl (linked_rest reply s) :)

theorem linked_quantity : (s.linked reply).quantity = s.quantity.emptyAll s.staleStart := by
  refine (congrArg State.quantity (linked_rest reply s) :).trans ?_
  rw [State.causesDerived, linkCleared_eq]
  rfl

theorem linked_intake : (s.linked reply).intake = s.intake.linkReset := by
  refine (congrArg State.intake (linked_rest reply s) :).trans ?_
  rw [State.causesDerived, linkCleared_eq]
  rfl

theorem linked_timer : (s.linked reply).timer = s.timer.linkReset := by
  refine (congrArg State.timer (linked_rest reply s) :).trans ?_
  rw [State.causesDerived, linkCleared_eq]
  rfl

theorem linked_mgmt : (s.linked reply).mgmt = { s.mgmt with opState := .config } := by
  refine (congrArg State.mgmt (linked_rest reply s) :).trans ?_
  rw [State.causesDerived, linkCleared_eq]
  rfl

theorem linked_tally : (s.linked reply).tally = s.tally := by
  refine (congrArg State.tally (linked_rest reply s) :).trans ?_
  rw [State.causesDerived, linkCleared_eq]
  rfl

theorem linked_integ : (s.linked reply).integ = s.integ := by
  refine (congrArg State.integ (linked_rest reply s) :).trans ?_
  rw [State.causesDerived, linkCleared_eq]
  rfl

theorem linked_controller : (s.linked reply).ctrl =
    { s.ctrl with
      mode := .safe
      conditions := PowerOn.conditions
      slotViews := (s.linkCleared reply).ctrl.slotViews
      faultsReported := !s.integ.faultList.isEmpty
      timerView := s.timer.linkReset.view
      reports := []
      causes := (s.linked reply).ctrl.causes } := by
  rw [linked_ctrl, State.causesDerived, linkCleared_eq]
  rfl

theorem linked_slots (i : Fin 32) : (s.linked reply).quantity.slots[i] = emptiedSlot (s.staleStart i) := by
  rw [linked_quantity]
  exact QuantityTable.emptyAll_get ..

theorem linked_causes :
    s.CausesOnceEmptied (!s.integ.faultList.isEmpty) (s.linked reply).ctrl.causes := by
  rw [linked_ctrl]
  exact linkCleared_causes reply s

end

theorem staleStart_known {s : State} {i : Fin 32} (h : s.isFaulted (.slotSetup i) = false) : s.staleStart i =
    if s.quantity.setups[i].content.kind = .unused then none else some (s.quantity.setups[i].content.stale * 1000) := by
  rw [State.staleStart_good h]
  rfl

/-- Settles O41: the link reset field by field, with the reply and without, and with a Fault List. -/
theorem resetPerformsTheLinkReset : Obligations.ResetPerformsTheLinkReset := by
  refine ⟨fun s tag alive awake u => ?_, fun s tag alive awake known faults => ?_⟩
  · have k (e : EntryId) : s.Known e := u.known e
    have causes := (linked_causes (some (replyFrame 0 tag (codeByte 32 0) (plain .done))) s).undamaged u
    have everyNode := exec_reset_everyNode (tag := tag) alive awake k
    rw [linked_none (replyFrame 0 tag (codeByte 32 0) (plain .done))] at everyNode
    refine ⟨_, exec_reset_gateway alive awake k, ?_⟩
    have port := linked_port (some (replyFrame 0 tag (codeByte 32 0) (plain .done))) s
    generalize h : some (replyFrame 0 tag (codeByte 32 0) (plain .done)) = reply at *
    have controller := linked_controller reply s
    have mgmt := linked_mgmt reply s
    have timer := linked_timer reply s
    obtain ⟨free, tags, entries⟩ := linkDerived_kept (reply := reply) u
    refine ⟨by rw [mgmt], by rw [controller], by rw [port]; rfl, by rw [port]; rfl, by rw [port]; rfl, by rw [port]; rfl,
      by rw [port, ← h]; rfl, by rw [port]; rfl, by rw [port]; rfl, fun i => ?_, fun i => ?_, ?_, ?_, fun a => ?_, ?_, ?_, ?_,
      fun k other => linked_record_other reply s other, linked_record_start reply s, by rw [linked_park], ?_, ?_,
      by rw [controller], by rw [controller], by rw [timer]; rfl, by rw [timer]; rfl, by rw [mgmt], linked_tally reply s,
      linked_integ reply s, by rw [controller]; rfl, ?_, everyNode⟩
    · rw [linked_slots, staleStart_known (u.isFaulted _)]
      rfl
    · rw [linked_intake]
      exact Vector.getElem_replicate i.isLt
    · rw [timer]
      exact ⟨rfl, rfl, rfl, rfl, rfl, rfl, rfl⟩
    · rw [linked_cmd, linkDerived_cmq u]
    · rw [linked_cmd, linkDerived_delivery u]
    · rw [linked_cmd, free]
    · rw [linked_cmd, tags]
    · rw [linked_cmd, entries]
    · rw [linked_intake]
      rfl
    · rw [linked_quantity]
      rfl
    · rw [causes, u.1]
      rfl
  · refine ⟨_, exec_reset_gateway alive awake known, ?_⟩
    have causes := linked_causes (some (replyFrame 0 tag (codeByte 32 0) (plain .done))) s
    generalize some (replyFrame 0 tag (codeByte 32 0) (plain .done)) = reply at *
    have controller := linked_controller reply s
    have nonEmpty : (!s.integ.faultList.isEmpty) = true := by simpa using faults
    rw [nonEmpty] at causes
    refine ⟨by rw [linked_mgmt], by rw [controller], fun i => ⟨s.staleStart i, linked_slots reply s i,
      State.staleStart_faulted, staleStart_known, fun faulted => ?_⟩, by rw [controller]; rfl, fun i => ?_, causes,
      by rw [controller], by rw [controller], linked_integ reply s⟩
    · have still : (s.linked reply).isFaulted (.slotSetup i) = true := by
        rw [State.isFaulted, linked_integ]
        exact faulted
      rw [State.slotSeen_faulted still]
    · rw [linked_ctrl]
      exact linkCleared_views reply s i

end Sys2Proof.Machine
end

section
/-! SUPPORT. PARKED entry, and a PARKING cancelled. -/
namespace Sys2Proof.Machine
open Sys2Proof

/-! ### What a raise and a sub-event look at -/

/-- The notices and the ports stand alike. -/
def State.NoticesAlike (s t : State) : Prop := t.notice = s.notice ∧ t.port = s.port

theorem raiseRecord_alike {s t : State} (h : s.NoticesAlike t) (k : NoticeKind) (d : Detail) :
    (s.raiseRecord k d).NoticesAlike (t.raiseRecord k d) := by
  obtain ⟨notice, port⟩ := h
  have record : t.noticeRecord k = s.noticeRecord k := by rw [State.noticeRecord, State.noticeRecord, notice]
  refine ⟨raiseRecord_notice_congr notice k d, ?_⟩
  simp only [State.raiseRecord, record]
  by_cases sends : (!(s.noticeRecord k).pending && !(s.noticeRecord k).masked) = true
  · rw [if_pos sends, if_pos sends]
    simp only [State.sendNotice, State.setNotice, State.onNotice_notice, State.onNotice_port, State.onPort_port, notice, port]
  · rw [if_neg sends, if_neg sends]
    exact port

theorem raiseOverflows_alike {s t : State} (h : s.NoticesAlike t) (owed : List (Fin 4)) :
    (s.raiseOverflows owed).NoticesAlike (t.raiseOverflows owed) := by
  unfold State.raiseOverflows
  generalize tallyIndexes.flatMap (fun i => owed.filter (· == i)) = is
  induction is generalizing s t with
  | nil => exact h
  | cons i is ih => exact ih (raiseRecord_alike h ..)

/-- A sub-event counts alike under the same mode. -/
theorem count_alike {s t : State} (h : s.NoticesAlike t) (tally : t.tally = s.tally) (mode : t.ctrl.mode = s.ctrl.mode)
    (e : SubEvent) : (s.count e).NoticesAlike (t.count e) ∧ (t.count e).tally = (s.count e).tally := by
  obtain ⟨notice, port⟩ := h
  rw [← settled_give e s, ← settled_give e t]
  simp only [Event.settled, Event.give, State.addAmounts, tally, mode, List.nil_append]
  refine ⟨raiseOverflows_alike ⟨?_, ?_⟩ _, ?_⟩
  · exact notice
  · exact port
  · rw [State.raiseOverflows_tally, State.raiseOverflows_tally, State.onTally_tally, State.onTally_tally, tally]

/-- A sub-event works on the tallies, the notices and RPQ. -/
theorem count_rest (e : SubEvent) (s : State) :
    { s.count e with tally := s.tally, notice := s.notice, port := s.port } = s := by
  rw [← settled_give e s]
  obtain ⟨-, -, rest⟩ := raiseOverflows_only (((⟨s, []⟩ : Event).give e).owed) (((⟨s, []⟩ : Event).give e).state)
  exact congrArg (fun x : State => { x with tally := s.tally }) rest

theorem count_tables (e : SubEvent) (s : State) : (s.count e).tables = s.tables := by
  have rest := count_rest e s
  exact (congrArg State.tables rest :)

/-! ### PARKED entry -/

/-- The Controller told of the emptied slots. -/
def State.emptyTold (s : State) : State :=
  let x := (s.emptySlots fun _ => none).onCtrl fun c =>
    { c with
      slotViews := (s.emptySlots fun _ => none).slotViews
      conditions := ⟨true, false, false, false, false, false, false⟩ }
  x.causesDerived.handOver (conditionChanges s.ctrl.conditions ⟨true, false, false, false, false, false, false⟩)

/-- The state PARKED is entered with. -/
def State.parkedEntered (s : State) : State :=
  let x := (s.setOpState .parked).emptyTold
  (((x.onIntake Intake.forgetTags).onPark fun p =>
    { p with armed := armLines x.timer.doors, wakeTimer := wakeTimerOf p.wakeMinutes }).onTally fun t =>
      { t with interval := none }).onInteg fun u => { u with scrubTimer := none }

theorem controllerParked_run {v : Event} (k : v.state.Known .params) :
    controllerParked { v with state := v.state.emptySlots fun _ => none } = .ok () ⟨v.state.emptyTold, v.owed⟩ := by
  let x := (v.state.emptySlots fun _ => none).onCtrl fun c =>
    { c with slotViews := (v.state.emptySlots fun _ => none).slotViews }
  have none_ : deriveConditions x.ctrl.bindings x.ctrl.slotViews = ⟨true, false, false, false, false, false, false⟩ :=
    deriveConditions_emptied (emptySlots_views (fun _ => none) v.state)
  have calm : x.clogs = false := by rw [State.clogs, none_]; rfl
  have again := deriveAgain_calm calm
  have here : (x.onCtrl fun c => { c with conditions := deriveConditions c.bindings c.slotViews }) =
      x.onCtrl fun c => { c with conditions := ⟨true, false, false, false, false, false, false⟩ } :=
    congrArg (fun d => x.onCtrl fun c => { c with conditions := d }) none_
  rw [here] at again
  have params : x.deriveAgain.Known .params := k.of_tables ((congrArg State.tables again).trans rfl)
  rw [controllerParked, Act.bind_ok (Act.look_run _ _), Act.bind_ok (Act.upd_run _ _), Act.bind_ok (Act.upd_run _ _)]
  refine (Act.bind_ok (causesAgain_run (v := ⟨x.deriveAgain, v.owed⟩) params)).trans ?_
  rw [again]
  rfl

theorem enterParked_run {v : Event} (k : v.state.Known .params) (quiet : v.state.ctrl.reports = []) :
    enterParked v = .ok () ⟨v.state.parkedEntered, v.owed⟩ := by
  have parked := controllerParked_run (v := ⟨v.state.setOpState .parked, v.owed⟩) k
  rw [enterParked, Act.bind_ok (takeWaiting_none quiet), Act.bind_ok (Act.upd_run _ _), Act.bind_ok (Act.upd_run _ _)]
  refine (Act.bind_ok parked).trans ?_
  rfl

section
variable (s : State)

theorem emptyTold_rest : { s.emptyTold with quantity := s.quantity, ctrl := s.ctrl, timer := s.timer } = s :=
  congrArg (fun x : State => { x with quantity := s.quantity, ctrl := s.ctrl, timer := s.timer }) (handOver_rest ..)

theorem emptyTold_ctrl : s.emptyTold.ctrl = { s.ctrl with
    slotViews := (s.emptySlots fun _ => none).slotViews
    conditions := ⟨true, false, false, false, false, false, false⟩
    causes := s.emptyTold.ctrl.causes } := by
  rw [State.emptyTold, State.handOver_ctrl]
  rfl

theorem emptyTold_quantity : s.emptyTold.quantity = s.quantity.emptyAll fun _ => none := by
  rw [State.emptyTold, State.handOver_quantity]
  rfl

theorem emptyTold_causes : s.CausesOnceEmptied s.ctrl.faultsReported s.emptyTold.ctrl.causes := by
  have each := emptySlots_views (fun _ => none) s
  rw [State.emptyTold, State.handOver_ctrl]
  exact causesOnceEmptied (c := { s.ctrl with
    slotViews := (s.emptySlots fun _ => none).slotViews
    conditions := ⟨true, false, false, false, false, false, false⟩ }) each rfl

theorem emptyTold_doors : s.emptyTold.timer.doors = s.timer.doors := by
  unfold State.emptyTold State.handOver
  split <;> rfl

theorem parkedEntered_slots (i : Fin 32) : s.parkedEntered.quantity.slots[i] =
    ⟨.empty, none, 0, 0, none, [], none, 0, ⟨false, 0⟩, ⟨false, 0⟩⟩ := by
  have quantity : s.parkedEntered.quantity = s.quantity.emptyAll fun _ => none := emptyTold_quantity (s.setOpState .parked)
  rw [quantity]
  exact QuantityTable.emptyAll_get ..

theorem parkedEntered_ctrl : s.parkedEntered.ctrl = { s.ctrl with
    slotViews := (s.emptySlots fun _ => none).slotViews
    conditions := ⟨true, false, false, false, false, false, false⟩
    causes := s.parkedEntered.ctrl.causes } := emptyTold_ctrl (s.setOpState .parked)

theorem parkedEntered_causes : s.CausesOnceEmptied s.ctrl.faultsReported s.parkedEntered.ctrl.causes :=
  emptyTold_causes (s.setOpState .parked)

theorem parkedEntered_rest : { s.parkedEntered with
    quantity := s.quantity, ctrl := s.ctrl, timer := s.timer, mgmt := s.mgmt, intake := s.intake, park := s.park,
    tally := s.tally, integ := s.integ } = s :=
  congrArg (fun x : State => { x with
    quantity := s.quantity, ctrl := s.ctrl, timer := s.timer, mgmt := s.mgmt, intake := s.intake, park := s.park,
    tally := s.tally, integ := s.integ }) (emptyTold_rest (s.setOpState .parked))

theorem parkedEntered_setups : s.parkedEntered.quantity.setups = s.quantity.setups := by
  have quantity : s.parkedEntered.quantity = s.quantity.emptyAll fun _ => none := emptyTold_quantity (s.setOpState .parked)
  rw [quantity]
  rfl

theorem parkedEntered_opState : s.parkedEntered.mgmt.opState = .parked :=
  (congrArg (fun x : State => x.mgmt.opState) (emptyTold_rest (s.setOpState .parked)) :)

theorem parkedEntered_intake : s.parkedEntered.intake = s.intake.forgetTags :=
  (congrArg (fun x : State => x.intake.forgetTags) (emptyTold_rest (s.setOpState .parked)) :)

theorem parkedEntered_tally : s.parkedEntered.tally = { s.tally with interval := none } :=
  (congrArg (fun x : State => { x.tally with interval := none }) (emptyTold_rest (s.setOpState .parked)) :)

theorem parkedEntered_integ : s.parkedEntered.integ = { s.integ with scrubTimer := none } :=
  (congrArg (fun x : State => { x.integ with scrubTimer := none }) (emptyTold_rest (s.setOpState .parked)) :)

theorem parkedEntered_park : s.parkedEntered.park =
    { s.park with armed := armLines s.timer.doors, wakeTimer := wakeTimerOf s.park.wakeMinutes } := by
  have park : (s.setOpState .parked).emptyTold.park = s.park :=
    (congrArg State.park (emptyTold_rest (s.setOpState .parked)) :)
  have doors := emptyTold_doors (s.setOpState .parked)
  have here : s.parkedEntered.park = { (s.setOpState .parked).emptyTold.park with
    armed := armLines (s.setOpState .parked).emptyTold.timer.doors
    wakeTimer := wakeTimerOf (s.setOpState .parked).emptyTold.park.wakeMinutes } := rfl
  rw [here, park, doors]
  rfl

end

end Sys2Proof.Machine
end

section
/-! SUPPORT. The end of a debounce; a PARKING completed or cancelled. -/
namespace Sys2Proof.Machine
open Sys2Proof

/-! ### The end of a debounce -/

/-- The line takes its level. -/
def State.debounced (d : Door) (s : State) : State := s.onDoor d fun l => { l with isOpen := l.rawLow, debounce := none }

theorem debounced_line (d : Door) (s : State) : (s.debounced d).timer.doors =
    s.timer.doors.set d ⟨(s.timer.doors.get d).rawLow, (s.timer.doors.get d).rawLow, none⟩ := rfl

theorem debounced_open {d : Door} {s : State} (low : (s.timer.doors.get d).rawLow = true) :
    (s.debounced d).timer.doorOpen = true := by
  cases d <;> simp_all [State.debounced, State.onDoor, State.onTimer, TimerUnit.doorOpen, PerDoor.set, PerDoor.get]

theorem debounceEnd_run {v : Event} {d : Door} (busy : LinesBusy) (runs : (v.state.timer.doors.get d).debounce.isSome = true) :
    debounceEnd d busy v = doorChanged d (v.state.timer.doors.get d).rawLow
      ((v.state.debounced d).timer.doorOpen && !v.state.timer.doorOpen)
      (v.state.timer.doorOpen && !(v.state.debounced d).timer.doorOpen) busy ⟨v.state.debounced d, v.owed⟩ := by
  simp only [debounceEnd, Act.bind_run, Act.look_run, runs, onlyIf_true, Act.upd_run]
  rfl

theorem debounceEnd_idle {v : Event} {d : Door} (busy : LinesBusy) (idle : (v.state.timer.doors.get d).debounce.isSome = false) :
    debounceEnd d busy v = .ok () v := by
  simp only [debounceEnd, Act.bind_run, Act.look_run, idle, onlyIf_false, Act.pure_run]

/-! ### A PARKING cancelled -/

/-- What the door's opening in PARKING does ahead of the mode, the notices of OPENINGS included. -/
def State.cancelWork (opened : Bool) (s : State) : State :=
  let x := (s.setOpState .run).onTimer fun t => { t with measurement := Measurement.countFrom 0 }
  if opened then x.count .openings else x

theorem cancelParking_run {s : State} (u : s.Undamaged) (quiet : s.ctrl.reports = []) (opened : Bool) :
    cancelParking opened ⟨s, []⟩ = .ok () ⟨(s.cancelWork opened).opStateTold, []⟩ := by
  have w : (s.cancelWork opened).Undamaged := by
    refine u.of_tables ?_
    cases opened
    · rfl
    · exact (count_tables ..).trans rfl
  refine changeOpState_run (w := ⟨s.cancelWork opened, []⟩) quiet ?_ w
  cases opened <;> rfl

section
variable (opened : Bool) (s : State)

theorem cancelWork_rest : { s.cancelWork opened with
    tally := s.tally, notice := s.notice, port := s.port, mgmt := s.mgmt, timer := s.timer } = s := by
  cases opened
  · rfl
  · exact congrArg (fun x : State => { x with tally := s.tally, mgmt := s.mgmt, timer := s.timer })
      (count_rest .openings ((s.setOpState .run).onTimer fun t => { t with measurement := Measurement.countFrom 0 }))

theorem cancelWork_mgmt : (s.cancelWork opened).mgmt = { s.mgmt with opState := .run } := by
  cases opened
  · rfl
  · exact (congrArg State.mgmt (count_rest .openings
      ((s.setOpState .run).onTimer fun t => { t with measurement := Measurement.countFrom 0 })) :)

theorem cancelWork_timer : (s.cancelWork opened).timer = { s.timer with measurement := ⟨0, true, 0⟩ } := by
  cases opened
  · rfl
  · exact (congrArg State.timer (count_rest .openings
      ((s.setOpState .run).onTimer fun t => { t with measurement := Measurement.countFrom 0 })) :)

/-- The door line that opens has no part in the count of OPENINGS. -/
theorem cancelWork_alike (d : Door) :
    (if opened then s.count .openings else s).NoticesAlike ((s.debounced d).cancelWork opened) ∧
      ((s.debounced d).cancelWork opened).tally = (if opened then s.count .openings else s).tally := by
  cases opened
  · exact ⟨⟨rfl, rfl⟩, rfl⟩
  · exact count_alike (s := s) (t := ((s.debounced d).setOpState .run).onTimer fun t =>
      { t with measurement := Measurement.countFrom 0 }) ⟨rfl, rfl⟩ rfl rfl .openings

end

/-- In RUN with a door OPEN the mode is SAFE or DOOR. -/
theorem nextMode_door {s : State} (inRun : s.mgmt.opState = .run) (doorOpen : s.timer.doorOpen = true) :
    s.nextMode = if s.ctrl.causes.tableFault || s.ctrl.causes.inputLost then .safe else .door := by
  rw [nextMode_run inRun, State.precedenceMode, precedence]
  split
  · rfl
  · exact if_pos doorOpen

/-! ### The settlement -/

theorem armLines_get (doors : PerDoor DoorLine) (d : Door) : (armLines doors).get d = !(doors.get d).isOpen := by
  cases d <;> rfl

theorem forgetTags_get (u : Intake) (i : Fin 64) : u.forgetTags.dyn[i] = ⟨u.dyn[i].thin, none⟩ := mapTable_get ..

theorem exec_parkedEntry {s : State} (alive : s.alive = true) (k : s.Known .params) (done : s.cmd.completion = true)
    (parking : s.mgmt.opState = .parking) (settled : s.cmd.quiet = true) (quiet : s.ctrl.reports = []) :
    exec .parkedEntry s = .next (s.onCmd fun c => { c with completion := false }).parkedEntered := by
  have holds : (s.mgmt.opState == .parking && s.cmd.quiet) = true := by rw [parking, settled]; rfl
  have run := enterParked_run (v := ⟨s.onCmd fun c => { c with completion := false }, []⟩) k quiet
  refine live_run_plain alive ?_
  simp only [parkedEntry, Act.bind_run, Act.look_run, done, onlyIf_true, Act.upd_run]
  refine Eq.trans ?_ run
  exact congrFun (congrArg (onlyIf · enterParked) holds) _

/-- Settles O50: the completion taken, ignored or not, and the door that cancels PARKING; then with a Fault List. -/
theorem parkingCompletesOrIsCancelled : Obligations.ParkingCompletesOrIsCancelled := by
  refine ⟨fun s alive u => ⟨fun undone => ?_, fun done other => ?_, fun done parking settled mode quiet => ?_,
    fun d busy runs low parking mode quiet => ?_⟩, fun s alive known done parking settled mode quiet => ?_⟩
  · refine live_run_plain alive ?_
    simp only [parkedEntry, Act.bind_run, Act.look_run, undone]
    rfl
  · have holds : (s.mgmt.opState == .parking && s.cmd.quiet) = false := by
      rw [Bool.and_eq_false_iff]
      exact other.imp_left fun h => by simpa using h
    refine live_run_plain alive ?_
    simp only [parkedEntry, Act.bind_run, Act.look_run, done, onlyIf_true, Act.upd_run]
    exact congrFun (congrArg (onlyIf · enterParked) holds) _
  · let b := s.onCmd fun c => { c with completion := false }
    have ctrl := parkedEntered_ctrl b
    have rest := parkedEntered_rest b
    have park := parkedEntered_park b
    obtain ⟨-, lost⟩ := parkedEntered_causes b
    refine ⟨_, exec_parkedEntry alive (u.known _) done parking settled quiet, parkedEntered_opState b, by rw [ctrl]; exact mode,
      parkedEntered_slots b, parkedEntered_setups b, by rw [ctrl], ?_, ?_, ?_, ?_, by rw [park]; rfl,
      parkedEntered_tally b, parkedEntered_integ b, (congrArg State.notice rest :), (congrArg State.port rest :),
      (congrArg State.cmd rest :)⟩
    · have w : b.Undamaged := u.of_tables rfl
      rw [(parkedEntered_causes b).undamaged w]
    · intro i
      rw [parkedEntered_intake]
      exact forgetTags_get ..
    · rw [parkedEntered_intake]
      rfl
    · intro d
      rw [park]
      exact armLines_get ..
  · let x := s.debounced d
    have doorOpen : x.timer.doorOpen = true := debounced_open low
    let w := x.cancelWork (!s.timer.doorOpen)
    have rest := cancelWork_rest (!s.timer.doorOpen) x
    have timer := cancelWork_timer (!s.timer.doorOpen) x
    have mgmt := cancelWork_mgmt (!s.timer.doorOpen) x
    obtain ⟨⟨notice, port⟩, tally⟩ := cancelWork_alike (!s.timer.doorOpen) s d
    have ctrl : w.ctrl = s.ctrl := (congrArg State.ctrl rest :)
    have cmd : w.cmd = s.cmd := (congrArg State.cmd rest :)
    have base : (if (!s.timer.doorOpen) = true then s.count .openings else s) =
        if s.timer.doorOpen = true then s else s.count .openings := by cases s.timer.doorOpen <;> rfl
    rw [base] at notice port tally
    have uw : w.Undamaged := by
      refine u.of_tables ?_
      have bins : w.timer.bins = s.timer.bins := (congrArg TimerUnit.bins timer).trans rfl
      have params : w.mgmt.params = s.mgmt.params := (congrArg Management.params mgmt).trans rfl
      have map : w.intake = s.intake := (congrArg State.intake rest :)
      have setups : w.quantity = s.quantity := (congrArg State.quantity rest :)
      have integ : w.integ = s.integ := (congrArg State.integ rest :)
      simp only [State.tables, bins, params, map, setups, integ, ctrl, cmd]
    have run : exec (.debounceEnd d busy) s = .next w.opStateTold := by
      refine live_run_plain alive ?_
      have opened : ((s.debounced d).timer.doorOpen && !s.timer.doorOpen) = !s.timer.doorOpen := by
        rw [show (s.debounced d).timer.doorOpen = true from doorOpen, Bool.true_and]
      rw [debounceEnd_run (v := ⟨s, []⟩) busy runs, low, opened, doorChanged, Act.bind_ok (Act.look_run _ _)]
      have here : x.mgmt.opState = .parking := parking
      dsimp only
      rw [show (s.debounced d).mgmt.opState = .parking from parking]
      exact cancelParking_run (s := x) (u.of_tables rfl) quiet _
    have next : w.nextMode = if s.ctrl.causes.tableFault || s.ctrl.causes.inputLost then .safe else .door := by
      rw [← ctrl]
      exact nextMode_door (by rw [mgmt]) (by rw [timer]; exact doorOpen)
    have notPark : w.nextMode ≠ .park ∧ w.nextMode ≠ .manual := by
      rw [next]
      split <;> decide
    have changed := opStateTold_changed uw (by rw [ctrl, mode]; exact notPark.1) fun h => absurd h notPark.2
    have content : w.targetsFor w.nextMode w.ctrl.conditions.dirtyIn = s.targetsFor w.nextMode s.ctrl.conditions.dirtyIn := by
      have record : w.timer.overrideRecord = s.timer.overrideRecord := (congrArg TimerUnit.overrideRecord timer).trans rfl
      have params : w.mgmt.params = s.mgmt.params := (congrArg Management.params mgmt).trans rfl
      simp only [State.targetsFor, ctrl, record, params]
    have handovers : w.timer.handovers = s.timer.handovers := (congrArg TimerUnit.handovers timer).trans rfl
    have since : (if s.timer.doorOpen = true then s else s.count .openings).timer.handovers = s.timer.handovers ∧
        (if s.timer.doorOpen = true then s else s.count .openings).cmd = s.cmd := by
      have same := count_rest .openings s
      split
      · exact ⟨rfl, rfl⟩
      · exact ⟨(congrArg (·.timer.handovers) same :), (congrArg State.cmd same :)⟩
    rw [content] at changed
    have changed := changed.congr (since.1.trans handovers.symm) notice.symm port.symm (since.2.trans cmd.symm)
      rfl rfl rfl rfl rfl
    rw [← opStateTold_mode] at changed next
    have told := opStateTold_timer w
    have mgmt' : w.opStateTold.mgmt = { s.mgmt with opState := .run } := (opStateTold_mgmt w).trans (mgmt.trans rfl)
    have clean := changed
    obtain ⟨-, -, raised, targets⟩ := clean
    obtain ⟨pending, detail, -⟩ := raised.modeChange
    refine ⟨_, run, by rw [mgmt'], next, ?_, ?_, ?_, ?_, pending, detail, fun a => ?_, changed, ?_, ?_, ?_, ?_, by rw [mgmt']⟩
    · rw [told, timer]
      exact (debounced_line d s).trans (by rw [low])
    · rw [told, timer]
    · exact (opStateTold_park w).trans (congrArg State.park rest :)
    · exact (opStateTold_tally w).trans tally
    · exact targets.target a
    · exact (opStateTold_completion w).trans (congrArg CommandEngine.completion cmd)
    · exact (opStateTold_quantity w).trans (congrArg State.quantity rest :)
    · exact (opStateTold_intake w).trans (congrArg State.intake rest :)
    · exact (opStateTold_integ w).trans (congrArg State.integ rest :)
  · let b := s.onCmd fun c => { c with completion := false }
    have ctrl := parkedEntered_ctrl b
    have rest := parkedEntered_rest b
    have integ := parkedEntered_integ b
    refine ⟨_, exec_parkedEntry alive (known _) done parking settled quiet, parkedEntered_opState b, by rw [ctrl]; exact mode,
      fun i => ⟨parkedEntered_slots b i, fun faulted => ?_⟩, by rw [ctrl], fun i => ?_, parkedEntered_causes b,
      by rw [ctrl]; rfl, integ, (congrArg State.notice rest :)⟩
    · have still : b.parkedEntered.isFaulted (.slotSetup i) = true := by
        rw [State.isFaulted, integ]
        exact faulted
      rw [State.slotSeen_faulted still]
    · rw [ctrl]
      exact emptySlots_views (fun _ => none) b i

end Sys2Proof.Machine
end

section
/-! SUPPORT. The wakes. -/
namespace Sys2Proof.Machine
open Sys2Proof

/-! ### The modes with fixed targets -/

theorem modeTargets_fixed {m : Mode} (fixed : m.recordIndex = none) (v : Event) :
    modeTargets m v = .ok (v.state.dueTargets m) v := by
  cases m with
  | safe | park => rfl
  | fresh | shield | purge | door | recover | demist | manual => cases fixed

theorem dueTargets_fixed {m : Mode} (fixed : m.recordIndex = none) (s t : State) : s.dueTargets m = t.dueTargets m := by
  simp only [State.dueTargets, fixed]

/-- What follows the choice of a mode with fixed targets asks for the actuators alone. -/
theorem settledOn_run_fixed {v : Event} (k : ∀ a, v.state.Known (.actuator a)) {m : Mode} (fixed : m.recordIndex = none)
    (h : Handover) (dirtyIn : Bool) :
    (if m = v.state.ctrl.mode then do
        upd (State.handOver h)
        onlyIf dirtyIn computeTargets
      else changeMode m h : Act Unit) v = .ok () ⟨v.state.settledOn m h dirtyIn, v.owed⟩ := by
  have compute {w : Event} (kw : ∀ a, w.state.Known (.actuator a)) (mode : w.state.ctrl.mode = m) :
      computeTargets w = .ok () ⟨w.state.targetsHanded (v.state.dueTargets m), w.owed⟩ := by
    rw [computeTargets, Act.bind_ok (Act.look_run _ _), mode, Act.bind_ok (modeTargets_fixed fixed w),
      dueTargets_fixed fixed w.state v.state]
    exact handTargets_run kw _
  by_cases same : m = v.state.ctrl.mode
  · rw [if_pos same, State.settledOn, if_pos same, Act.bind_ok (Act.upd_run _ _)]
    cases dirtyIn
    · rfl
    · exact compute (w := ⟨v.state.handOver h, v.owed⟩) (fun a => (k a).of_tables (handOver_tables h v.state))
        (by rw [State.handOver_ctrl]; exact same.symm)
  · rw [if_neg same, State.settledOn, if_neg same]
    refine (Act.bind_ok (Act.upd_run _ _)).trans ((Act.bind_ok (Act.upd_run _ _)).trans
      ((Act.bind_ok (Act.upd_run _ _)).trans ?_))
    exact compute (w := ⟨v.state.modeTold m h, v.owed⟩) (fun a => (k a).of_tables (modeTold_tables m h v.state))
      (by rw [modeTold_ctrl])

theorem chosenMode_of_cause {s : State} (inRun : s.mgmt.opState = .run)
    (cause : (s.ctrl.causes.tableFault || s.ctrl.causes.inputLost) = true) : s.chosenMode = .safe := by
  rw [chosenMode_run inRun]
  exact if_pos cause

/-- With a SAFE cause a change of the operating state to RUN asks for the actuators alone. -/
theorem opStateChanged_of_cause {v : Event} (inRun : v.state.mgmt.opState = .run)
    (cause : (v.state.ctrl.causes.tableFault || v.state.ctrl.causes.inputLost) = true)
    (k : ∀ a, v.state.Known (.actuator a)) : opStateChanged v = .ok () ⟨v.state.opStateTold, v.owed⟩ := by
  let x : Event := ⟨v.state.onCtrl fun c => { c with timerView := v.state.timer.view }, v.owed⟩
  have chosen : x.state.chosenMode = .safe := chosenMode_of_cause inRun cause
  rw [opStateChanged, Act.bind_ok (Act.upd_run _ _), settle, Act.bind_ok (Act.look_run _ _)]
  refine (Act.bind_ok (chooseMode_of_cause (v := x) inRun cause)).trans ?_
  refine (settledOn_run_fixed (v := x) k rfl _ false).trans ?_
  rw [State.opStateTold, show (v.state.onCtrl fun c => { c with timerView := v.state.timer.view }).chosenMode = .safe from chosen]

/-! ### What a wake does ahead of the mode -/

/-- Up to the read of the parameters. -/
def State.wakeStart (cause : StartCause) (busy : LinesBusy) (s : State) : State :=
  (((((s.setOpState .run).onPort (·.awaitIdle busy)).onPark fun p => { p with wakeTimer := none }).startWith cause).wakeSlots).onTally
    fun t => { t with interval := some 1000 }

/-- From there on, the parameters known. -/
def State.wakeGo (p : Params) (s : State) : State :=
  (s.onInteg fun u => { u with scrubTimer := scrubStart p.scrubInterval }).onTimer TimerUnit.enterRun

def State.wakeWork (cause : StartCause) (busy : LinesBusy) (s : State) : State :=
  (s.wakeStart cause busy).wakeGo s.paramsSeen

section
variable (cause : StartCause) (busy : LinesBusy) (s : State)

theorem wakeStart_ctrl : (s.wakeStart cause busy).ctrl = s.ctrl := by
  simp only [State.wakeStart, State.wakeSlots, State.drawn, State.onTally_ctrl, State.onQuantity_ctrl, State.startWith_ctrl]
  rfl

theorem wakeStart_timer : (s.wakeStart cause busy).timer = s.timer := by
  simp only [State.wakeStart, State.wakeSlots, State.drawn, State.onTally_timer, State.onQuantity_timer,
    State.startWith_timer]
  rfl

theorem wakeStart_cmd : (s.wakeStart cause busy).cmd = s.cmd := by
  simp only [State.wakeStart, State.wakeSlots, State.drawn, State.onTally_cmd, State.onQuantity_cmd, State.startWith_cmd]
  rfl

theorem wakeStart_integ : (s.wakeStart cause busy).integ = s.integ := by
  simp only [State.wakeStart, State.wakeSlots, State.drawn, State.onTally_integ, State.onQuantity_integ,
    State.startWith_integ]
  rfl

theorem wakeStart_intake : (s.wakeStart cause busy).intake = s.intake := by
  simp only [State.wakeStart, State.wakeSlots, State.drawn, State.onTally_intake, State.onQuantity_intake,
    State.startWith_intake]
  rfl

theorem wakeStart_mgmt : (s.wakeStart cause busy).mgmt = { s.mgmt with opState := .run } := by
  simp only [State.wakeStart, State.wakeSlots, State.drawn, State.onTally_mgmt, State.onQuantity_mgmt, State.startWith_mgmt]
  rfl

theorem wakeStart_tally : (s.wakeStart cause busy).tally = { s.tally with interval := some 1000 } := by
  simp only [State.wakeStart, State.wakeSlots, State.drawn, State.onTally_tally, State.onQuantity_tally,
    State.startWith_tally]
  rfl

theorem wakeStart_park : (s.wakeStart cause busy).park = { s.park with wakeTimer := none, startCause := cause } := by
  simp only [State.wakeStart, State.wakeSlots, State.drawn, State.onTally_park, State.onQuantity_park, State.startWith,
    State.raiseRecord_park]
  rfl

/-- The state START is raised in. -/
def State.waking : State :=
  (((s.setOpState .run).onPort (·.awaitIdle busy)).onPark fun p => { p with wakeTimer := none }).startWith cause

theorem waking_quantity : (s.waking cause busy).quantity = s.quantity := State.startWith_quantity ..

theorem waking_staleStart (i : Fin 32) : (s.waking cause busy).staleStart i = s.staleStart i := by
  simp only [State.staleStart, State.isFaulted, State.waking, State.startWith_quantity, State.startWith_integ,
    State.startWith_draws]
  rfl

theorem wakeStart_slots (i : Fin 32) : (s.wakeStart cause busy).quantity.slots[i] =
    { s.quantity.slots[i] with age := 0, agePart := 0, staleTimer := s.staleStart i } := by
  have get := State.wakeSlots_get (s.waking cause busy) i
  rw [waking_quantity, waking_staleStart] at get
  exact get

theorem wakeStart_setups : (s.wakeStart cause busy).quantity.setups = s.quantity.setups :=
  (congrArg QuantityTable.setups (waking_quantity cause busy s) :)

theorem wakeStart_tables : (s.wakeStart cause busy).tables = s.tables := by
  simp only [State.tables, wakeStart_ctrl, wakeStart_timer, wakeStart_cmd, wakeStart_integ, wakeStart_intake,
    wakeStart_mgmt, wakeStart_setups]

/-- START is raised behind the receivers' turn to idle, and nothing else is. -/
theorem wakeStart_raisedFrom :
    { s with port := s.port.awaitIdle busy : State }.RaisedFrom (s.wakeStart cause busy) .start (.startCause cause) 0 :=
  (raiseRecord_raisedFrom .start (.startCause cause) ((((s.setOpState .run).onPort (·.awaitIdle busy)).onPark fun p =>
    { p with wakeTimer := none }).onPark fun p => { p with startCause := cause })).congr rfl rfl rfl rfl

end

theorem wakeGo_tables (p : Params) (s : State) : (s.wakeGo p).tables = s.tables :=
  (onTimer_tables (s := s.onInteg fun u => { u with scrubTimer := scrubStart p.scrubInterval })
    (congrArg TimerUnit.bins s.timer.enterRun_rest :)).trans rfl

theorem wakeWork_tables (cause : StartCause) (busy : LinesBusy) (s : State) : (s.wakeWork cause busy).tables = s.tables :=
  (wakeGo_tables ..).trans (wakeStart_tables cause busy s)

/-- The pre-clean that a wake by the timer starts. -/
def State.withPreclean (cause : StartCause) (p : Params) (s : State) : State :=
  if cause = .wakeTimer then s.onPark fun k => { k with preclean := startedTimer p.precleanLength } else s

/-- The work of a wake from the read of the parameters on. -/
def wakeOn : Act Unit := do
  let p ← readParams
  upd (State.onInteg fun u => { u with scrubTimer := scrubStart p.scrubInterval })
  upd (State.onTimer TimerUnit.enterRun)
  takeWaiting

/-- A wake's start of the pre-clean. -/
def precleanOn (cause : StartCause) : Act Unit :=
  onlyIf (cause == .wakeTimer) do
    let p ← readParams
    upd (State.onPark fun k => { k with preclean := startedTimer p.precleanLength })

/-- A wake with no report waiting. -/
theorem wake_eq {s : State} (cause : StartCause) (busy : LinesBusy) (quiet : s.ctrl.reports = []) :
    wake cause busy ⟨s, []⟩ =
      ((wakeOn >>= fun _ => opStateChanged) >>= fun _ => precleanOn cause) ⟨s.wakeStart cause busy, []⟩ := by
  rw [wake, Act.bind_run, changeOpState_quiet (v := ⟨s, []⟩) _ _ quiet]
  simp only [wakeOn, precleanOn, Act.bind_run, Act.upd_run]
  rfl

theorem precleanOn_run {s : State} (cause : StartCause) (k : s.Known .params) :
    precleanOn cause ⟨s, []⟩ = .ok () ⟨s.withPreclean cause s.paramsSeen, []⟩ := by
  unfold State.withPreclean precleanOn
  by_cases timer : cause = .wakeTimer
  · subst timer
    exact (Act.bind_ok (readParams_known (v := ⟨s, []⟩) k)).trans rfl
  · rw [if_neg timer, show (cause == .wakeTimer) = false by simpa using timer]
    rfl

/-- A wake, no damage being new. -/
theorem wake_run {s : State} {cause : StartCause} {busy : LinesBusy} (k : s.Known .params) (quiet : s.ctrl.reports = [])
    (told : opStateChanged ⟨s.wakeWork cause busy, []⟩ = .ok () ⟨(s.wakeWork cause busy).opStateTold, []⟩) :
    wake cause busy ⟨s, []⟩ =
      .ok () ⟨(s.wakeWork cause busy).opStateTold.withPreclean cause s.paramsSeen, []⟩ := by
  have tables := wakeStart_tables cause busy s
  have seen := readParams_known (v := ⟨s.wakeStart cause busy, []⟩) (k.of_tables tables)
  rw [show (s.wakeStart cause busy).paramsSeen = s.paramsSeen from paramsSeen_of_tables tables] at seen
  have none : (s.wakeWork cause busy).ctrl.reports = [] :=
    (congrArg Controller.reports (wakeStart_ctrl cause busy s)).trans quiet
  have on : wakeOn ⟨s.wakeStart cause busy, []⟩ = .ok () ⟨s.wakeWork cause busy, []⟩ := by
    rw [wakeOn, Act.bind_ok seen, Act.bind_ok (Act.upd_run _ _), Act.bind_ok (Act.upd_run _ _)]
    exact takeWaiting_none none
  have tables : (s.wakeWork cause busy).opStateTold.tables = s.tables :=
    (settledOn_tables ..).trans (wakeWork_tables cause busy s)
  have again := precleanOn_run cause (k.of_tables tables)
  rw [show (s.wakeWork cause busy).opStateTold.paramsSeen = s.paramsSeen from paramsSeen_of_tables tables] at again
  rw [wake_eq cause busy quiet, Act.bind_ok ((Act.bind_ok on).trans told), again]

end Sys2Proof.Machine
end

section
/-! SUPPORT. The device woken. -/
namespace Sys2Proof.Machine
open Sys2Proof

/-- RUN never has PARK chosen. -/
theorem precedence_not_park (c : Controller) (b : Bool) : precedence c b ≠ .park := by
  unfold precedence
  repeat' split
  all_goals decide

/-- A notice of another kind stands through a change of the mode. -/
theorem State.ChangedMode.other {s t : State} {m : Mode} {v : ModeRecord} (h : s.ChangedMode t m v) {k : NoticeKind}
    (other : k ≠ .modeChange) : t.noticeRecord k = s.noticeRecord k := by
  obtain ⟨-, -, ⟨-, others, -⟩, -⟩ := h
  exact others k other

/-- The Controller told of a new operating state, the mode changing, with the targets as they are computed. -/
theorem opStateTold_changed_due {s : State} (u : s.Undamaged) (new : s.nextMode ≠ s.ctrl.mode) :
    s.ChangedMode s.opStateTold s.nextMode (s.dueTargets s.nextMode) := by
  have w : (s.onCtrl fun c => { c with timerView := s.timer.view }).Undamaged := u.of_tables rfl
  have raised := settledOn_raised (h := ⟨none, none, none, none⟩) (dirtyIn := false)
    (s := s.onCtrl fun c => { c with timerView := s.timer.view }) new
  have targets := settledOn_targets (h := ⟨none, none, none, none⟩) (dirtyIn := false) w (.inl new)
  have due : (s.onCtrl fun c => { c with timerView := s.timer.view }).dueTargets s.nextMode = s.dueTargets s.nextMode :=
    dueTargets_congr _ rfl rfl rfl rfl rfl
  refine ⟨opStateTold_mode s, ?_, raised.congr rfl rfl rfl rfl, ?_⟩
  · rw [opStateTold_timer, if_pos new]
  · rw [← due]
    exact targets.congr rfl rfl

section
variable (cause : StartCause) (busy : LinesBusy) (s : State)

theorem wakeWork_timer : (s.wakeWork cause busy).timer = s.timer.enterRun :=
  congrArg TimerUnit.enterRun (wakeStart_timer cause busy s)

theorem wakeWork_ctrl : (s.wakeWork cause busy).ctrl = s.ctrl := wakeStart_ctrl cause busy s

theorem wakeWork_nextMode : (s.wakeWork cause busy).nextMode = s.precedenceMode { s.ctrl with timerView := s.timer.view } := by
  have mgmt : (s.wakeWork cause busy).mgmt = { s.mgmt with opState := .run } := wakeStart_mgmt cause busy s
  rw [nextMode_run (by rw [mgmt]), State.precedenceMode, mgmt, wakeWork_ctrl, wakeWork_timer, TimerUnit.enterRun_view]
  rfl

theorem wakeWork_integ : (s.wakeWork cause busy).integ =
    { s.integ with scrubTimer := scrubStart s.paramsSeen.scrubInterval } :=
  (congrArg (fun u : IntegrityUnit => { u with scrubTimer := scrubStart s.paramsSeen.scrubInterval })
    (wakeStart_integ cause busy s) :)

theorem withPreclean_rest (p : Params) : { s.withPreclean cause p with park := s.park } = s := by
  unfold State.withPreclean
  split <;> rfl

/-- The state a wake leaves. -/
def State.woken : State := (s.wakeWork cause busy).opStateTold.withPreclean cause s.paramsSeen

theorem woken_told : { s.woken cause busy with park := (s.wakeWork cause busy).opStateTold.park } =
    (s.wakeWork cause busy).opStateTold := withPreclean_rest ..

theorem woken_ctrl : (s.woken cause busy).ctrl = { s.ctrl with
    mode := s.precedenceMode { s.ctrl with timerView := s.timer.view }, timerView := s.timer.view } := by
  refine (congrArg State.ctrl (woken_told cause busy s) :).trans ((opStateTold_ctrl _).trans ?_)
  rw [wakeWork_nextMode, wakeWork_timer, wakeWork_ctrl, TimerUnit.enterRun_view]

theorem woken_mgmt : (s.woken cause busy).mgmt = { s.mgmt with opState := .run } :=
  (congrArg State.mgmt (woken_told cause busy s) :).trans
    ((opStateTold_mgmt _).trans (wakeStart_mgmt cause busy s))

theorem woken_timer : (s.woken cause busy).timer =
    { s.timer.enterRun with handovers := (s.woken cause busy).timer.handovers } := by
  have timer : (s.woken cause busy).timer = _ :=
    (congrArg State.timer (woken_told cause busy s) :).trans (opStateTold_timer _)
  rw [timer, wakeWork_timer]

theorem woken_tally : (s.woken cause busy).tally = { s.tally with interval := some 1000 } :=
  (congrArg State.tally (woken_told cause busy s) :).trans
    ((opStateTold_tally _).trans (wakeStart_tally cause busy s))

theorem woken_integ : (s.woken cause busy).integ = { s.integ with scrubTimer := scrubStart s.paramsSeen.scrubInterval } :=
  (congrArg State.integ (woken_told cause busy s) :).trans
    ((opStateTold_integ _).trans (wakeWork_integ cause busy s))

theorem woken_intake : (s.woken cause busy).intake = s.intake :=
  (congrArg State.intake (woken_told cause busy s) :).trans
    ((opStateTold_intake _).trans (wakeStart_intake cause busy s))

theorem woken_quantity : (s.woken cause busy).quantity = (s.wakeStart cause busy).quantity :=
  (congrArg State.quantity (woken_told cause busy s) :).trans (opStateTold_quantity _)

theorem woken_park : (s.woken cause busy).park = { s.park with
    wakeTimer := none, startCause := cause,
    preclean := if cause = .wakeTimer then startedTimer s.paramsSeen.precleanLength else s.park.preclean } := by
  have park : (s.wakeWork cause busy).opStateTold.park = _ :=
    (opStateTold_park _).trans (wakeStart_park cause busy s)
  unfold State.woken State.withPreclean
  split
  · rw [State.onPark_park, park]
  · exact park

variable {s}

theorem woken_changed (u : s.Undamaged) (mode : s.ctrl.mode = .park) :
    (s.wakeStart cause busy).ChangedMode (s.woken cause busy) (s.woken cause busy).ctrl.mode
      ((s.wakeWork cause busy).dueTargets (s.woken cause busy).ctrl.mode) := by
  have w : (s.wakeWork cause busy).Undamaged := u.of_tables (wakeWork_tables cause busy s)
  have next := wakeWork_nextMode cause busy s
  have handovers : (s.wakeStart cause busy).timer.handovers = (s.wakeWork cause busy).timer.handovers := by
    rw [wakeWork_timer, wakeStart_timer]
    exact (congrArg TimerUnit.handovers s.timer.enterRun_rest :).symm
  have now : (s.woken cause busy).ctrl.mode = (s.wakeWork cause busy).nextMode := by rw [woken_ctrl, next]
  rw [now]
  have changed := opStateTold_changed_due w (by rw [wakeWork_ctrl, mode, next]; exact precedence_not_park _ _)
  have told := woken_told cause busy s
  exact changed.congr handovers rfl rfl rfl (congrArg (·.ctrl.mode) told :) (congrArg (·.timer.handovers) told :)
    (congrArg State.notice told :) (congrArg State.port told :) (congrArg State.cmd told :)

theorem woken_targets {m : Mode} (held : m = .manual → s.timer.overrideRecord.isSome = true) :
    (s.wakeWork cause busy).dueTargets m = s.targetsFor m s.ctrl.conditions.dirtyIn := by
  have record : (s.wakeWork cause busy).timer.overrideRecord = s.timer.overrideRecord := by
    rw [wakeWork_timer]
    exact (congrArg TimerUnit.overrideRecord s.timer.enterRun_rest :)
  have mgmt : (s.wakeWork cause busy).mgmt = { s.mgmt with opState := .run } := wakeStart_mgmt cause busy s
  rw [dueTargets_eq (by rw [record]; exact held)]
  simp only [State.targetsFor, record, wakeWork_ctrl, mgmt]

theorem enterRun_measurement_eq (t : TimerUnit) :
    t.enterRun.measurement = if t.doorOpen then ⟨0, true, 0⟩ else t.measurement := by
  unfold TimerUnit.enterRun
  split <;> rfl

theorem scrubStart_eq (n : Nat) : scrubStart n = if n = 0 then none else some (n * 10) := rfl

/-- What is handed over leaves the reports of the actuators. -/
theorem targetsHanded_reports {s t : State} {v : ModeRecord} (h : s.TargetsHanded t v) (a : Actuator) :
    (t.cmd.delivery.get a).reported = (s.cmd.delivery.get a).reported ∧
      (t.cmd.delivery.get a).failed = (s.cmd.delivery.get a).failed := by
  obtain ⟨each, -⟩ := h
  rw [each a]
  dsimp only
  split <;> exact ⟨rfl, rfl⟩

/-- The device is woken, as the statements have it. -/
theorem woken_woke (u : s.Undamaged) (mode : s.ctrl.mode = .park) : s.Woke (s.woken cause busy) cause busy := by
  have changed := woken_changed cause busy u mode
  have first := wakeStart_raisedFrom cause busy s
  have start : (s.woken cause busy).Raised .start (.startCause cause) := by
    rw [State.Raised, changed.other (k := .start) (by decide)]
    exact first.raised
  have timer := woken_timer cause busy s
  have ctrl := woken_ctrl cause busy s
  have mgmt := woken_mgmt cause busy s
  have integ := woken_integ cause busy s
  have tally := woken_tally cause busy s
  have park := woken_park cause busy s
  have quantity := woken_quantity cause busy s
  have told := woken_told cause busy s
  have doorOpen : (s.woken cause busy).timer.doorOpen = s.timer.doorOpen := by
    rw [timer]
    exact (congrArg TimerUnit.doorOpen s.timer.enterRun_rest :)
  have view : (s.woken cause busy).timer.view = s.timer.view := by
    rw [timer]
    exact s.timer.enterRun_view
  have completion : (s.woken cause busy).cmd.completion = s.cmd.completion :=
    (congrArg (·.cmd.completion) told :).trans ((opStateTold_completion _).trans
      (congrArg CommandEngine.completion (wakeStart_cmd cause busy s)))
  obtain ⟨-, -, raised, targets⟩ := id changed
  obtain ⟨pending, detail, -⟩ := raised.modeChange
  obtain ⟨entries, halted, -⟩ := targetsHanded_cmd targets
  rw [wakeStart_cmd] at entries halted
  refine ⟨by rw [mgmt], by rw [park], by rw [park], start.1, start.2, fun i => ?_, ?_, by rw [tally], by rw [tally], ?_,
    by rw [integ], by rw [integ]; exact u.1, ?_, ?_, pending, detail, entries, halted, fun a => ?_, woken_intake cause busy s,
    by rw [mgmt], completion, fun held => ⟨(s.wakeStart cause busy).notice, (s.wakeStart cause busy).port, ?_, ?_⟩⟩
  · rw [quantity, wakeStart_slots, staleStart_known (u.isFaulted _)]
  · rw [quantity, wakeStart_setups]
  · rw [integ, u.paramsSeen]
    exact scrubStart_eq _
  · rw [doorOpen, timer]
    exact enterRun_measurement_eq _
  · rw [view, ctrl]
  · have reports := targetsHanded_reports targets a
    rw [wakeStart_cmd] at reports
    exact reports
  · exact first.congr rfl rfl rfl rfl
  · rw [← woken_targets cause busy held]
    have timer := wakeStart_timer cause busy s
    exact changed.congr (by rw [timer]) rfl rfl (by rw [wakeStart_cmd]) rfl rfl rfl rfl rfl

end

end Sys2Proof.Machine
end

section
/-! SUPPORT. A wake whose own read finds the parameters faulted. -/
namespace Sys2Proof.Machine
open Sys2Proof

/-! ### The fault found -/

/-- The parameters entry on the Fault List, with its notice. -/
def State.paramsFound (s : State) : State :=
  (s.joinFaultList .params).raiseWith PowerOn.params.escalation .tableFault (.entry .params)

theorem readParams_found {v : Event} (good : v.state.isFaulted .params = false) (damaged : 2 ≤ (v.state.flips .params).length)
    (room : v.state.integ.faultList.length < faultListCapacity) :
    readParams v = .ok PowerOn.params ⟨v.state.paramsFound, v.owed⟩ := by
  obtain ⟨n, places⟩ : ∃ n, (v.state.flips .params).length = n + 2 := ⟨(v.state.flips .params).length - 2, by omega⟩
  have checked : checkParams v = .ok .newlyFaulted ⟨v.state.paramsFound, v.owed⟩ := by
    simp [checkParams, Act.bind_run, Act.look_run, Act.upd_run, good, places, not_le.2 room, State.paramsFound]
    rfl
  rw [readParams, Act.bind_ok checked]
  rfl

section
variable {s : State} (first : s.integ.faultList = [])
include first

theorem joinFaultList_first : s.joinFaultList .params = (s.onInteg fun u => { u with faultList := [.params] }).onCtrl fun c =>
    { c with reports := c.reports ++ [.faultList true] } := by
  have one : s.integ.faultList ++ [EntryId.params] = [.params] := by rw [first, List.nil_append]
  have joined : (s.onInteg fun u => { u with faultList := u.faultList ++ [.params] }) =
      s.onInteg fun u => { u with faultList := [.params] } :=
    congrArg (fun l => s.onInteg fun u => { u with faultList := l }) one
  have empty : s.integ.faultList.isEmpty = true := by rw [first]; rfl
  unfold State.joinFaultList
  rw [joined]
  exact if_pos empty

theorem paramsFound_rest : { s.paramsFound with notice := s.notice, port := s.port } = s.joinFaultList .params := by
  have rest := raiseWith_rest PowerOn.params.escalation .tableFault (.entry .params) (s.joinFaultList .params)
  rw [joinFaultList_first first] at rest ⊢
  rw [State.paramsFound, joinFaultList_first first]
  exact rest

theorem paramsFound_integ : s.paramsFound.integ = { s.integ with faultList := [.params] } := by
  refine (congrArg State.integ (paramsFound_rest first) :).trans ?_
  rw [joinFaultList_first first]
  rfl

theorem paramsFound_ctrl : s.paramsFound.ctrl = { s.ctrl with reports := s.ctrl.reports ++ [.faultList true] } := by
  refine (congrArg State.ctrl (paramsFound_rest first) :).trans ?_
  rw [joinFaultList_first first]
  rfl

theorem paramsFound_tables : (s.paramsFound.onInteg fun u => { u with faultList := [] }).tables = s.tables := by
  have rest := paramsFound_rest first
  rw [joinFaultList_first first] at rest
  refine (congrArg (fun x : State => (x.onInteg fun u => { u with faultList := [] }).tables) rest :).trans ?_
  simp only [State.tables, State.onInteg, State.onCtrl, first]

theorem paramsFound_mgmt : s.paramsFound.mgmt = s.mgmt := by
  refine (congrArg State.mgmt (paramsFound_rest first) :).trans ?_
  rw [joinFaultList_first first]
  rfl

omit first in
theorem paramsFound_raised : s.paramsFound.Raised .tableFault (.entry .params) :=
  (raiseWith_raisedFrom PowerOn.params.escalation .tableFault (.entry .params) (s.joinFaultList .params)).raised

theorem paramsFound_other {k : NoticeKind} (other : k ≠ .tableFault) : s.paramsFound.noticeRecord k = s.noticeRecord k := by
  obtain ⟨-, others, -⟩ :=
    raiseWith_raisedFrom PowerOn.params.escalation .tableFault (.entry .params) (s.joinFaultList .params)
  refine (others k other).trans ?_
  rw [joinFaultList_first first]
  rfl

end

/-! ### A report taken while the parameters are known to be faulted -/

/-- A report absorbed, the parameters known. -/
def State.absorbedKnown (r : Report) (s : State) : State := (s.onCtrl (·.told r)).deriveAgain.causesDerived

theorem absorb_run_known {v : Event} (k : v.state.Known .params) (r : Report) :
    ∃ ch, absorb r v = .ok ch ⟨v.state.absorbedKnown r, v.owed⟩ := by
  have known : (v.state.onCtrl (·.told r)).deriveAgain.Known .params :=
    k.of_tables ((deriveAgain_tables _).trans (told_tables r v.state))
  have causes := causesAgain_run (v := ⟨(v.state.onCtrl (·.told r)).deriveAgain, v.owed⟩) known
  rw [absorb, Act.bind_ok (Act.look_run _ _), Act.bind_ok (Act.upd_run _ _), Act.bind_ok (Act.upd_run _ _)]
  exact ⟨_, (Act.bind_ok causes).trans rfl⟩

theorem absorbedKnown_tables (r : Report) (s : State) : (s.absorbedKnown r).tables = s.tables :=
  (causesDerived_tables _).trans ((deriveAgain_tables _).trans (told_tables r s))

theorem absorbedKnown_fault (s : State) : (s.absorbedKnown (.faultList true)).ctrl.mode = s.ctrl.mode ∧
    (s.absorbedKnown (.faultList true)).ctrl.causes.tableFault = true := by
  have again := deriveAgain_ctrl (s.onCtrl (·.told (.faultList true)))
  refine ⟨(congrArg Controller.mode again).trans rfl, (congrArg Controller.faultsReported again).trans rfl⟩

theorem deriveAgain_other {k : NoticeKind} (other : k ≠ .filterClogged) (s : State) :
    s.deriveAgain.noticeRecord k = s.noticeRecord k := by
  unfold State.deriveAgain
  dsimp only
  split
  · split
    · exact raiseRecord_noticeRecord_other other ..
    · rfl
  · rfl

theorem settledOn_other {k : NoticeKind} (other : k ≠ .modeChange) (m : Mode) (h : Handover) (dirtyIn : Bool) (s : State) :
    (s.settledOn m h dirtyIn).noticeRecord k = s.noticeRecord k := by
  by_cases same : m = s.ctrl.mode
  · obtain ⟨notice, -⟩ := settledOn_kept (h := h) (dirtyIn := dirtyIn) same
    rw [State.noticeRecord, notice]
    rfl
  · obtain ⟨-, others, -⟩ := settledOn_raised (h := h) (dirtyIn := dirtyIn) same
    exact others k other

/-- In RUN with the Fault List reported, a report ends with the mode SAFE, or with the mode PARK that stood. -/
theorem takeReport_fault {v : Event} (k : ∀ e, v.state.Known e) (inRun : v.state.mgmt.opState = .run)
    (mode : v.state.ctrl.mode = .park) : ∃ m h d, (m = .safe ∨ m = .park) ∧
      takeReport (.faultList true) v = .ok () ⟨(v.state.absorbedKnown (.faultList true)).settledOn m h d, v.owed⟩ := by
  obtain ⟨ch, absorbs⟩ := absorb_run_known (k .params) (.faultList true)
  let y := v.state.absorbedKnown (.faultList true)
  have ctrl := absorbedKnown_fault v.state
  rw [mode] at ctrl
  have mgmt : y.mgmt = v.state.mgmt := (congrArg State.mgmt (deriveAgain_rest (v.state.onCtrl (·.told (.faultList true)))) :)
  have actuators (a : Actuator) : y.Known (.actuator a) := (k (.actuator a)).of_tables (absorbedKnown_tables ..)
  rw [takeReport, Act.bind_ok absorbs, settle, Act.bind_ok (Act.look_run _ _)]
  cases choose : ch.changed || Report.source (.faultList true) == .timerUnit
  · exact ⟨.park, ch.handover, ch.dirtyIn, .inr rfl, by
      rw [← ctrl.1]
      exact settledOn_run_fixed (v := ⟨y, v.owed⟩) actuators (by rw [ctrl.1]; rfl) _ _⟩
  · refine ⟨.safe, ch.handover, ch.dirtyIn, .inl rfl, ?_⟩
    refine (Act.bind_ok (chooseMode_of_cause (v := ⟨y, v.owed⟩) (by rw [mgmt]; exact inRun) ?_)).trans ?_
    · rw [ctrl.2]
      rfl
    · exact settledOn_run_fixed (v := ⟨y, v.owed⟩) actuators rfl _ _

end Sys2Proof.Machine
end

section
/-! SUPPORT. The wakes: the settlement. -/
namespace Sys2Proof.Machine
open Sys2Proof

/-! ### The mode SAFE behind a fault found -/

/-- Settled on SAFE, or on the PARK that stood, and then told of RUN with a SAFE cause: the mode is SAFE, its
MODE_CHANGE is raised, and it is the last hand-over. -/
theorem opStateTold_safe {s : State} {m : Mode} {h : Handover} {dirtyIn : Bool} (mode : s.ctrl.mode = .park)
    (either : m = .safe ∨ m = .park) (inRun : s.mgmt.opState = .run) (cause : s.ctrl.causes.tableFault = true) :
    let t := (s.settledOn m h dirtyIn).opStateTold
    t.ctrl.mode = .safe ∧ t.Raised .modeChange (.mode .safe) ∧ t.timer.handovers.getLast?.bind (·.mode) = some .safe := by
  have ctrl := settledOn_ctrl m h dirtyIn s
  have timer := settledOn_timer m h dirtyIn s
  have mgmt : (s.settledOn m h dirtyIn).mgmt = s.mgmt := (congrArg State.mgmt (settledOn_rest m h dirtyIn s) :)
  have next : (s.settledOn m h dirtyIn).nextMode = .safe := by
    refine chosenMode_of_cause (by rw [State.onCtrl_mgmt, mgmt, inRun]) ?_
    rw [State.onCtrl_ctrl, ctrl, cause]
    rfl
  have told := opStateTold_timer (s.settledOn m h dirtyIn)
  rw [next] at told
  refine ⟨(opStateTold_mode _).trans next, ?_⟩
  rcases either with rfl | rfl
  · have same : (s.settledOn .safe h dirtyIn).nextMode = (s.settledOn .safe h dirtyIn).ctrl.mode := by rw [next, ctrl]
    have new : Mode.safe ≠ s.ctrl.mode := by rw [mode]; decide
    obtain ⟨-, notice, -⟩ := opStateTold_kept same
    have raised := (settledOn_raised (h := h) (dirtyIn := dirtyIn) new).raised
    refine ⟨?_, ?_⟩
    · rw [State.Raised, State.noticeRecord, notice]
      exact raised
    · have still : ¬Mode.safe ≠ (s.settledOn .safe h dirtyIn).ctrl.mode := by rw [ctrl]; simp
      rw [told, if_neg still, timer, if_pos new]
      simp
  · have new : (s.settledOn .park h dirtyIn).nextMode ≠ (s.settledOn .park h dirtyIn).ctrl.mode := by
      rw [next, ctrl]
      simp
    have raised := (settledOn_raised (h := ⟨none, none, none, none⟩) (dirtyIn := false)
      (s := (s.settledOn .park h dirtyIn).onCtrl fun c => { c with timerView := (s.settledOn .park h dirtyIn).timer.view })
      new).raised
    rw [next] at raised new
    refine ⟨?_, ?_⟩
    · rw [State.opStateTold, show ((s.settledOn .park h dirtyIn).onCtrl fun c =>
        { c with timerView := (s.settledOn .park h dirtyIn).timer.view }).chosenMode = .safe from next]
      exact raised
    · rw [told, if_pos new]
      simp

theorem flips_of_faultList (l : List EntryId) (s : State) (e : EntryId) :
    (s.onInteg fun u => { u with faultList := l }).flips e = s.flips e := by
  cases e <;> rfl

theorem wakeGo_mgmt (p : Params) (s : State) : (s.wakeGo p).mgmt = s.mgmt := rfl

theorem wakeGo_notice (p : Params) (s : State) : (s.wakeGo p).notice = s.notice := rfl

/-- A wake's work once its read has found the parameters faulted, the report off the queue. -/
def State.foundWork (cause : StartCause) (busy : LinesBusy) (s : State) : State :=
  ((s.wakeStart cause busy).paramsFound.wakeGo PowerOn.params).onCtrl fun c => { c with reports := [] }

section
variable {s : State} (first : s.integ.faultList = []) (cause : StartCause) (busy : LinesBusy)
include first

theorem wakeStart_first : (s.wakeStart cause busy).integ.faultList = [] :=
  (congrArg IntegrityUnit.faultList (wakeStart_integ cause busy s)).trans first

theorem foundWork_tables : ((s.foundWork cause busy).onInteg fun u => { u with faultList := [] }).tables = s.tables :=
  (wakeGo_tables PowerOn.params ((s.wakeStart cause busy).paramsFound.onInteg fun u => { u with faultList := [] })).trans
    ((paramsFound_tables (wakeStart_first first cause busy)).trans (wakeStart_tables cause busy s))

theorem foundWork_integ :
    (s.foundWork cause busy).integ = { s.integ with faultList := [.params], scrubTimer := some 100 } := by
  have integ := paramsFound_integ (wakeStart_first first cause busy)
  rw [wakeStart_integ] at integ
  exact (congrArg (fun u : IntegrityUnit => { u with scrubTimer := some 100 }) integ :)

theorem foundWork_mgmt : (s.foundWork cause busy).mgmt = { s.mgmt with opState := .run } := by
  rw [State.foundWork, State.onCtrl_mgmt, wakeGo_mgmt, paramsFound_mgmt (wakeStart_first first cause busy), wakeStart_mgmt]

omit first in
theorem foundWork_record (k : NoticeKind) :
    (s.foundWork cause busy).noticeRecord k = (s.wakeStart cause busy).paramsFound.noticeRecord k := by
  rw [State.noticeRecord, State.foundWork, State.onCtrl_notice, wakeGo_notice, State.noticeRecord]

theorem foundWork_ctrl : (s.foundWork cause busy).ctrl = { s.ctrl with reports := [] } := by
  have ctrl := paramsFound_ctrl (wakeStart_first first cause busy)
  rw [wakeStart_ctrl] at ctrl
  exact (congrArg (fun c : Controller => { c with reports := [] }) ctrl :)

theorem foundWork_known (others : ∀ e, e ≠ .params → s.flips e = []) (e : EntryId) : (s.foundWork cause busy).Known e := by
  intro good
  have other : e ≠ .params := by
    rintro rfl
    rw [State.isFaulted, foundWork_integ first] at good
    cases good
  rw [← flips_of_faultList [] (s.foundWork cause busy) e, flips_of_tables (foundWork_tables first cause busy), others e other]

variable (quiet : s.ctrl.reports = []) (damaged : 2 ≤ (s.flips .params).length)
include quiet damaged

/-- The work of the wake, up to the choice of the mode. -/
theorem wakeOn_found {z : State} (taken : takeReport (.faultList true) ⟨s.foundWork cause busy, []⟩ = .ok () ⟨z, []⟩) :
    wakeOn ⟨s.wakeStart cause busy, []⟩ = .ok () ⟨z, []⟩ := by
  have firstW := wakeStart_first first cause busy
  have found := readParams_found (v := ⟨s.wakeStart cause busy, []⟩) (by rw [State.isFaulted, firstW]; rfl)
    (by rw [flips_of_tables (wakeStart_tables cause busy s)]; exact damaged) (by rw [firstW]; decide)
  have reports : ((s.wakeStart cause busy).paramsFound.wakeGo PowerOn.params).ctrl.reports = [.faultList true] := by
    refine (congrArg Controller.reports (paramsFound_ctrl firstW)).trans ?_
    rw [wakeStart_ctrl, quiet]
    rfl
  rw [wakeOn, Act.bind_ok found, Act.bind_ok (Act.upd_run _ _), Act.bind_ok (Act.upd_run _ _)]
  refine (takeWaiting_cons (v := ⟨(s.wakeStart cause busy).paramsFound.wakeGo PowerOn.params, []⟩) reports).trans ?_
  exact (Act.bind_ok taken).trans rfl

end

/-- The state that follows the report of the fault. -/
def State.foundTold (m : Mode) (h : Handover) (d : Bool) (s : State) : State :=
  ((s.absorbedKnown (.faultList true)).settledOn m h d).opStateTold

section
variable (m : Mode) (h : Handover) (d : Bool) (s : State)

theorem foundTold_tables : (s.foundTold m h d).tables = s.tables :=
  (settledOn_tables ..).trans ((settledOn_tables ..).trans (absorbedKnown_tables ..))

theorem absorbedKnown_rest (r : Report) : { s.absorbedKnown r with
    ctrl := s.ctrl, notice := s.notice, port := s.port } = s :=
  congrArg (fun x : State => { x with ctrl := s.ctrl }) (deriveAgain_rest (s.onCtrl (·.told r)))

theorem foundTold_rest : { s.foundTold m h d with
    ctrl := s.ctrl, timer := s.timer, cmd := s.cmd, notice := s.notice, port := s.port } = s := by
  let cut (x : State) : State :=
    { x with ctrl := s.ctrl, timer := s.timer, cmd := s.cmd, notice := s.notice, port := s.port }
  have told := congrArg cut (opStateTold_rest ((s.absorbedKnown (.faultList true)).settledOn m h d))
  have settled := congrArg cut (settledOn_rest m h d (s.absorbedKnown (.faultList true)))
  exact (told.trans settled).trans (congrArg (fun x : State => { x with timer := s.timer, cmd := s.cmd })
    (absorbedKnown_rest s (.faultList true)))

theorem foundTold_ctrl : (s.foundTold m h d).ctrl.causes.tableFault = true ∧
    (s.foundTold m h d).ctrl.reports = s.ctrl.reports := by
  have told := opStateTold_ctrl ((s.absorbedKnown (.faultList true)).settledOn m h d)
  rw [settledOn_ctrl] at told
  obtain ⟨-, cause⟩ := absorbedKnown_fault s
  refine ⟨(congrArg (·.causes.tableFault) told :).trans cause, (congrArg Controller.reports told :).trans ?_⟩
  exact (congrArg Controller.reports (deriveAgain_ctrl (s.onCtrl (·.told (.faultList true))))).trans rfl

theorem foundTold_other {k : NoticeKind} (mode : k ≠ .modeChange) (clogged : k ≠ .filterClogged) :
    (s.foundTold m h d).noticeRecord k = s.noticeRecord k :=
  (settledOn_other mode ..).trans ((settledOn_other mode ..).trans (deriveAgain_other clogged _))

end

/-- A wake whose own read finds the parameters faulted, the first fault. -/
theorem wake_found {s : State} {cause : StartCause} {busy : LinesBusy} (mode : s.ctrl.mode = .park)
    (quiet : s.ctrl.reports = []) (first : s.integ.faultList = []) (damaged : 2 ≤ (s.flips .params).length)
    (others : ∀ e, e ≠ .params → s.flips e = []) :
    ∃ t, wake cause busy ⟨s, []⟩ = .ok () ⟨t, []⟩ ∧ t.mgmt.opState = .run ∧ t.ctrl.mode = .safe ∧
      t.ctrl.causes.tableFault = true ∧ t.ctrl.reports = [] ∧ t.Raised .start (.startCause cause) ∧
      t.Raised .tableFault (.entry .params) ∧ t.Raised .modeChange (.mode .safe) ∧ t.integ.faultList = [.params] ∧
      t.integ.scrubTimer = some 100 ∧ t.timer.handovers.getLast?.bind (·.mode) = some .safe := by
  have integ := foundWork_integ first cause busy
  have ctrl := foundWork_ctrl first cause busy
  have mgmt := foundWork_mgmt first cause busy
  have known := foundWork_known first cause busy others
  have on := fun z => wakeOn_found first cause busy quiet damaged (z := z)
  have start : (s.foundWork cause busy).noticeRecord .start = (s.wakeStart cause busy).noticeRecord .start := by
    rw [foundWork_record, paramsFound_other (wakeStart_first first cause busy) (by decide)]
  have fault : (s.foundWork cause busy).Raised .tableFault (.entry .params) := by
    rw [State.Raised, foundWork_record]
    exact paramsFound_raised
  generalize s.foundWork cause busy = g at integ ctrl mgmt known on start fault
  have inRun : g.mgmt.opState = .run := by rw [mgmt]
  have parked : g.ctrl.mode = .park := by rw [ctrl]; exact mode
  obtain ⟨m, h, d, either, taken⟩ := takeReport_fault (v := ⟨g, []⟩) known inRun parked
  obtain ⟨yMode, yCause⟩ := absorbedKnown_fault g
  rw [parked] at yMode
  have yMgmt : (g.absorbedKnown (.faultList true)).mgmt = g.mgmt :=
    (congrArg State.mgmt (absorbedKnown_rest g (.faultList true)) :)
  have zMgmt : ((g.absorbedKnown (.faultList true)).settledOn m h d).mgmt = g.mgmt :=
    (congrArg State.mgmt (settledOn_rest m h d (g.absorbedKnown (.faultList true))) :).trans yMgmt
  have told := opStateChanged_of_cause (v := ⟨(g.absorbedKnown (.faultList true)).settledOn m h d, []⟩)
    (by rw [zMgmt]; exact inRun) (by rw [settledOn_ctrl, yCause]; rfl)
    fun a => (known _).of_tables ((settledOn_tables ..).trans (absorbedKnown_tables ..))
  have pre := precleanOn_run (s := g.foundTold m h d) cause ((known _).of_tables (foundTold_tables m h d g))
  obtain ⟨safe, raised, last⟩ := opStateTold_safe (h := h) (dirtyIn := d) yMode either (by rw [yMgmt]; exact inRun) yCause
  have run : wake cause busy ⟨s, []⟩ =
      .ok () ⟨(g.foundTold m h d).withPreclean cause (g.foundTold m h d).paramsSeen, []⟩ := by
    rw [wake_eq cause busy quiet, Act.bind_ok ((Act.bind_ok (on _ taken)).trans told)]
    exact pre
  have rest := withPreclean_rest cause (g.foundTold m h d) (g.foundTold m h d).paramsSeen
  obtain ⟨tableFault, reports⟩ := foundTold_ctrl m h d g
  have whole := foundTold_rest m h d g
  have record {k : NoticeKind} (mode : k ≠ .modeChange) (clogged : k ≠ .filterClogged) :=
    foundTold_other m h d g mode clogged
  refine ⟨_, run, ?_⟩
  generalize (g.foundTold m h d).withPreclean cause (g.foundTold m h d).paramsSeen = t at rest ⊢
  have tCtrl : t.ctrl = (g.foundTold m h d).ctrl := (congrArg State.ctrl rest :)
  have tNotice : t.notice = (g.foundTold m h d).notice := (congrArg State.notice rest :)
  have tMgmt : t.mgmt = g.mgmt := (congrArg State.mgmt rest :).trans (congrArg State.mgmt whole :)
  have tInteg : t.integ = g.integ := (congrArg State.integ rest :).trans (congrArg State.integ whole :)
  have tTimer : t.timer = (g.foundTold m h d).timer := (congrArg State.timer rest :)
  have tRecord (k : NoticeKind) : t.noticeRecord k = (g.foundTold m h d).noticeRecord k := by
    rw [State.noticeRecord, tNotice]
    rfl
  refine ⟨by rw [tMgmt, inRun], by rw [tCtrl]; exact safe, by rw [tCtrl]; exact tableFault, ?_, ?_, ?_, ?_,
    by rw [tInteg, integ], by rw [tInteg, integ], by rw [tTimer]; exact last⟩
  · rw [tCtrl, reports, ctrl]
  · rw [State.Raised, tRecord, record (by decide) (by decide), start]
    exact (wakeStart_raisedFrom cause busy s).raised
  · rw [State.Raised, tRecord, record (by decide) (by decide)]
    exact fault
  · rw [State.Raised, tRecord]
    exact raised

/-! ### The settlement -/

theorem exec_parkWakeTimerExpiry {s : State} {busy : LinesBusy} (alive : s.alive = true) (parked : s.mgmt.opState = .parked)
    (runs : s.park.wakeTimer.isSome = true) {t : State} (h : wake .wakeTimer busy ⟨s, []⟩ = .ok () ⟨t, []⟩) :
    exec (.parkWakeTimerExpiry busy) s = .next t := by
  have running : (s.mgmt.opState == .parked && s.park.wakeTimer.isSome) = true := by rw [parked, runs]; rfl
  refine live_run_plain alive ?_
  rw [parkWakeExpiry, Act.bind_ok (Act.look_run _ _)]
  exact (congrFun (congrArg (onlyIf · (wake .wakeTimer busy)) running) _).trans h

theorem exec_upArrival_parked {s : State} {busy : LinesBusy} (alive : s.alive = true) (parked : s.mgmt.opState = .parked)
    (taking : s.port.upRx = .taking) {r : Reception} {f : Frame} (good : classify r = .good f) (dest : f.dest = 1)
    (kind : f.kind = .manage) {t : State} (h : wake .wakeLink busy ⟨s, []⟩ = .ok () ⟨t, []⟩) :
    exec (.upArrival r busy) s = .next t := by
  refine live_run_plain alive ?_
  simp only [upArrival, Act.bind_run, Act.look_run, taking, parked, beq_self_eq_true, onlyIf_true, if_true, upInParked,
    good, dest, kind, Bool.and_self]
  exact h

theorem exec_upArrival_asleep {s : State} {busy : LinesBusy} (alive : s.alive = true) (parked : s.mgmt.opState = .parked)
    {r : Reception} (other : s.port.upRx = .waitingIdle ∨ ∀ f, classify r = .good f → f.dest ≠ 1 ∨ f.kind ≠ .manage) :
    exec (.upArrival r busy) s = .next s := by
  refine live_run_plain alive ?_
  simp only [upArrival, Act.bind_run, Act.look_run, parked, beq_self_eq_true, if_true]
  rcases other with waiting | other
  · rw [waiting]
    rfl
  · refine onlyIf_run (fun _ => ?_) fun _ => rfl
    unfold upInParked
    cases good : classify r with
    | good f =>
      have no : (f.dest == 1 && f.kind == .manage) = false := by
        rw [Bool.and_eq_false_iff]
        exact (other f good).imp (fun h => by simpa using h) fun h => by simpa using h
      exact congrFun (congrArg (onlyIf · (wake .wakeLink busy)) no) _
    | checkError => rfl
    | malformed => rfl

/-- Woken by a door, the debounce behind it: the device as it stood before the line took its level. -/
theorem State.Woke.of_debounced {s t : State} {d : Door} {cause : StartCause} {busy : LinesBusy}
    (h : (s.debounced d).Woke t cause busy) (doorOpen : t.timer.doorOpen = true) : s.Woke t cause busy := by
  obtain ⟨a1, a2, a3, a4, a5, a6, a7, a8, a9, a10, a11, a12, measurement, mode, rest⟩ := h
  refine ⟨a1, a2, a3, a4, a5, a6, a7, a8, a9, a10, a11, a12, ?_, mode, rest⟩
  rw [if_pos doorOpen] at measurement ⊢
  exact measurement

theorem wake_woken {s : State} (cause : StartCause) (busy : LinesBusy) (u : s.Undamaged) (quiet : s.ctrl.reports = []) :
    wake cause busy ⟨s, []⟩ = .ok () ⟨s.woken cause busy, []⟩ :=
  wake_run (u.known _) quiet (opStateChanged_run (v := ⟨s.wakeWork cause busy, []⟩)
    (u.of_tables (wakeWork_tables cause busy s)))

theorem woken_doors (cause : StartCause) (busy : LinesBusy) (s : State) :
    (s.woken cause busy).timer.doors = s.timer.doors := by
  rw [woken_timer]
  exact (congrArg TimerUnit.doors s.timer.enterRun_rest :)

/-- A door line that takes its level in PARKED. -/
theorem exec_debounceEnd_parked {s : State} {d : Door} {busy : LinesBusy} (alive : s.alive = true)
    (parked : s.mgmt.opState = .parked) (good : s.Known .params) (runs : (s.timer.doors.get d).debounce.isSome = true)
    {t : State}
    (h : (if (s.timer.doors.get d).rawLow then onlyIf (s.park.armed.get d && s.paramsSeen.wakesOn d) (wake .wakeDoor busy)
      else upd (State.onPark fun k => { k with armed := k.armed.set d true }) : Act Unit) ⟨s.debounced d, []⟩ =
        .ok () ⟨t, []⟩) :
    exec (.debounceEnd d busy) s = .next t := by
  have seen := readParams_known (v := ⟨s.debounced d, []⟩) (good.of_tables rfl)
  refine live_run_plain alive ?_
  rw [debounceEnd_run (v := ⟨s, []⟩) busy runs, doorChanged, Act.bind_ok (Act.look_run _ _)]
  dsimp only
  rw [show (s.debounced d).mgmt.opState = .parked from parked]
  exact (Act.bind_ok seen).trans h

/-- Settles O51: the three wakes without damage, the wake with a SAFE cause, and the fault that the wake finds. -/
theorem wakesReturnTheDeviceToRun : Obligations.WakesReturnTheDeviceToRun := by
  refine ⟨fun s busy alive u parked mode quiet => ⟨fun stopped => ?_, fun runs => ?_, fun r f taking good dest kind => ?_,
    fun r other => exec_upArrival_asleep alive parked other, fun d runs => ⟨fun low armed wakes => ?_, fun low deaf => ?_,
      fun high => ?_⟩⟩, fun s busy alive known parked mode quiet cause runs => ?_,
    fun s c cause busy alive parked mode quiet first damaged others how => ?_⟩
  · refine live_run_plain alive ?_
    rw [parkWakeExpiry, Act.bind_ok (Act.look_run _ _), stopped, Option.isSome_none, Bool.and_false]
    rfl
  · refine ⟨_, exec_parkWakeTimerExpiry alive parked runs (wake_woken .wakeTimer busy u quiet),
      woken_woke .wakeTimer busy u mode, ?_, woken_doors ..⟩
    rw [woken_park, u.paramsSeen]
    rfl
  · refine ⟨_, exec_upArrival_parked alive parked taking good dest kind (wake_woken .wakeLink busy u quiet),
      woken_woke .wakeLink busy u mode, ?_, woken_doors ..⟩
    rw [woken_park]
    rfl
  · have w : (s.debounced d).Undamaged := u.of_tables rfl
    have doorOpen : ((s.debounced d).woken .wakeDoor busy).timer.doorOpen = true := by
      rw [TimerUnit.doorOpen, woken_doors]
      exact debounced_open low
    refine ⟨(s.debounced d).woken .wakeDoor busy, exec_debounceEnd_parked alive parked (u.known _) runs ?_,
      (woken_woke .wakeDoor busy w mode).of_debounced doorOpen, ?_, woken_doors .., ?_⟩
    · rw [low, armed, u.paramsSeen, wakes]
      exact wake_woken .wakeDoor busy w quiet
    · rw [woken_park]
      rfl
    · rw [woken_tally]
      rfl
  · refine exec_debounceEnd_parked alive parked (u.known _) runs ?_
    have no : (s.park.armed.get d && s.paramsSeen.wakesOn d) = false := by
      rw [u.paramsSeen, Bool.and_eq_false_iff]
      exact deaf
    rw [low, no]
    rfl
  · refine exec_debounceEnd_parked alive parked (u.known _) runs ?_
    rw [high]
    rfl
  · have inRun : (s.wakeWork .wakeTimer busy).mgmt.opState = .run :=
      congrArg Management.opState (wakeStart_mgmt .wakeTimer busy s)
    have some_ : (s.ctrl.causes.tableFault || s.ctrl.causes.inputLost) = true := by
      rw [← Bool.not_eq_false, Bool.or_eq_false_iff]
      rintro ⟨table, lost⟩
      exact cause (SafeCauses.mk.injEq .. ▸ ⟨table, lost⟩)
    have k (e : EntryId) : s.Known e := known e
    have told := opStateChanged_of_cause (v := ⟨s.wakeWork .wakeTimer busy, []⟩) inRun
      (by rw [wakeWork_ctrl]; exact some_) fun a => (k (.actuator a)).of_tables (wakeWork_tables ..)
    have run := exec_parkWakeTimerExpiry alive parked runs (wake_run (busy := busy) (k _) quiet told)
    have ctrl := woken_ctrl .wakeTimer busy s
    have integ := woken_integ .wakeTimer busy s
    have safe : (s.woken .wakeTimer busy).ctrl.mode = .safe := by
      rw [ctrl]
      exact if_pos some_
    have next : (s.wakeWork .wakeTimer busy).nextMode = .safe := by
      rw [wakeWork_nextMode]
      exact if_pos some_
    have new : (s.wakeWork .wakeTimer busy).nextMode ≠ (s.wakeWork .wakeTimer busy).ctrl.mode := by
      rw [next, wakeWork_ctrl, mode]
      decide
    have raised : (s.wakeWork .wakeTimer busy).opStateTold.Raised .modeChange
        (.mode (s.wakeWork .wakeTimer busy).nextMode) := (settledOn_raised (h := ⟨none, none, none, none⟩) (dirtyIn := false)
      (s := (s.wakeWork .wakeTimer busy).onCtrl fun c => { c with timerView := (s.wakeWork .wakeTimer busy).timer.view })
      new).raised
    rw [next] at raised
    refine ⟨s.woken .wakeTimer busy, run, by rw [woken_mgmt], safe, raised, by rw [ctrl], by rw [integ],
      fun i => ⟨s.staleStart i, ?_, fun faulted => ⟨State.staleStart_faulted faulted, ?_⟩, staleStart_known⟩⟩
    · rw [woken_quantity, wakeStart_slots]
    · have still : (s.woken .wakeTimer busy).isFaulted (.slotSetup i) = true := by
        rw [State.isFaulted, integ]
        exact faulted
      rw [State.slotSeen_faulted still]
  · obtain ⟨t, woken, facts⟩ := wake_found (cause := cause) (busy := busy) mode quiet first damaged others
    refine ⟨t, ?_, facts⟩
    rcases how with ⟨rfl, runs, rfl⟩ | ⟨r, f, rfl, taking, good, dest, kind, rfl⟩
    · exact exec_parkWakeTimerExpiry alive parked runs woken
    · exact exec_upArrival_parked alive parked taking good dest kind woken

end Sys2Proof.Machine
end

section
/-! SUPPORT. The door lines, the measurement and the recovery's bin. -/
namespace Sys2Proof.Machine
open Sys2Proof

/-! ### The lookup -/

/-- A bin that the lookup may pick. -/
def Qualifies (m : Nat) (b : RecoveryBin) : Prop := 0 < b.length ∧ b.threshold ≤ m

theorem qualifies_iff (m : Nat) (b : RecoveryBin) : (0 < b.length && b.threshold ≤ m : Bool) = true ↔ Qualifies m b := by
  simp [Qualifies]

theorem pickBin_pass {m : Nat} {b : RecoveryBin} (h : ¬Qualifies m b) (l : List RecoveryBin) :
    pickBin m (b :: l) = pickBin m l := if_neg (mt (qualifies_iff m b).1 h)

theorem pickBin_first {m : Nat} {b : RecoveryBin} (h : Qualifies m b) {l : List RecoveryBin} (none_ : pickBin m l = none) :
    pickBin m (b :: l) = some b := by
  simp only [pickBin, none_]
  exact if_pos ((qualifies_iff m b).2 h)

theorem pickBin_either {m : Nat} {b c : RecoveryBin} (h : Qualifies m b) {l : List RecoveryBin}
    (some_ : pickBin m l = some c) : pickBin m (b :: l) = if b.threshold < c.threshold then some c else some b := by
  simp only [pickBin, some_]
  exact if_pos ((qualifies_iff m b).2 h)

theorem pickBin_none_iff (m : Nat) (l : List RecoveryBin) : pickBin m l = none ↔ ∀ b ∈ l, ¬Qualifies m b := by
  induction l with
  | nil => simp [pickBin]
  | cons b l ih =>
    by_cases h : Qualifies m b
    · refine ⟨fun none_ => ?_, fun all => absurd h (all b List.mem_cons_self)⟩
      cases best : pickBin m l with
      | none => rw [pickBin_first h best] at none_; cases none_
      | some c =>
        rw [pickBin_either h best] at none_
        split at none_ <;> cases none_
    · rw [pickBin_pass h, ih, List.forall_mem_cons]
      exact ⟨fun rest => ⟨h, rest⟩, fun all => all.2⟩

/-- The bin picked has the largest threshold of those that qualify, and stands before its equals. -/
theorem pickBin_some {m : Nat} {l : List RecoveryBin} {b : RecoveryBin} (h : pickBin m l = some b) :
    ∃ xs ys, l = xs ++ b :: ys ∧ Qualifies m b ∧ (∀ c ∈ xs, Qualifies m c → c.threshold < b.threshold) ∧
      ∀ c ∈ ys, Qualifies m c → c.threshold ≤ b.threshold := by
  induction l generalizing b with
  | nil => cases h
  | cons a l ih =>
    by_cases qa : Qualifies m a
    · cases best : pickBin m l with
      | none =>
        rw [pickBin_first qa best] at h
        obtain rfl := Option.some.inj h
        have no := (pickBin_none_iff m l).1 best
        exact ⟨[], l, rfl, qa, by simp, fun c hc qc => absurd qc (no c hc)⟩
      | some c =>
        rw [pickBin_either qa best] at h
        by_cases less : a.threshold < c.threshold
        · rw [if_pos less] at h
          obtain ⟨xs, ys, rfl, q, before, behind⟩ := ih (best.trans h)
          obtain rfl := Option.some.inj h
          exact ⟨a :: xs, ys, rfl, q, List.forall_mem_cons.2 ⟨fun _ => less, before⟩, behind⟩
        · rw [if_neg less] at h
          obtain rfl := Option.some.inj h
          obtain ⟨xs, ys, rfl, -, before, behind⟩ := ih best
          refine ⟨[], xs ++ c :: ys, rfl, qa, by simp, fun e he qe => ?_⟩
          rcases List.mem_append.1 he with he | he
          · have := before e he qe
            omega
          · rcases List.mem_cons.1 he with rfl | he
            · omega
            · have := behind e he qe
              omega
    · rw [pickBin_pass qa] at h
      obtain ⟨xs, ys, rfl, q, before, behind⟩ := ih h
      exact ⟨a :: xs, ys, rfl, q, List.forall_mem_cons.2 ⟨fun qa' => absurd qa' qa, before⟩, behind⟩

/-! ### The level changes -/

theorem debounceMs_eq (l : DebounceLength) : PowerOn.debounceMs l = if l = .short then 20 else 200 := by
  cases l <;> rfl

section
variable {s : State} {d : Door} {low : Bool}

theorem exec_doorLevelChange_same (alive : s.alive = true) (same : (s.timer.doors.get d).rawLow = low) :
    exec (.doorLevelChange d low) s = .next s := by
  refine (if_pos alive).trans (live_run_plain alive ?_)
  have no : ((s.timer.doors.get d).rawLow != low) = false := by simpa using same
  rw [levelChange, Act.bind_ok (Act.look_run _ _), no]
  rfl

theorem exec_doorLevelChange_back (alive : s.alive = true) (other : (s.timer.doors.get d).rawLow ≠ low)
    (back : (s.timer.doors.get d).isOpen = low) :
    exec (.doorLevelChange d low) s = .next (s.onDoor d fun l => { l with rawLow := low, debounce := none }) := by
  refine (if_pos alive).trans (live_run_plain alive ?_)
  have yes : ((s.timer.doors.get d).rawLow != low) = true := by simpa using other
  rw [levelChange, Act.bind_ok (Act.look_run _ _), yes, onlyIf_true, Act.bind_ok (Act.upd_run _ _), if_pos back,
    Act.upd_run]
  exact congrArg (fun x => EStateM.Result.ok () (Event.mk x [])) (by cases d <;> rfl)

theorem exec_doorLevelChange_start (alive : s.alive = true) (u : s.Undamaged) (other : (s.timer.doors.get d).rawLow ≠ low)
    (start : (s.timer.doors.get d).isOpen ≠ low) : exec (.doorLevelChange d low) s = .next (s.onDoor d fun l =>
      { l with rawLow := low, debounce := some (if s.mgmt.params.content.debounceOf d = .short then 20 else 200) }) := by
  refine (if_pos alive).trans (live_run_plain alive ?_)
  have yes : ((s.timer.doors.get d).rawLow != low) = true := by simpa using other
  have w : ((s.setLevel d low).onDoor d fun l => { l with debounce := some (PowerOn.debounceMs .short) }).Undamaged :=
    u.of_tables rfl
  rw [levelChange, Act.bind_ok (Act.look_run _ _), yes, onlyIf_true, Act.bind_ok (Act.upd_run _ _), if_neg start,
    startDebounce, Act.bind_ok (Act.upd_run _ _), Act.bind_ok (readParams_undamaged w), Act.upd_run, debounceMs_eq]
  exact congrArg (fun x => EStateM.Result.ok () (Event.mk x [])) (by cases d <;> rfl)

end

/-! ### A debounce's end -/

theorem readBins_undamaged {v : Event} (u : v.state.Undamaged) :
    readBins [0, 1, 2, 3] v = .ok (v.state.timer.bins.toList.map (·.content)) v := by
  rw [readBins_known _ fun i _ => u.known _]
  congr 1
  have each : v.state.binSeen = fun i => some v.state.timer.bins[i].content := funext u.binSeen
  rw [each]
  generalize v.state.timer.bins = bins
  obtain ⟨⟨l⟩, size⟩ := bins
  match l, size with
  | [a, b, c, d], _ => rfl

/-- What a door's change does in RUN once the pre-clean has been seen to. -/
def runDoor (opened closed : Bool) : Act Unit := do
  onlyIf opened doorOpened
  onlyIf closed doorClosed
  upd State.reportTimers

theorem doorChanged_inRun {v : Event} (inRun : v.state.mgmt.opState = .run) (d : Door) (isOpen opened closed : Bool)
    (busy : LinesBusy) : doorChanged d isOpen opened closed busy v =
      runDoor opened closed ⟨if isOpen then v.state.stopPreclean else v.state, v.owed⟩ := by
  rw [doorChanged, Act.bind_ok (Act.look_run _ _), inRun]
  exact Act.bind_ok (onlyIf_upd_run isOpen State.stopPreclean v)

theorem exec_debounceEnd {s : State} {d : Door} {busy : LinesBusy} (alive : s.alive = true)
    (runs : (s.timer.doors.get d).debounce.isSome = true) {w : Event}
    (h : doorChanged d (s.timer.doors.get d).rawLow ((s.debounced d).timer.doorOpen && !s.timer.doorOpen)
      (s.timer.doorOpen && !(s.debounced d).timer.doorOpen) busy ⟨s.debounced d, []⟩ = .ok () w) :
    exec (.debounceEnd d busy) s = .next w.settled :=
  live_run alive ((debounceEnd_run (v := ⟨s, []⟩) busy runs).trans h)

theorem count_tally (e : SubEvent) (s : State) : (s.count e).tally =
    { s.tally with tallies := mapTable (fun t => t.add (e.amount s.ctrl.mode t)) s.tally.tallies } := by
  rw [← settled_give e s, Event.settled, State.raiseOverflows_tally]
  rfl

/-- The measurement as the first door to open starts it, with the recovery cut and the purge stopped. -/
def TimerUnit.opened (t : TimerUnit) : TimerUnit :=
  { t with
    recovery := none
    purge := none
    measurement := ⟨if t.recovery.isSome then t.measurement.value else 0, true, 0⟩ }

theorem count_ctrl (e : SubEvent) (s : State) : (s.count e).ctrl = s.ctrl := (congrArg State.ctrl (count_rest e s) :)

theorem doorOpened_run (s : State) : ∃ owed, doorOpened ⟨s, []⟩ = .ok ()
    ⟨(s.onTally fun _ => (if s.timer.recovery.isSome then (s.count .openings).count .recoveriesCut
      else s.count .openings).tally).onTimer TimerUnit.opened, owed⟩ := by
  obtain ⟨supplyUp, resetLow, pending, port, intake, quantity, ctrl, timer, cmd, mgmt, notice, tally, integ, park, draws⟩ := s
  obtain ⟨doors, measurement, bins, recovery, purge, gap, purgeCount, overrideTimer, record, m, a, b, c, handovers⟩ := timer
  cases recovery with
  | none =>
    simp only [Option.isSome_none, Bool.false_eq_true, if_false, count_tally]
    exact ⟨_, rfl⟩
  | some n =>
    simp only [Option.isSome_some, if_true, count_tally, count_ctrl]
    exact ⟨_, rfl⟩

/-- What the last door to close makes of the measurement and the recovery. -/
def TimerUnit.closed (recovers : Bool) (t : TimerUnit) : TimerUnit :=
  match pickBin t.measurement.value (t.bins.toList.map (·.content)) with
  | some b => if recovers then { t with measurement := t.measurement.held, recovery := startedTimer b.length }
    else { t with measurement := Measurement.rearmed }
  | none => { t with measurement := Measurement.rearmed }

theorem doorClosed_run {v : Event} (u : v.state.Undamaged) : doorClosed v =
    .ok () ⟨v.state.onTimer (·.closed v.state.mgmt.params.content.enablesRecover), v.owed⟩ := by
  have w : (v.state.onTimer fun t => { t with measurement := t.measurement.held }).Undamaged := u.of_tables rfl
  have bins := readBins_undamaged
    (v := ⟨v.state.onTimer fun t => { t with measurement := t.measurement.held }, v.owed⟩) w
  rw [doorClosed, Act.bind_ok (Act.upd_run _ _), Act.bind_ok bins, Act.bind_ok (Act.look_run _ _)]
  have held : v.state.timer.measurement.held.value = v.state.timer.measurement.value := rfl
  simp only [State.onTimer, TimerUnit.closed, held]
  cases pickBin v.state.timer.measurement.value (v.state.timer.bins.toList.map (·.content)) with
  | none => rfl
  | some b =>
    refine (Act.bind_ok (readParams_undamaged
      (v := ⟨v.state.onTimer fun t => { t with measurement := t.measurement.held }, v.owed⟩) w)).trans ?_
    by_cases recovers : v.state.mgmt.params.content.enablesRecover = true
    · refine (congrFun (if_pos recovers) _).trans ?_
      rw [recovers]
      rfl
    · refine (congrFun (if_neg recovers) _).trans ?_
      rw [Bool.eq_false_iff.2 recovers]
      rfl

end Sys2Proof.Machine
end

section
/-! SUPPORT. The doors: the settlement. -/
namespace Sys2Proof.Machine
open Sys2Proof

section
variable {s : State} {d : Door} {busy : LinesBusy} (alive : s.alive = true)
  (runs : (s.timer.doors.get d).debounce.isSome = true)

theorem debounced_shut (low : (s.timer.doors.get d).rawLow = false) (shut : s.timer.doorOpen = false) :
    (s.debounced d).timer.doorOpen = false := by
  cases d <;> simp_all [State.debounced, State.onDoor, State.onTimer, TimerUnit.doorOpen, PerDoor.set, PerDoor.get]

theorem not_opened (h : s.timer.doorOpen = true ∨ (s.timer.doors.get d).rawLow = false) :
    ((s.debounced d).timer.doorOpen && !s.timer.doorOpen) = false := by
  cases shut : s.timer.doorOpen
  · rw [debounced_shut (h.resolve_left (by rw [shut]; decide)) shut]
    rfl
  · exact Bool.and_false _

theorem doorChanged_config {v : Event} (inConfig : v.state.mgmt.opState = .config) (isOpen opened closed : Bool) :
    doorChanged d isOpen opened closed busy v = (do
      onlyIf opened (give .openings)
      upd State.reportTimers : Act Unit) v := by
  rw [doorChanged, Act.bind_ok (Act.look_run _ _), inConfig]

theorem doorChanged_parking {v : Event} (parking : v.state.mgmt.opState = .parking) (opened closed : Bool) :
    doorChanged d false opened closed busy v = upd State.reportTimers v := by
  rw [doorChanged, Act.bind_ok (Act.look_run _ _), parking]
  rfl

include alive runs

theorem exec_debounceEnd_config (inConfig : s.mgmt.opState = .config) : exec (.debounceEnd d busy) s = .next
    (if (s.debounced d).timer.doorOpen && !s.timer.doorOpen then (s.debounced d).count .openings
      else s.debounced d).reportTimers := by
  cases opened : (s.debounced d).timer.doorOpen && !s.timer.doorOpen
  · refine exec_debounceEnd alive runs (w := ⟨(s.debounced d).reportTimers, []⟩) ?_
    rw [doorChanged_config (v := ⟨s.debounced d, []⟩) inConfig, opened]
    rfl
  · have settled := settled_reportTimers ((⟨s.debounced d, []⟩ : Event).give .openings)
    rw [settled_give] at settled
    rw [if_pos rfl, ← settled]
    refine exec_debounceEnd alive runs ?_
    rw [doorChanged_config (v := ⟨s.debounced d, []⟩) inConfig, opened]
    rfl

/-- The first door to open in RUN. -/
theorem exec_debounceEnd_opens (inRun : s.mgmt.opState = .run) (shut : s.timer.doorOpen = false)
    (low : (s.timer.doors.get d).rawLow = true) : ∃ owed, exec (.debounceEnd d busy) s = .next
      (Event.settled ⟨((s.debounced d).stopPreclean.onTally fun _ =>
        (if s.timer.recovery.isSome then (s.count .openings).count .recoveriesCut else s.count .openings).tally).onTimer
          TimerUnit.opened, owed⟩).reportTimers := by
  obtain ⟨owed, opens⟩ := doorOpened_run (s.debounced d).stopPreclean
  have same : (if (s.debounced d).stopPreclean.timer.recovery.isSome then
      ((s.debounced d).stopPreclean.count .openings).count .recoveriesCut
      else (s.debounced d).stopPreclean.count .openings).tally =
      (if s.timer.recovery.isSome then (s.count .openings).count .recoveriesCut else s.count .openings).tally := by
    have recovery : (s.debounced d).stopPreclean.timer.recovery = s.timer.recovery := rfl
    rw [recovery]
    split <;> simp only [count_tally, count_ctrl] <;> rfl
  rw [same] at opens
  refine ⟨owed, ?_⟩
  rw [← settled_reportTimers]
  refine exec_debounceEnd alive runs ?_
  rw [low, debounced_open low, shut, doorChanged_inRun (v := ⟨s.debounced d, []⟩) inRun]
  exact (Act.bind_ok opens).trans rfl

/-- The last door to close in RUN. -/
theorem exec_debounceEnd_closes (u : s.Undamaged) (inRun : s.mgmt.opState = .run) (wasOpen : s.timer.doorOpen = true)
    (shut : (s.debounced d).timer.doorOpen = false) : exec (.debounceEnd d busy) s = .next
      ((s.debounced d).onTimer (·.closed s.mgmt.params.content.enablesRecover)).reportTimers := by
  have high : (s.timer.doors.get d).rawLow = false := by
    rw [← Bool.not_eq_true]
    intro low
    rw [debounced_open low] at shut
    cases shut
  have closes := doorClosed_run (v := ⟨s.debounced d, []⟩) (u.of_tables rfl)
  refine exec_debounceEnd alive runs
    (w := ⟨((s.debounced d).onTimer (·.closed s.mgmt.params.content.enablesRecover)).reportTimers, []⟩) ?_
  rw [high, shut, wasOpen, doorChanged_inRun (v := ⟨s.debounced d, []⟩) inRun]
  exact (Act.bind_ok closes).trans rfl

theorem exec_debounceEnd_still (inRun : s.mgmt.opState = .run) (same : s.timer.doorOpen = (s.debounced d).timer.doorOpen) :
    exec (.debounceEnd d busy) s = .next
      (if (s.timer.doors.get d).rawLow then (s.debounced d).stopPreclean else s.debounced d).reportTimers := by
  refine exec_debounceEnd alive runs
    (w := ⟨(if (s.timer.doors.get d).rawLow then (s.debounced d).stopPreclean else s.debounced d).reportTimers, []⟩) ?_
  have no : ((s.debounced d).timer.doorOpen && !(s.debounced d).timer.doorOpen) = false := Bool.and_not_self _
  rw [same, no, doorChanged_inRun (v := ⟨s.debounced d, []⟩) inRun]
  rfl

end

theorem closed_recovers {t : TimerUnit} {b : RecoveryBin}
    (picked : pickBin t.measurement.value (t.bins.toList.map (·.content)) = some b) :
    t.closed true = { t with measurement := ⟨t.measurement.value, false, 0⟩, recovery := some (b.length * 1000) } := by
  rw [TimerUnit.closed, picked]
  rfl

theorem closed_rearmed {t : TimerUnit} {recovers : Bool}
    (h : pickBin t.measurement.value (t.bins.toList.map (·.content)) = none ∨ recovers = false) :
    t.closed recovers = { t with measurement := ⟨0, false, 0⟩ } := by
  unfold TimerUnit.closed
  rcases h with none_ | rfl
  · rw [none_]
    rfl
  · cases pickBin t.measurement.value (t.bins.toList.map (·.content)) <;> rfl

theorem not_qualifies_iff (m : Nat) (b : RecoveryBin) : ¬Qualifies m b ↔ b.length = 0 ∨ m < b.threshold := by
  unfold Qualifies
  omega

/-- Settles O49: the level changes, the debounces' ends by operating state, and the lookup. -/
theorem doorsAreDebouncedMeasuredAndFollowed : Obligations.DoorsAreDebouncedMeasuredAndFollowed := by
  refine ⟨fun s d low alive u => ⟨exec_doorLevelChange_same alive, exec_doorLevelChange_back alive,
    exec_doorLevelChange_start alive u⟩, fun s d busy alive u => ⟨fun idle => ?_, fun runs => ⟨fun inConfig shut low => ?_,
      fun inConfig other => ?_, fun parking high => ?_, exec_debounceEnd_still alive runs, fun inRun shut low => ?_,
      fun inRun wasOpen shut => ?_⟩⟩, fun m l => ⟨?_, fun b h => ?_⟩⟩
  · exact live_run_plain alive (debounceEnd_idle (v := ⟨s, []⟩) busy (by rw [idle]; rfl))
  · have opened : ((s.debounced d).timer.doorOpen && !s.timer.doorOpen) = true := by rw [debounced_open low, shut]; rfl
    rw [exec_debounceEnd_config alive runs inConfig, if_pos opened]
    rfl
  · have opened := not_opened other
    rw [exec_debounceEnd_config alive runs inConfig, opened]
    rfl
  · refine exec_debounceEnd alive runs (w := ⟨(s.debounced d).reportTimers, []⟩) ?_
    rw [high, doorChanged_parking (v := ⟨s.debounced d, []⟩) parking]
    rfl
  · obtain ⟨owed, run⟩ := exec_debounceEnd_opens (busy := busy) alive runs inRun shut low
    refine ⟨_, run, ?_, ?_, ?_, ?_, ?_, ?_, ?_, ?_, ?_⟩
    all_goals simp only [Event.settled, State.reportTimers, State.report, State.onCtrl_timer, State.onCtrl_park,
      State.onCtrl_ctrl, State.onCtrl_tally, State.onCtrl_cmd, State.onCtrl_mgmt, State.onCtrl_quantity,
      State.onCtrl_intake, State.onCtrl_integ, State.raiseOverflows_timer, State.raiseOverflows_park,
      State.raiseOverflows_ctrl, State.raiseOverflows_tally, State.raiseOverflows_cmd, State.raiseOverflows_mgmt,
      State.raiseOverflows_quantity, State.raiseOverflows_intake, State.raiseOverflows_integ]
    all_goals rfl
  · have closes := exec_debounceEnd_closes (busy := busy) alive runs u inRun wasOpen shut
    refine ⟨fun b picked recovers => ?_, fun h => ?_⟩
    · rw [closes, recovers]
      exact congrArg (fun t => Host.Outcome.next ((s.debounced d).onTimer fun _ => t).reportTimers) (closed_recovers (t := (s.debounced d).timer) picked)
    · rw [closes]
      exact congrArg (fun t => Host.Outcome.next ((s.debounced d).onTimer fun _ => t).reportTimers) (closed_rearmed (t := (s.debounced d).timer) h)
  · rw [pickBin_none_iff]
    exact forall₂_congr fun b _ => not_qualifies_iff m b
  · obtain ⟨xs, ys, split_, ⟨len, thr⟩, before, behind⟩ := pickBin_some h
    exact ⟨xs, ys, split_, len, thr, fun c hc l t => before c hc ⟨l, t⟩, fun c hc l t => behind c hc ⟨l, t⟩⟩

end Sys2Proof.Machine
end

section
/-! SUPPORT. The stale timers. -/
namespace Sys2Proof.Machine
open Sys2Proof

/-! ### One slot changed -/

theorem onSlot_onSlot (i : Fin 32) (f g : Slot → Slot) (s : State) : (s.onSlot i f).onSlot i g = s.onSlot i (g ∘ f) := by
  have same : (s.onSlot i f).quantity.slots[i] = f s.quantity.slots[i] := Vector.getElem_set_self _
  have twice : (s.quantity.slots.set i (f s.quantity.slots[i])).set i (g (f s.quantity.slots[i])) =
      s.quantity.slots.set i (g (f s.quantity.slots[i])) := Vector.set_set ..
  refine (congrArg (fun x => (s.onSlot i f).onQuantity fun q => { q with slots := q.slots.set i (g x) }) same).trans ?_
  exact congrArg (fun v => s.onQuantity fun q => { q with slots := v }) twice

theorem onSlot_get (i : Fin 32) (f : Slot → Slot) (s : State) : (s.onSlot i f).quantity.slots[i] = f s.quantity.slots[i] :=
  Vector.getElem_set_self _

theorem onSlot_congr {i : Fin 32} {f g : Slot → Slot} {s : State} (h : f s.quantity.slots[i] = g s.quantity.slots[i]) :
    s.onSlot i f = s.onSlot i g :=
  congrArg (fun x => s.onQuantity fun q => { q with slots := q.slots.set i x }) h

theorem onSlot_tables (i : Fin 32) (f : Slot → Slot) (s : State) : (s.onSlot i f).tables = s.tables := rfl

theorem isRoleSlot_iff (s : State) (i : Fin 32) : s.isRoleSlot i = true ↔ ∃ r, s.ctrl.bindings.get r = some i := by
  simp only [State.isRoleSlot, List.any_eq_true, beq_iff_eq]
  exact ⟨fun ⟨r, _, h⟩ => ⟨r, h⟩, fun ⟨r, h⟩ => ⟨r, by cases r <;> decide, h⟩⟩

/-- A raise without damage. -/
theorem raise_undamaged {v : Event} (u : v.state.Undamaged) (k : NoticeKind) (d : Detail) : raise k d v =
    .ok () { v with state := v.state.raiseWith v.state.mgmt.params.content.escalation k d } :=
  raise_good d (u.good _)

theorem raiseInputLost_run {v : Event} (u : v.state.Undamaged) (i : Fin 32) : raiseInputLost i v = .ok ()
    { v with state := if v.state.isRoleSlot i then
        v.state.raiseWith v.state.mgmt.params.content.escalation .inputLost (.slot i) else v.state } := by
  rw [raiseInputLost, Act.bind_ok (Act.look_run _ _)]
  cases v.state.isRoleSlot i
  · rfl
  · exact raise_undamaged u _ _

/-! ### A slot's stale timer -/

section
variable {s : State} {i : Fin 32} (alive : s.alive = true)
include alive

theorem exec_staleTimerExpiry_runs (runs : s.quantity.slots[i].staleTimer ≠ some 0) :
    exec (.staleTimerExpiry i) s = .next s := by
  have no : expired s.quantity.slots[i].staleTimer = false := by simpa [expired] using runs
  refine live_run_plain alive ?_
  rw [staleExpiry, Act.bind_ok (Act.look_run _ _)]
  exact congrFun (congrArg (onlyIf · _) no) _

theorem exec_staleTimerExpiry_fault (ended : s.quantity.slots[i].staleTimer = some 0)
    (fault : (s.slotSeen i).status = .fault) :
    exec (.staleTimerExpiry i) s = .next (s.onSlot i Slot.endStale) := by
  have yes : expired s.quantity.slots[i].staleTimer = true := by rw [ended]; rfl
  have isFault : ((s.slotSeen i).status == .fault) = true := by rw [fault]; rfl
  refine live_run_plain alive ?_
  rw [staleExpiry, Act.bind_ok (Act.look_run _ _)]
  refine (congrFun (congrArg (onlyIf · _) yes) _).trans ?_
  refine (Act.bind_ok (Act.look_run _ _)).trans ((Act.bind_ok (Act.upd_run _ _)).trans ?_)
  exact congrFun (congrArg (onlyIf · _) (congrArg (!·) isFault)) _

theorem exec_staleTimerExpiry_stale (u : s.Undamaged) (ended : s.quantity.slots[i].staleTimer = some 0)
    (sound : s.quantity.slots[i].status ≠ .fault) {t : State}
    (ht : t = (s.onSlot i (Slot.toStale ∘ Slot.endStale)).reportSlot i) :
    exec (.staleTimerExpiry i) s = .next
      (if s.isRoleSlot i then t.raiseWith s.mgmt.params.content.escalation .inputLost (.slot i) else t) := by
  have yes : expired s.quantity.slots[i].staleTimer = true := by rw [ended]; rfl
  have noFault : ((s.slotSeen i).status == .fault) = false := by
    rw [u.slotSeen]
    simpa using sound
  have w : t.Undamaged := ht ▸ u.of_tables rfl
  refine live_run_plain alive ?_
  rw [staleExpiry, Act.bind_ok (Act.look_run _ _)]
  refine (congrFun (congrArg (onlyIf · _) yes) _).trans ?_
  refine (Act.bind_ok (Act.look_run _ _)).trans ((Act.bind_ok (Act.upd_run _ _)).trans ?_)
  refine (congrFun (congrArg (onlyIf · _) (congrArg (!·) noFault)) _).trans ?_
  refine (Act.bind_ok (Act.upd_run _ _)).trans ((Act.bind_ok (Act.upd_run _ _)).trans ?_)
  have here : (((s.onSlot i Slot.endStale).onSlot i Slot.toStale).reportSlot i) = t := by rw [onSlot_onSlot, ht]
  refine (congrArg (fun x => raiseInputLost i ⟨x, []⟩) here).trans ((raiseInputLost_run (v := ⟨t, []⟩) w i).trans ?_)
  have role : t.isRoleSlot i = s.isRoleSlot i := by rw [ht]; rfl
  have params : t.mgmt = s.mgmt := by rw [ht]; rfl
  rw [role, params]

end

theorem endStale_eq (sl : Slot) : sl.endStale = { sl with
    age := if 1000 ≤ sl.agePart then min 255 (sl.age + 1) else sl.age
    agePart := if 1000 ≤ sl.agePart then 0 else sl.agePart
    staleTimer := none } := by
  unfold Slot.endStale Slot.countSecond
  by_cases full : 1000 ≤ sl.agePart
  · rw [if_pos (show Config.msPerSecond ≤ sl.agePart from full), if_pos full, if_pos full]
  · rw [if_neg (show ¬Config.msPerSecond ≤ sl.agePart from full), if_neg full, if_neg full]

/-- Settles O44: an expiry that is none, that of a FAULT slot, that which makes the slot STALE, and a faulted setup's. -/
theorem staleTimersMakeTheirSlotsStale : Obligations.StaleTimersMakeTheirSlotsStale := by
  refine ⟨fun s i alive u => ⟨exec_staleTimerExpiry_runs alive, fun ended fault => ?_, fun ended sound => ?_⟩,
    fun s i alive faulted ended => ⟨?_, ?_⟩⟩
  · rw [exec_staleTimerExpiry_fault alive ended (by rw [u.slotSeen]; exact fault)]
    exact congrArg _ (onSlot_congr (endStale_eq _))
  · obtain ⟨t, ht⟩ : ∃ t, t = (s.onSlot i (Slot.toStale ∘ Slot.endStale)).reportSlot i := ⟨_, rfl⟩
    have run := exec_staleTimerExpiry_stale alive u ended sound ht
    have seen : ((s.onSlot i (Slot.toStale ∘ Slot.endStale)).slotSeen i).view =
        ⟨.stale, s.quantity.slots[i].compA.isSet, s.quantity.slots[i].compB.isSet⟩ := by
      rw [State.slotSeen_good (s := s.onSlot i _) (u.isFaulted _), onSlot_get, Function.comp_apply, endStale_eq]
      rfl
    have quantity : t.quantity = { s.quantity with slots := s.quantity.slots.set i { s.quantity.slots[i] with
        status := .stale
        age := if 1000 ≤ s.quantity.slots[i].agePart then min 255 (s.quantity.slots[i].age + 1) else s.quantity.slots[i].age
        agePart := if 1000 ≤ s.quantity.slots[i].agePart then 0 else s.quantity.slots[i].agePart
        pendingJump := none
        staleTimer := none
        compA := ⟨s.quantity.slots[i].compA.isSet, 0⟩
        compB := ⟨s.quantity.slots[i].compB.isSet, 0⟩ } } := by
      rw [ht]
      exact congrArg (fun x : Slot => { s.quantity with slots := s.quantity.slots.set i x.toStale }) (endStale_eq _)
    have ctrl : t.ctrl = { s.ctrl with reports := s.ctrl.reports ++
        [.slot i ⟨.stale, s.quantity.slots[i].compA.isSet, s.quantity.slots[i].compB.isSet⟩] } := by
      rw [ht, ← seen]
      rfl
    have alike : t.notice = s.notice ∧ t.port = s.port := by rw [ht]; exact ⟨rfl, rfl⟩
    have others : { t with quantity := s.quantity, ctrl := s.ctrl } = s := by rw [ht]; rfl
    by_cases role : s.isRoleSlot i = true
    · rw [if_pos role] at run
      have raised := raiseWith_raisedFrom s.mgmt.params.content.escalation .inputLost (.slot i) t
      have rest := raiseWith_rest s.mgmt.params.content.escalation .inputLost (.slot i) t
      generalize t.raiseWith s.mgmt.params.content.escalation .inputLost (.slot i) = t' at run raised rest
      have whole := (congrArg (fun x : State => { x with quantity := s.quantity, ctrl := s.ctrl, notice := s.notice, port := s.port })
        rest).trans (congrArg (fun x : State => { x with notice := s.notice, port := s.port }) others)
      have found := raised.raised
      refine ⟨t', run, (congrArg State.quantity rest :).trans quantity, (congrArg State.ctrl rest :).trans ctrl,
        fun _ => ⟨found.1, found.2, raised.congr alike.1.symm alike.2.symm rfl rfl⟩,
        fun none => absurd ((isRoleSlot_iff s i).1 role) (not_exists.2 none), ?_, ?_, ?_, ?_, ?_, ?_, ?_⟩
      · exact (congrArg State.timer whole :)
      · exact (congrArg State.cmd whole :)
      · exact (congrArg State.mgmt whole :)
      · exact (congrArg State.intake whole :)
      · exact (congrArg State.tally whole :)
      · exact (congrArg State.integ whole :)
      · exact (congrArg State.park whole :)
    · rw [if_neg role] at run
      refine ⟨t, run, quantity, ctrl, fun some_ => absurd ((isRoleSlot_iff s i).2 some_) role, fun _ => alike,
        ?_, ?_, ?_, ?_, ?_, ?_, ?_⟩
      · exact (congrArg State.timer others :)
      · exact (congrArg State.cmd others :)
      · exact (congrArg State.mgmt others :)
      · exact (congrArg State.intake others :)
      · exact (congrArg State.tally others :)
      · exact (congrArg State.integ others :)
      · exact (congrArg State.park others :)
  · rw [exec_staleTimerExpiry_fault alive ended (by rw [State.slotSeen_faulted faulted])]
    exact congrArg _ (onSlot_congr (endStale_eq _))
  · rw [State.slotSeen_faulted]
    exact faulted

end Sys2Proof.Machine
end

section
/-! SUPPORT. The ack timers. -/
namespace Sys2Proof.Machine
open Sys2Proof

/-! ### The expiry's three ways -/

section
variable {s : State} {a : Actuator} {o : Outstanding}

theorem ackExpiry_none (none_ : (s.cmd.delivery.get a).outstanding = none) : ackExpiry a ⟨s, []⟩ = .ok () ⟨s, []⟩ := by
  rw [ackExpiry, Act.bind_ok (Act.look_run _ _), none_]
  rfl

theorem ackExpiry_other (out : (s.cmd.delivery.get a).outstanding = some o) (other : o.phase ≠ .waiting) :
    ackExpiry a ⟨s, []⟩ = .ok () ⟨s, []⟩ := by
  have no : (o.phase == .waiting) = false := by simpa using other
  rw [ackExpiry, Act.bind_ok (Act.look_run _ _), out]
  exact congrFun (congrArg (onlyIf · _) no) _

variable (u : s.Undamaged) (out : (s.cmd.delivery.get a).outstanding = some o) (waiting : o.phase = .waiting)
include u out waiting

theorem ackExpiry_waiting : ackExpiry a ⟨s, []⟩ =
    (if o.attempts < s.mgmt.params.content.retryLimit + 1 then
      upd (State.onCmd (·.becomeDue a { o with attempts := o.attempts + 1 }))
    else if s.mgmt.params.content.timeoutAction == .abandon || s.mgmt.opState == .parking then
      abandon a o s.mgmt.params.content.failurePolicy
    else persist a o) ⟨s, []⟩ := by
  have yes : (o.phase == .waiting) = true := by rw [waiting]; rfl
  rw [ackExpiry, Act.bind_ok (Act.look_run _ _), out]
  refine (congrFun (congrArg (onlyIf · _) yes) _).trans ?_
  exact (Act.bind_ok (readParams_undamaged (v := ⟨s, []⟩) u)).trans (Act.bind_ok (Act.look_run _ _))

theorem ackExpiry_again (short : o.attempts < s.mgmt.params.content.retryLimit + 1) : ackExpiry a ⟨s, []⟩ =
    .ok () ⟨s.onCmd (·.becomeDue a { o with attempts := o.attempts + 1 }), []⟩ := by
  rw [ackExpiry_waiting u out waiting, if_pos short]
  rfl

variable (last : s.mgmt.params.content.retryLimit + 1 ≤ o.attempts)
include last

theorem ackExpiry_abandon (give_up : s.mgmt.params.content.timeoutAction = .abandon ∨ s.mgmt.opState = .parking) :
    ackExpiry a ⟨s, []⟩ = abandon a o s.mgmt.params.content.failurePolicy ⟨s, []⟩ := by
  have yes : (s.mgmt.params.content.timeoutAction == .abandon || s.mgmt.opState == .parking) = true := by
    simpa using give_up
  rw [ackExpiry_waiting u out waiting, if_neg (not_lt.2 last), if_pos yes]

theorem ackExpiry_persist (action : s.mgmt.params.content.timeoutAction = .persist) (other : s.mgmt.opState ≠ .parking) :
    ackExpiry a ⟨s, []⟩ = persist a o ⟨s, []⟩ := by
  have no : ¬(s.mgmt.params.content.timeoutAction == .abandon || s.mgmt.opState == .parking) = true := by
    simp [action, other]
  rw [ackExpiry_waiting u out waiting, if_neg (not_lt.2 last), if_neg no]

end

/-! ### Persisting -/

/-- A command that persists, DUE. -/
def CommandEngine.persisting (a : Actuator) (o : Outstanding) (c : CommandEngine) : CommandEngine :=
  { c with
    due := c.due ++ [a]
    delivery := c.delivery.set a { c.delivery.get a with
      outstanding := some ⟨o.tag, o.value, o.attempts, .due, true⟩
      ackTimer := none
      failed := if o.persisting then (c.delivery.get a).failed else true } }

theorem persist_run {s : State} (u : s.Undamaged) (a : Actuator) (o : Outstanding) : persist a o ⟨s, []⟩ = .ok ()
    ⟨if o.persisting then s.onCmd (·.persisting a o)
      else (s.onCmd (·.persisting a o)).raiseWith s.mgmt.params.content.escalation .actuatorSilent (.actuator a), []⟩ := by
  have w : (s.onCmd (·.persisting a o)).Undamaged := u.of_tables rfl
  rw [persist, Act.bind_ok (Act.upd_run _ _)]
  cases again : o.persisting
  · refine (Act.bind_ok (Act.upd_run _ _)).trans ?_
    have same : ((s.onCmd (·.becomeDue a { o with persisting := true })).onDelivery a fun d => { d with failed := true }) =
        s.onCmd (·.persisting a o) := by
      simp only [CommandEngine.persisting, again]
      cases a <;> rfl
    exact (congrArg (fun x => raise .actuatorSilent (.actuator a) ⟨x, []⟩) same).trans
      (raise_undamaged (v := ⟨s.onCmd (·.persisting a o), []⟩) w _ _)
  · have same : s.onCmd (·.becomeDue a { o with persisting := true }) = s.onCmd (·.persisting a o) := by
      simp only [CommandEngine.persisting, again]
      cases a <;> rfl
    exact congrArg (fun x => EStateM.Result.ok () (Event.mk x [])) same

/-! ### Abandoned -/

/-- A command abandoned. -/
def CommandEngine.abandoned (a : Actuator) (o : Outstanding) (c : CommandEngine) : CommandEngine :=
  (c.dropOutstanding a).onDelivery a fun d => { d with lastAbandoned := some o.tag, failed := true }

theorem abandoned_get (a b : Actuator) (o : Outstanding) (c : CommandEngine) : (c.abandoned a o).delivery.get b =
    if b = a then { c.delivery.get a with
      outstanding := none, ackTimer := none, lastAbandoned := some o.tag, failed := true }
    else c.delivery.get b := by
  cases a <;> cases b <;> rfl

theorem abandoned_rest (a : Actuator) (o : Outstanding) (c : CommandEngine) :
    { c.abandoned a o with delivery := c.delivery, due := c.due } = c := rfl

/-- The state once a command is abandoned and its notice raised. -/
def State.silenced (a : Actuator) (o : Outstanding) (s : State) : State :=
  (s.onCmd (·.abandoned a o)).raiseWith s.mgmt.params.content.escalation .actuatorSilent (.actuator a)

section
variable (a : Actuator) (o : Outstanding) (s : State)

theorem silenced_raisedFrom :
    s.RaisedFrom (s.silenced a o) .actuatorSilent (.actuator a) s.mgmt.params.content.escalation :=
  (raiseWith_raisedFrom _ _ _ (s.onCmd (·.abandoned a o))).congr rfl rfl rfl rfl

theorem silenced_rest : { s.silenced a o with notice := s.notice, port := s.port } = s.onCmd (·.abandoned a o) :=
  raiseWith_rest _ _ _ (s.onCmd (·.abandoned a o))

theorem silenced_cmd : (s.silenced a o).cmd = s.cmd.abandoned a o := (congrArg State.cmd (silenced_rest a o s) :)

theorem silenced_tables : (s.silenced a o).tables = s.tables := (congrArg State.tables (silenced_rest a o s) :)

theorem silenced_others : { s.silenced a o with cmd := s.cmd, notice := s.notice, port := s.port } = s :=
  (congrArg (fun x : State => { x with cmd := s.cmd }) (silenced_rest a o s) :)

end

/-- An abandonment up to what the policy adds. -/
theorem abandon_run {s : State} (u : s.Undamaged) (a : Actuator) (o : Outstanding) (policy : FailurePolicy) :
    abandon a o policy ⟨s, []⟩ = (do
      onlyIf (policy == .flush) do
        flushQueue
        raiseOwed
        raise .commandsHalted (.actuator a)
      upd State.reportCompletion : Act Unit) (Event.give .abandoned ⟨s.silenced a o, []⟩) := by
  have w : (s.onCmd (·.abandoned a o)).Undamaged := u.of_tables rfl
  rw [abandon, Act.bind_ok (Act.upd_run _ _)]
  exact (Act.bind_ok (raise_undamaged (v := ⟨s.onCmd (·.abandoned a o), []⟩) w _ _)).trans rfl

/-! ### The settlement -/

theorem exec_ackTimerExpiry {s : State} {a : Actuator} (alive : s.alive = true) {w : Event}
    (h : ackExpiry a ⟨s, []⟩ = .ok () w) : exec (.ackTimerExpiry a) s = .next w.settled := live_run alive h

/-- The state once a sub-event is counted, the completion reported, and the overflows raised. -/
def State.countReported (e : SubEvent) (y : State) : State :=
  (⟨((⟨y, []⟩ : Event).give e).state.reportCompletion, ((⟨y, []⟩ : Event).give e).owed⟩ : Event).settled

section
variable (e : SubEvent) (y : State)

theorem countReported_cmd : (y.countReported e).cmd =
    { y.cmd with completion := (y.mgmt.opState == .parking && y.cmd.quiet) || y.cmd.completion } := by
  rw [State.countReported, Event.settled, State.raiseOverflows_cmd, reportCompletion_cmd]
  rfl

theorem countReported_reported : { ((⟨y, []⟩ : Event).give e).state.reportCompletion with cmd := y.cmd } =
    ((⟨y, []⟩ : Event).give e).state := reportCompletion_rest _

theorem countReported_tally : (y.countReported e).tally = (y.count e).tally := by
  rw [State.countReported, Event.settled, State.raiseOverflows_tally, count_tally]
  exact (congrArg State.tally (countReported_reported e y) :)

theorem countReported_only : y.OnlyRpq (y.countReported e) ∧
    (∀ k, k ≠ .tallyOverflow → (y.countReported e).noticeRecord k = y.noticeRecord k) ∧
    { y.countReported e with cmd := y.cmd, notice := y.notice, port := y.port, tally := y.tally } = y := by
  obtain ⟨only, others, rest⟩ := raiseOverflows_only ((⟨y, []⟩ : Event).give e).owed
    ((⟨y, []⟩ : Event).give e).state.reportCompletion
  have reported := countReported_reported e y
  have notice : ((⟨y, []⟩ : Event).give e).state.reportCompletion.notice = y.notice := (congrArg State.notice reported :)
  have port : ((⟨y, []⟩ : Event).give e).state.reportCompletion.port = y.port := (congrArg State.port reported :)
  refine ⟨?_, fun k other => (others k other).trans ?_, ?_⟩
  · rw [State.OnlyRpq, ← port]
    exact only
  · rw [State.noticeRecord, notice]
    rfl
  · have whole := congrArg (fun x : State => { x with cmd := y.cmd, notice := y.notice, port := y.port, tally := y.tally }) rest
    exact whole.trans (congrArg (fun x : State => { x with notice := y.notice, port := y.port, tally := y.tally }) reported)

theorem countReported_noWrap (h : y.NoWrap) :
    (y.countReported e).notice = y.notice ∧ (y.countReported e).port = y.port := by
  have none_ : ((⟨y, []⟩ : Event).give e).owed = [] := congrArg Event.owed (give_noWrap h e)
  have reported := countReported_reported e y
  rw [State.countReported, none_]
  exact ⟨(congrArg State.notice reported :), (congrArg State.port reported :)⟩

end

/-- A raise leaves of the ports no more than RPQ changed. -/
theorem State.RaisedFrom.onlyRpq {s t : State} {k : NoticeKind} {d : Detail} {n : Nat} (h : s.RaisedFrom t k d n) :
    s.OnlyRpq t := by
  obtain ⟨more, port⟩ := h.more
  rw [State.OnlyRpq, port]

theorem State.OnlyRpq.trans {s t u : State} (h : s.OnlyRpq t) (h' : t.OnlyRpq u) : s.OnlyRpq u := by
  have both := congrArg (fun p : PortUnit => { p with rpq := s.port.rpq }) h'
  exact both.trans h

theorem and_decide (o : OpState) (q : Bool) : (o == .parking && q) = decide (o = .parking ∧ q = true) := by
  cases o <;> cases q <;> rfl

/-- Settles O42: no WAITING command, the command sent again, abandoned under CONTINUE, and persisting. -/
theorem ackTimersResendOrAbandon : Obligations.AckTimersResendOrAbandon := by
  refine fun s a o alive u => ⟨fun none_ => exec_ackTimerExpiry alive (ackExpiry_none none_),
    fun out other => exec_ackTimerExpiry alive (ackExpiry_other out other), fun out waiting => ⟨fun short => ?_,
      fun last giveUp policy => ?_, fun last action other => ?_⟩⟩
  · exact exec_ackTimerExpiry alive (ackExpiry_again u out waiting short)
  · have run : exec (.ackTimerExpiry a) s = .next ((s.silenced a o).countReported .abandoned) := by
      refine exec_ackTimerExpiry alive ((ackExpiry_abandon u out waiting last giveUp).trans ?_)
      rw [abandon_run u, policy]
      rfl
    obtain ⟨only, others, rest⟩ := countReported_only .abandoned (s.silenced a o)
    have cmd := countReported_cmd .abandoned (s.silenced a o)
    have tally := countReported_tally .abandoned (s.silenced a o)
    have calm := countReported_noWrap .abandoned (s.silenced a o)
    have silent := silenced_raisedFrom a o s
    have whole := silenced_others a o s
    have mgmt : (s.silenced a o).mgmt = s.mgmt := (congrArg State.mgmt whole :)
    rw [silenced_cmd, mgmt] at cmd
    generalize (s.silenced a o).countReported .abandoned = t at *
    refine ⟨t, run, ?_, fun b other => ?_, by rw [cmd]; rfl, by rw [cmd]; rfl, by rw [cmd]; rfl, ?_, ?_, ?_, by rw [cmd]; rfl,
      by rw [cmd]; rfl, ?_, fun noWrap => ?_, silent.onlyRpq.trans only, ?_⟩
    · rw [cmd]
      exact (abandoned_get a a o s.cmd).trans (if_pos rfl)
    · rw [cmd]
      exact (abandoned_get a b o s.cmd).trans (if_neg other)
    · rw [others _ (by decide)]
      exact silent.raised.1
    · rw [others _ (by decide)]
      exact silent.raised.2
    · rw [tally, count_tally, count_tally]
      have still : (s.silenced a o).tally = s.tally := (congrArg State.tally whole :)
      have ctrl : (s.silenced a o).ctrl = s.ctrl := (congrArg State.ctrl whole :)
      rw [still, ctrl]
    · rw [cmd]
      exact (Bool.or_comm ..).trans (congrArg (s.cmd.completion || ·) (and_decide ..))
    · obtain ⟨notice, port⟩ := calm (by
        have still : (s.silenced a o).tally = s.tally := (congrArg State.tally whole :)
        rw [State.NoWrap, still]
        exact noWrap)
      exact silent.congr rfl rfl notice port
    · have cut := congrArg (fun x : State => { x with cmd := s.cmd, notice := s.notice, port := s.port, tally := s.tally }) rest
      exact cut.trans (congrArg (fun x : State => { x with tally := s.tally }) whole)
  · have run := exec_ackTimerExpiry alive ((ackExpiry_persist u out waiting last action other).trans (persist_run u a o))
    have get : ((s.cmd.persisting a o).delivery.get a) = { s.cmd.delivery.get a with
        outstanding := some ⟨o.tag, o.value, o.attempts, .due, true⟩
        ackTimer := none
        failed := if o.persisting then (s.cmd.delivery.get a).failed else true } :=
      (PerActuator.get_set ..).trans (if_pos rfl)
    cases again : o.persisting
    · have raised : s.RaisedFrom ((s.onCmd (·.persisting a o)).raiseWith s.mgmt.params.content.escalation
          .actuatorSilent (.actuator a)) .actuatorSilent (.actuator a) s.mgmt.params.content.escalation :=
        (raiseWith_raisedFrom _ _ _ (s.onCmd (·.persisting a o))).congr rfl rfl rfl rfl
      have rest := raiseWith_rest s.mgmt.params.content.escalation .actuatorSilent (.actuator a) (s.onCmd (·.persisting a o))
      have cmd : ((s.onCmd (·.persisting a o)).raiseWith s.mgmt.params.content.escalation .actuatorSilent
        (.actuator a)).cmd = s.cmd.persisting a o := (congrArg State.cmd rest :)
      rw [again] at run get
      refine ⟨_, run, ?_, fun _ => ⟨?_, raised.raised.1⟩, ?_, ?_, ?_, fun _ => raised, fun no => (by cases no), ?_⟩
      · exact (congrArg (fun c : CommandEngine => (c.delivery.get a).outstanding) cmd).trans (congrArg Delivery.outstanding get)
      · exact (congrArg (fun c : CommandEngine => (c.delivery.get a).failed) cmd).trans (congrArg Delivery.failed get)
      · exact (congrArg CommandEngine.due cmd :).trans rfl
      · exact (congrArg CommandEngine.cmq cmd :).trans rfl
      · refine cmd.trans ?_
        rw [CommandEngine.persisting, again]
      · exact (congrArg (fun x : State => { x with cmd := s.cmd }) rest :)
    · rw [again] at run get
      refine ⟨_, run, congrArg Delivery.outstanding get, fun no => (by cases no), rfl, rfl, ?_, fun no => (by cases no),
        fun _ => ⟨rfl, rfl⟩, rfl⟩
      refine (show _ = s.cmd.persisting a o from rfl).trans ?_
      rw [CommandEngine.persisting, again]

end Sys2Proof.Machine
end

section
/-! SUPPORT. The queue flushed. -/
namespace Sys2Proof.Machine
open Sys2Proof

/-! ### The other actuators' commands dropped -/

/-- A delivery whose command is dropped. -/
def Delivery.flushed (d : Delivery) : Delivery :=
  { d with
    outstanding := none
    ackTimer := if d.outstanding.isSome then none else d.ackTimer
    lastAbandoned := if d.outstanding.isSome then d.outstanding.map (·.tag) else d.lastAbandoned }

/-- The Command Engine once an actuator's command is dropped, if it has one. -/
def CommandEngine.flushed (a : Actuator) (c : CommandEngine) : CommandEngine :=
  { c.onDelivery a Delivery.flushed with
    due := if (c.delivery.get a).outstanding.isSome then c.due.erase a else c.due }

theorem flushed_get (a b : Actuator) (c : CommandEngine) : (c.flushed a).delivery.get b =
    if b = a then (c.delivery.get a).flushed else c.delivery.get b := CommandEngine.onDelivery_get ..

theorem flushed_rest (a : Actuator) (c : CommandEngine) :
    { c.flushed a with delivery := c.delivery, due := c.due } = c := rfl

/-- An event with its Command Engine changed. -/
def Event.onCmd (f : CommandEngine → CommandEngine) (v : Event) : Event := ⟨v.state.onCmd f, v.owed⟩

/-- A number of ABANDONED given. -/
def Event.giveAbandoned (n : Nat) (v : Event) : Event := (List.replicate n SubEvent.abandoned).foldl (fun v e => v.give e) v

theorem giveAbandoned_onCmd (n : Nat) (f : CommandEngine → CommandEngine) (v : Event) :
    (v.onCmd f).giveAbandoned n = (v.giveAbandoned n).onCmd f := by
  unfold Event.giveAbandoned
  generalize List.replicate n SubEvent.abandoned = es
  induction es generalizing v with
  | nil => rfl
  | cons e es ih => exact ih (v.give e)

theorem giveAbandoned_add (n m : Nat) (v : Event) : (v.giveAbandoned n).giveAbandoned m = v.giveAbandoned (n + m) := by
  unfold Event.giveAbandoned
  rw [List.replicate_add, List.foldl_append]

theorem giveAbandoned_state (n : Nat) (v : Event) :
    (v.giveAbandoned n).state = v.state.onTally fun _ => (v.giveAbandoned n).state.tally := foldl_give_onTally _ v

theorem PerActuator.set_get {α : Type} (t : PerActuator α) (a : Actuator) : t.set a (t.get a) = t := by
  cases a <;> rfl

theorem Delivery.flushed_idle {d : Delivery} (out : d.outstanding = none) : d.flushed = d := by
  obtain ⟨⟩ := d
  obtain rfl := out
  rfl

theorem flushed_idle {a : Actuator} {c : CommandEngine} (out : (c.delivery.get a).outstanding = none) : c.flushed a = c := by
  have kept : c.onDelivery a Delivery.flushed = c := by
    rw [CommandEngine.onDelivery, Delivery.flushed_idle out, PerActuator.set_get]
  rw [CommandEngine.flushed, kept, out]
  rfl

theorem flushed_busy {a : Actuator} {c : CommandEngine} {o : Outstanding} (out : (c.delivery.get a).outstanding = some o) :
    (c.dropOutstanding a).onDelivery a (fun d => { d with lastAbandoned := some o.tag }) = c.flushed a := by
  have all : (c.delivery.get a).flushed =
      { c.delivery.get a with outstanding := none, ackTimer := none, lastAbandoned := some o.tag } := by
    simp [Delivery.flushed, out]
  simp only [CommandEngine.flushed, out]
  rw [CommandEngine.onDelivery, CommandEngine.onDelivery, all]
  cases a <;> rfl

theorem flushOther_run (a : Actuator) (v : Event) : flushOther a v = .ok ()
    ((v.giveAbandoned (v.state.cmd.delivery.get a).outstanding.isSome.toNat).onCmd (·.flushed a)) := by
  rw [flushOther, Act.bind_ok (Act.look_run _ _), ← giveAbandoned_onCmd]
  cases out : (v.state.cmd.delivery.get a).outstanding with
  | none =>
    have same : v.onCmd (·.flushed a) = v := congrArg (fun c => Event.mk { v.state with cmd := c } v.owed) (flushed_idle out)
    rw [same]
    rfl
  | some o =>
    have same : (v.state.onCmd (·.dropOutstanding a)).onDelivery a (fun d => { d with lastAbandoned := some o.tag }) =
        v.state.onCmd (·.flushed a) := congrArg (fun c => { v.state with cmd := c }) (flushed_busy out)
    refine (Act.bind_ok (Act.upd_run _ _)).trans ((Act.bind_ok (Act.upd_run _ _)).trans ?_)
    exact congrArg (fun x => EStateM.Result.ok () ((⟨x, v.owed⟩ : Event).give .abandoned)) same

/-- The Command Engine once a list of actuators is flushed. -/
def CommandEngine.flushedAll (l : List Actuator) (c : CommandEngine) : CommandEngine := l.foldl (fun c a => c.flushed a) c

/-- How many of a list have a command outstanding. -/
def CommandEngine.busy (l : List Actuator) (c : CommandEngine) : Nat :=
  l.countP fun a => (c.delivery.get a).outstanding.isSome

theorem busy_flushed {a : Actuator} {l : List Actuator} (fresh : a ∉ l) (c : CommandEngine) :
    (c.flushed a).busy l = c.busy l := by
  refine List.countP_congr fun b hb => ?_
  have other : b ≠ a := fun e => fresh (e ▸ hb)
  rw [flushed_get, if_neg other]

theorem forAll_flushOther_run {l : List Actuator} (once : l.Nodup) (v : Event) : forAll l flushOther v = .ok ()
    ((v.giveAbandoned (v.state.cmd.busy l)).onCmd (·.flushedAll l)) := by
  induction l generalizing v with
  | nil => rfl
  | cons a as ih =>
    obtain ⟨fresh, once⟩ := List.nodup_cons.1 once
    rw [forAll, Act.bind_ok (flushOther_run a v), ih once]
    have cmd : (v.giveAbandoned (v.state.cmd.delivery.get a).outstanding.isSome.toNat).state.cmd = v.state.cmd := by
      rw [giveAbandoned_state, State.onTally_cmd]
    have busy : v.state.cmd.busy (a :: as) = (v.state.cmd.delivery.get a).outstanding.isSome.toNat + v.state.cmd.busy as := by
      rw [CommandEngine.busy, List.countP_cons, Nat.add_comm]
      cases (v.state.cmd.delivery.get a).outstanding <;> rfl
    have here : ((v.giveAbandoned (v.state.cmd.delivery.get a).outstanding.isSome.toNat).onCmd (·.flushed a)).state.cmd =
        v.state.cmd.flushed a := congrArg (·.flushed a) cmd
    rw [here, busy_flushed fresh, giveAbandoned_onCmd, giveAbandoned_add, busy]
    rfl

theorem flushedAll_get {l : List Actuator} (once : l.Nodup) (c : CommandEngine) (b : Actuator) :
    (c.flushedAll l).delivery.get b = if b ∈ l then (c.delivery.get b).flushed else c.delivery.get b := by
  induction l generalizing c with
  | nil => rfl
  | cons a as ih =>
    obtain ⟨fresh, once⟩ := List.nodup_cons.1 once
    refine (ih once _).trans ?_
    rw [flushed_get]
    by_cases e : b = a
    · subst e
      simp [fresh]
    · simp [e]

theorem flushedAll_rest (l : List Actuator) (c : CommandEngine) :
    { c.flushedAll l with delivery := c.delivery, due := c.due } = c := by
  induction l generalizing c with
  | nil => rfl
  | cons a as ih =>
    exact (congrArg (fun d : CommandEngine => { d with delivery := c.delivery, due := c.due }) (ih (c.flushed a))).trans
      (flushed_rest a c)

/-- CMQ emptied. -/
def CommandEngine.emptied (c : CommandEngine) : CommandEngine :=
  { c with cmq := [], delivery := c.delivery.map fun d => { d with pendingValue := none } }

/-- The queue flushed and halted. -/
def CommandEngine.flushedOut (c : CommandEngine) : CommandEngine := { c.emptied.flushedAll Actuator.all with halted := true }

theorem busy_emptied (l : List Actuator) (c : CommandEngine) : c.emptied.busy l = c.busy l :=
  List.countP_congr fun a _ => by rw [CommandEngine.emptied, PerActuator.get_map]

theorem flushQueue_run (v : Event) : flushQueue v = .ok ()
    ((v.giveAbandoned (v.state.cmd.busy Actuator.all)).onCmd (·.flushedOut)) := by
  rw [flushQueue, Act.bind_ok (Act.upd_run _ _)]
  refine (Act.bind_ok (forAll_flushOther_run (by decide) (v.onCmd CommandEngine.emptied))).trans ?_
  have busy : (v.onCmd CommandEngine.emptied).state.cmd.busy Actuator.all = v.state.cmd.busy Actuator.all :=
    busy_emptied Actuator.all v.state.cmd
  rw [busy, giveAbandoned_onCmd]
  generalize v.giveAbandoned (v.state.cmd.busy Actuator.all) = w
  rfl

theorem flushedOut_get (c : CommandEngine) (b : Actuator) : c.flushedOut.delivery.get b =
    { (c.delivery.get b).flushed with pendingValue := none } := by
  have get := flushedAll_get (l := Actuator.all) (by decide) c.emptied b
  rw [if_pos (by cases b <;> decide), CommandEngine.emptied, PerActuator.get_map] at get
  exact get

theorem flushedOut_rest (c : CommandEngine) : { c.flushedOut with
    delivery := c.delivery, due := c.due, cmq := c.cmq, halted := c.halted } = c :=
  congrArg (fun d : CommandEngine => { d with delivery := c.delivery, cmq := c.cmq, halted := c.halted })
    (flushedAll_rest Actuator.all c.emptied)

theorem flushedOut_cmq (c : CommandEngine) : c.flushedOut.cmq = [] :=
  (congrArg CommandEngine.cmq (flushedAll_rest Actuator.all c.emptied) :)

theorem flushedOut_quiet (c : CommandEngine) : c.flushedOut.quiet = true := by
  rw [CommandEngine.quiet, flushedOut_cmq, List.isEmpty_nil, Bool.true_and, List.all_eq_true]
  intro b _
  rw [flushedOut_get]
  rfl

end Sys2Proof.Machine
end

section
/-! SUPPORT. The abandonment under FLUSH. -/
namespace Sys2Proof.Machine
open Sys2Proof

/-! ### The flush up to its overflows -/

/-- The state once the queue is flushed, `n` ABANDONED given before. -/
def State.flushed (n : Nat) (y : State) : State :=
  (((⟨y, []⟩ : Event).giveAbandoned n).onCmd (·.flushedOut)).settled

theorem onTally_onCmd_rest (f : TallyUnit → TallyUnit) (g : CommandEngine → CommandEngine) (y : State) :
    { (y.onTally f).onCmd g with cmd := y.cmd, tally := y.tally } = y := rfl

/-- Overflows raised after a change of the Command Engine and the tallies. -/
theorem State.OnlyOverflows.since {x y z w : State} (h : x.OnlyOverflows z) (same : x = w) (port : w.port = y.port)
    (notice : w.notice = y.notice) (kept : { w with cmd := y.cmd, tally := y.tally } = y) :
    y.OnlyRpq z ∧ (∀ k, k ≠ .tallyOverflow → z.noticeRecord k = y.noticeRecord k) ∧
      { z with cmd := y.cmd, notice := y.notice, port := y.port, tally := y.tally } = y := by
  subst same
  obtain ⟨only, others, rest⟩ := h
  refine ⟨?_, fun k other => (others k other).trans (congrArg (fun u : NoticeUnit => u.records[k.index]) notice), ?_⟩
  · rw [State.OnlyRpq, port] at only
    exact only
  · rw [port, notice] at rest
    exact (congrArg (fun s : State => { s with cmd := y.cmd, tally := y.tally }) rest :).trans kept

section
variable (n : Nat) (y : State)

theorem flushed_cmd : (y.flushed n).cmd = y.cmd.flushedOut := by
  refine (State.raiseOverflows_cmd _ _).trans ?_
  have state := giveAbandoned_state n ⟨y, []⟩
  exact (congrArg (fun x : State => x.cmd.flushedOut) state).trans rfl

theorem flushed_tally : (y.flushed n).tally = (y.countAll (List.replicate n .abandoned)).tally := by
  rw [State.flushed, Event.settled, State.raiseOverflows_tally, State.countAll, Event.settled, State.raiseOverflows_tally]
  rfl

theorem flushed_only : y.OnlyRpq (y.flushed n) ∧
    (∀ k, k ≠ .tallyOverflow → (y.flushed n).noticeRecord k = y.noticeRecord k) ∧
    { y.flushed n with cmd := y.cmd, notice := y.notice, port := y.port, tally := y.tally } = y := by
  have state := giveAbandoned_state n ⟨y, []⟩
  unfold State.flushed Event.settled
  generalize (⟨y, []⟩ : Event).giveAbandoned n = v at state ⊢
  have given : (v.onCmd (·.flushedOut)).state = (y.onTally fun _ => v.state.tally).onCmd (·.flushedOut) :=
    congrArg (State.onCmd (·.flushedOut)) state
  generalize v.state.tally = u at given
  have only := raiseOverflows_only (v.onCmd (·.flushedOut)).owed (v.onCmd (·.flushedOut)).state
  generalize (v.onCmd (·.flushedOut)).state.raiseOverflows (v.onCmd (·.flushedOut)).owed = z at only ⊢
  exact only.since given rfl rfl (onTally_onCmd_rest _ _ y)

theorem flushed_tables : (y.flushed n).tables = y.tables := by
  obtain ⟨_, _, rest⟩ := flushed_only n y
  have onCmd : { y.flushed n with notice := y.notice, port := y.port, tally := y.tally } = y.onCmd (·.flushedOut) :=
    (congrArg (fun c => { y.flushed n with cmd := c, notice := y.notice, port := y.port, tally := y.tally })
      (flushed_cmd n y)).trans (congrArg (State.onCmd (fun _ => y.cmd.flushedOut)) rest)
  have entries : y.cmd.flushedOut.entries = y.cmd.entries := (congrArg CommandEngine.entries (flushedOut_rest y.cmd) :)
  exact (congrArg State.tables onCmd :).trans (onCmd_tables entries)

theorem flushed_calm (few : n ≤ 4)
    (h : ∀ i : Fin 4, y.tally.tallies[i].notify = true → y.tally.tallies[i].value.toNat + 4 < 2 ^ 32) :
    (y.flushed n).notice = y.notice ∧ (y.flushed n).port = y.port := by
  have none_ : ((⟨y, []⟩ : Event).giveAbandoned n).owed = [] := by
    refine List.eq_nil_iff_forall_not_mem.2 fun i hi => ?_
    have short : (List.replicate n SubEvent.abandoned).length < 2 ^ 32 := by
      rw [List.length_replicate]
      omega
    obtain none_ | ⟨notify, wraps⟩ := (foldl_give_tally i _ short ⟨y, []⟩).2.1 hi
    · exact List.not_mem_nil none_
    · have small := h i notify
      have bound := List.countP_le_length (p := y.tally.tallies[i].counts y.ctrl.mode)
        (l := List.replicate n SubEvent.abandoned)
      rw [List.length_replicate] at bound
      have wrapped := of_decide_eq_true wraps
      dsimp only at wrapped
      omega
  have state := giveAbandoned_state n ⟨y, []⟩
  unfold State.flushed Event.settled Event.onCmd
  generalize (⟨y, []⟩ : Event).giveAbandoned n = v at none_ state ⊢
  rw [none_, state]
  exact ⟨rfl, rfl⟩

end

/-! ### The run -/

/-- The state once the queue is flushed and halted, its notice raised, and the completion reported. -/
def State.haltedBy (n : Nat) (a : Actuator) (y : State) : State :=
  ((y.flushed n).raiseWith y.mgmt.params.content.escalation .commandsHalted (.actuator a)).reportCompletion

section
variable (n : Nat) (a : Actuator) (y : State)

theorem haltedBy_reported : { y.haltedBy n a with cmd := y.cmd.flushedOut } =
    (y.flushed n).raiseWith y.mgmt.params.content.escalation .commandsHalted (.actuator a) := by
  have reported := reportCompletion_rest
    ((y.flushed n).raiseWith y.mgmt.params.content.escalation .commandsHalted (.actuator a))
  have cmd : ((y.flushed n).raiseWith y.mgmt.params.content.escalation .commandsHalted (.actuator a)).cmd =
      y.cmd.flushedOut := (congrArg State.cmd (raiseWith_rest _ _ _ (y.flushed n)) :).trans (flushed_cmd n y)
  rw [cmd] at reported
  exact reported

theorem haltedBy_cmd : (y.haltedBy n a).cmd = { y.cmd.flushedOut with
    completion := y.mgmt.opState == .parking || y.cmd.completion } := by
  have raised := raiseWith_rest y.mgmt.params.content.escalation .commandsHalted (.actuator a) (y.flushed n)
  have cmd := (congrArg State.cmd raised :).trans (flushed_cmd n y)
  have mgmt : ((y.flushed n).raiseWith y.mgmt.params.content.escalation .commandsHalted (.actuator a)).mgmt = y.mgmt :=
    (congrArg State.mgmt raised :).trans (congrArg State.mgmt (flushed_only n y).2.2 :)
  have still : y.cmd.flushedOut.completion = y.cmd.completion := (congrArg CommandEngine.completion (flushedOut_rest y.cmd) :)
  rw [State.haltedBy, reportCompletion_cmd, cmd, mgmt, flushedOut_quiet, Bool.and_true, still]

theorem haltedBy_raisedFrom : (y.flushed n).RaisedFrom (y.haltedBy n a) .commandsHalted (.actuator a)
    y.mgmt.params.content.escalation := by
  have reported := haltedBy_reported n a y
  refine (raiseWith_raisedFrom y.mgmt.params.content.escalation .commandsHalted (.actuator a) (y.flushed n)).congr
    rfl rfl ?_ ?_
  · exact (congrArg State.notice reported :)
  · exact (congrArg State.port reported :)

theorem haltedBy_rest : { y.haltedBy n a with cmd := y.cmd, notice := y.notice, port := y.port, tally := y.tally } = y := by
  have reported := congrArg (fun x : State => { x with cmd := y.cmd, notice := y.notice, port := y.port, tally := y.tally })
    (haltedBy_reported n a y)
  have raised := congrArg (fun x : State => { x with cmd := y.cmd, notice := y.notice, port := y.port, tally := y.tally })
    (raiseWith_rest y.mgmt.params.content.escalation .commandsHalted (.actuator a) (y.flushed n))
  exact (reported.trans raised).trans (flushed_only n y).2.2

theorem haltedBy_tally : (y.haltedBy n a).tally = (y.countAll (List.replicate n .abandoned)).tally := by
  have reported : (y.haltedBy n a).tally = _ := (congrArg State.tally (haltedBy_reported n a y) :)
  have raised : _ = (y.flushed n).tally := (congrArg State.tally
    (raiseWith_rest y.mgmt.params.content.escalation .commandsHalted (.actuator a) (y.flushed n)) :)
  exact (reported.trans raised).trans (flushed_tally n y)

end

theorem flush_run {y : State} (u : y.Undamaged) (a : Actuator) : (do
      onlyIf (FailurePolicy.flush == .flush) do
        flushQueue
        raiseOwed
        raise .commandsHalted (.actuator a)
      upd State.reportCompletion : Act Unit) (Event.give .abandoned ⟨y, []⟩) =
    .ok () ⟨y.haltedBy (y.cmd.busy Actuator.all + 1) a, []⟩ := by
  have cmd : (Event.give .abandoned ⟨y, []⟩).state.cmd = y.cmd := rfl
  have given : (Event.give .abandoned ⟨y, []⟩).giveAbandoned (y.cmd.busy Actuator.all) =
      (⟨y, []⟩ : Event).giveAbandoned (y.cmd.busy Actuator.all + 1) := rfl
  have whole := (flushed_only (y.cmd.busy Actuator.all + 1) y).2.2
  have same : (y.flushed (y.cmd.busy Actuator.all + 1)).mgmt = y.mgmt := (congrArg State.mgmt whole :)
  have w : (y.flushed (y.cmd.busy Actuator.all + 1)).Undamaged :=
    u.of_tables (flushed_tables _ y)
  refine (Act.bind_ok (x := ()) (w := ⟨(y.flushed (y.cmd.busy Actuator.all + 1)).raiseWith
    y.mgmt.params.content.escalation .commandsHalted (.actuator a), []⟩) ?_).trans rfl
  refine (Act.bind_ok (flushQueue_run _)).trans ?_
  rw [cmd, given]
  refine (Act.bind_ok (Act.raiseOwed_run _)).trans ?_
  refine (raise_undamaged (v := ⟨y.flushed (y.cmd.busy Actuator.all + 1), []⟩) w _ _).trans ?_
  rw [same]

/-! ### What the two together leave -/

theorem Actuator.mem_all (a : Actuator) : a ∈ Actuator.all := by cases a <;> decide

theorem busy_abandoned {a : Actuator} {o : Outstanding} {c : CommandEngine} (out : (c.delivery.get a).outstanding = some o) :
    (c.abandoned a o).busy Actuator.all + 1 = c.busy Actuator.all := by
  cases a <;> simp only [CommandEngine.busy, Actuator.all, List.countP_cons, List.countP_nil, abandoned_get, out,
    reduceCtorEq, if_true, if_false, Option.isSome_none, Option.isSome_some, Bool.false_eq_true] <;> omega

theorem flushed_abandoned_get {a : Actuator} {o : Outstanding} {c : CommandEngine}
    (out : (c.delivery.get a).outstanding = some o) (b : Actuator) :
    (c.abandoned a o).flushedOut.delivery.get b = { c.delivery.get b with
      pendingValue := none
      outstanding := none
      ackTimer := if (c.delivery.get b).outstanding.isSome then none else (c.delivery.get b).ackTimer
      failed := decide (b = a) || (c.delivery.get b).failed
      lastAbandoned := if (c.delivery.get b).outstanding.isSome then (c.delivery.get b).outstanding.map (·.tag)
        else (c.delivery.get b).lastAbandoned } := by
  rw [flushedOut_get, abandoned_get]
  by_cases e : b = a
  · subst e
    simp [Delivery.flushed, out]
  · simp [Delivery.flushed, e]

/-- No command outstanding leaves none DUE. -/
theorem CommandEngine.Sound.due_nil {c : CommandEngine} (sound : c.Sound)
    (none_ : ∀ b, (c.delivery.get b).outstanding = none) : c.due = [] := by
  obtain ⟨_, _, _, due, _⟩ := sound
  refine List.eq_nil_iff_forall_not_mem.2 fun b hb => ?_
  obtain ⟨o, out, _⟩ := (due b).1 hb
  rw [none_ b] at out
  cases out

/-- Settles O43: the command abandoned, the queue flushed and halted, and each notice as it is raised. -/
theorem flushEmptiesAndHaltsTheQueue : Obligations.FlushEmptiesAndHaltsTheQueue := by
  intro s a o alive u out waiting last giveUp policy
  have w : (s.silenced a o).Undamaged := u.of_tables (silenced_tables a o s)
  have run : exec (.ackTimerExpiry a) s = .next ((s.silenced a o).haltedBy (s.cmd.busy Actuator.all) a) := by
    refine exec_ackTimerExpiry (w := ⟨(s.silenced a o).haltedBy (s.cmd.busy Actuator.all) a, []⟩) alive ((ackExpiry_abandon u out waiting last giveUp).trans ?_)
    rw [abandon_run u, policy, ← busy_abandoned out, ← silenced_cmd]
    exact flush_run w a
  have few : s.cmd.busy Actuator.all ≤ 4 := List.countP_le_length
  have flushed := flushed_only (s.cmd.busy Actuator.all) (s.silenced a o)
  have calm := flushed_calm (s.cmd.busy Actuator.all) (s.silenced a o) few
  have cmd := haltedBy_cmd (s.cmd.busy Actuator.all) a (s.silenced a o)
  have raised := haltedBy_raisedFrom (s.cmd.busy Actuator.all) a (s.silenced a o)
  have rest := haltedBy_rest (s.cmd.busy Actuator.all) a (s.silenced a o)
  have tally := haltedBy_tally (s.cmd.busy Actuator.all) a (s.silenced a o)
  have silent := silenced_raisedFrom a o s
  have whole := silenced_others a o s
  have mgmt : (s.silenced a o).mgmt = s.mgmt := (congrArg State.mgmt whole :)
  have still : (s.silenced a o).tally = s.tally := (congrArg State.tally whole :)
  have ctrl : (s.silenced a o).ctrl = s.ctrl := (congrArg State.ctrl whole :)
  rw [silenced_cmd, mgmt] at cmd
  rw [mgmt] at raised
  rw [State.countAll_tally, still, ctrl, ← State.countAll_tally] at tally
  rw [still] at calm
  have deliveries (b : Actuator) := (congrArg (fun c : CommandEngine => c.delivery.get b) cmd).trans
    (flushed_abandoned_get out b)
  have sound (h : s.cmd.Sound) := sound_stepKeeps.toEventKeeps.exec sound_stepKeeps.toPinsKeep _ h run
  have kept : (s.cmd.abandoned a o).flushedOut.entries = s.cmd.entries ∧
      (s.cmd.abandoned a o).flushedOut.tagCounter = s.cmd.tagCounter ∧
      (s.cmd.abandoned a o).flushedOut.completion = s.cmd.completion := by
    have same := flushedOut_rest (s.cmd.abandoned a o)
    exact ⟨(congrArg CommandEngine.entries same :), (congrArg CommandEngine.tagCounter same :),
      (congrArg CommandEngine.completion same :)⟩
  obtain ⟨entries, tags, completion⟩ := kept
  generalize (s.silenced a o).flushed (s.cmd.busy Actuator.all) = z at *
  generalize (s.silenced a o).haltedBy (s.cmd.busy Actuator.all) a = t at *
  generalize s.silenced a o = y at *
  have none_ (b : Actuator) : (t.cmd.delivery.get b).outstanding = none := by rw [deliveries]
  refine ⟨t, run, ?_, ?_, fun b => ⟨none_ b, by rw [deliveries]⟩, ?_, ?_, fun b p other busy => ?_, ?_, raised.raised.1,
    raised.raised.2, tally, fun b => ?_, fun h => (sound h).due_nil none_, ?_, ?_, ?_, fun small => ?_,
    (silent.onlyRpq.trans flushed.1).trans raised.onlyRpq, ?_⟩
  · exact (congrArg CommandEngine.cmq cmd :).trans (flushedOut_cmq (s.cmd.abandoned a o))
  · exact (congrArg CommandEngine.halted cmd :).trans rfl
  · rw [deliveries, decide_eq_true rfl]
    rfl
  · rw [deliveries, out]
    rfl
  · rw [deliveries, busy, decide_eq_false other]
    exact ⟨rfl, rfl⟩
  · rw [raised.2.1 _ (by decide), flushed.2.1 _ (by decide)]
    exact silent.raised.1
  · refine (deliveries b).trans ?_
    cases (s.cmd.delivery.get b).outstanding <;> rfl
  · exact (congrArg CommandEngine.entries cmd :).trans entries
  · exact (congrArg CommandEngine.tagCounter cmd :).trans tags
  · refine (congrArg CommandEngine.completion cmd :).trans ?_
    refine (Bool.or_comm ..).trans (congrArg (s.cmd.completion || ·) ?_)
    cases s.mgmt.opState <;> rfl
  · obtain ⟨notice, port⟩ := calm small
    exact ⟨y.notice, y.port, silent.congr rfl rfl rfl rfl, raised.congr notice.symm port.symm rfl rfl⟩
  · have cut := congrArg (fun x : State => { x with cmd := s.cmd, notice := s.notice, port := s.port, tally := s.tally }) rest
    exact cut.trans (congrArg (fun x : State => { x with tally := s.tally }) whole)

end Sys2Proof.Machine
end

section
/-! SUPPORT. The replies' data, byte by byte. -/
namespace Sys2Proof.Machine
open Sys2Proof

/-! ### Numbers in bytes -/

theorem extractByte_eq {n : Nat} (w : BitVec n) (k : Nat) : w.extractLsb' k 8 = byteOf (w.toNat / 2 ^ k) := by
  apply BitVec.eq_of_toNat_eq
  simp only [BitVec.extractLsb'_toNat, byteOf, BitVec.toNat_ofNat, Nat.shiftRight_eq_div_pow]

theorem word16Bytes_nat (w : Word16) : word16Bytes w = [byteOf (w.toNat / 256), byteOf w.toNat] := by
  rw [word16Bytes, extractByte_eq, extractByte_eq, Nat.pow_zero, Nat.div_one]
  rfl

theorem word32Bytes_nat (w : Word32) : word32Bytes w =
    [byteOf (w.toNat / 2 ^ 24), byteOf (w.toNat / 2 ^ 16), byteOf (w.toNat / 2 ^ 8), byteOf w.toNat] := by
  rw [word32Bytes, extractByte_eq, extractByte_eq, extractByte_eq, extractByte_eq, Nat.pow_zero, Nat.div_one]

theorem natBytes2_eq (n : Nat) : natBytes2 n = [byteOf (n / 256), byteOf n] := by
  rw [natBytes2, word16Bytes_nat, BitVec.toNat_ofNat]
  have high : byteOf (n % 2 ^ 16 / 256) = byteOf (n / 256) := by
    apply BitVec.eq_of_toNat_eq
    simp only [byteOf, BitVec.toNat_ofNat]
    omega
  have low : byteOf (n % 2 ^ 16) = byteOf n := by
    apply BitVec.eq_of_toNat_eq
    simp only [byteOf, BitVec.toNat_ofNat]
    omega
  rw [high, low]

theorem intBytes2_eq (v : Int) : intBytes2 v = [byteOf ((v % 65536).toNat / 256), byteOf (v % 65536).toNat] := by
  rw [intBytes2, word16Bytes_nat, BitVec.toNat_ofInt]
  rfl

theorem flagByte_eq (b : Bool) : flagByte b = byteOf b.toNat := by cases b <;> rfl

/-! ### A set of notice kinds as a number -/

/-- Which kinds a predicate holds of, in code order. -/
def kindBits (rs : Vector NoticeRecord 14) (p : NoticeRecord → Bool) (i : Fin 14) : Bool := p rs[i]

theorem ofBits_eq_sum {n : Nat} (f : Fin n → Bool) : Nat.ofBits f = ∑ i, if f i then 2 ^ i.val else 0 := by
  induction n with
  | zero => rfl
  | succ n ih =>
    have twice (i : Fin n) : (if f i.succ then 2 ^ i.succ.val else 0) = 2 * (if f i.succ then 2 ^ i.val else 0) := by
      rw [mul_ite, Nat.mul_zero, Fin.val_succ, Nat.pow_succ']
    rw [Nat.ofBits_succ, ih, Fin.sum_univ_succ, Finset.sum_congr rfl fun i _ => twice i, ← Finset.mul_sum, Nat.add_comm]
    cases f 0 <;> rfl

theorem kindSet_eq (rs : Vector NoticeRecord 14) (p : NoticeRecord → Bool) : kindSet rs p = Nat.ofBits (kindBits rs p) := by
  rw [ofBits_eq_sum, Fin.sum_univ_def]
  rfl

theorem kindSet_lt (rs : Vector NoticeRecord 14) (p : NoticeRecord → Bool) : kindSet rs p < 2 ^ 14 := by
  rw [kindSet_eq]
  exact Nat.ofBits_lt_two_pow _

theorem kindSet_testBit (rs : Vector NoticeRecord 14) (p : NoticeRecord → Bool) (k : NoticeKind) :
    (kindSet rs p).testBit k.index.val = p rs[k.index] := by
  rw [kindSet_eq]
  exact Nat.testBit_ofBits_lt _ _ k.index.isLt

end Sys2Proof.Machine
end

section
/-! SUPPORT. The unprotected reads. -/
namespace Sys2Proof.Machine
open Sys2Proof

/-! ### The notices' bytes -/

theorem NoticeRecord.bytes_eq (r : NoticeRecord) : r.bytes =
    [byteOf (r.pending.toNat + 2 * r.masked.toNat + 4 * r.escalated.toNat + 8 * r.escalationTimer.isSome.toNat +
      16 * r.detail.isSome.toNat), byteOf r.count] ++ r.detail.elim [0, 0] Detail.bytes ++
      [byteOf (secondsLeft r.escalationTimer)] := by
  obtain ⟨_, _, detail, _, _, _⟩ := r
  cases detail <;> rfl

theorem toList_records (n : NoticeUnit) : n.records.toList = (List.finRange 14).map fun i : Fin 14 => n.records[i] := by
  refine List.ext_getElem (by simp) fun i _ _ => ?_
  simp

theorem noticeBytes_part (s : State) :
    noticeBytes s.notice 0 = (s.noticeRecord .start).bytes ++ (s.noticeRecord .modeChange).bytes ++
      (s.noticeRecord .inputSuspect).bytes ++ (s.noticeRecord .inputLost).bytes ∧
    noticeBytes s.notice 1 = (s.noticeRecord .actuatorSilent).bytes ++ (s.noticeRecord .actuatorFault).bytes ++
      (s.noticeRecord .co2Unresolved).bytes ++ (s.noticeRecord .filterClogged).bytes ∧
    noticeBytes s.notice 2 = (s.noticeRecord .overrideCancelled).bytes ++ (s.noticeRecord .commandsHalted).bytes ++
      (s.noticeRecord .queueDrop).bytes ++ (s.noticeRecord .tallyOverflow).bytes ∧
    noticeBytes s.notice 3 = (s.noticeRecord .tableCorrected).bytes ++ (s.noticeRecord .tableFault).bytes ++
      [s.notice.tagCounter, byteOf s.notice.airLamp.pattern.code, byteOf s.notice.serviceLamp.pattern.code] := by
  have four (a b c d : NoticeRecord) : [a, b, c, d].flatMap NoticeRecord.bytes = a.bytes ++ b.bytes ++ c.bytes ++ d.bytes := by
    simp
  have two (a b : NoticeRecord) : [a, b].flatMap NoticeRecord.bytes = a.bytes ++ b.bytes := by simp
  refine ⟨?_, ?_, ?_, ?_⟩ <;> unfold noticeBytes <;> rw [toList_records]
  · exact four ..
  · exact four ..
  · exact four ..
  · exact congrArg (· ++ _) (two ..)

/-! ### A reply that reads alone -/

section
variable {i : Instr} {tag src : Byte} {n : Nat} {part : Fin 4} {rule : PanelRule}
  {own : OriginClass → Act Reply} {s : State}

theorem awake_reads (awake : s.mgmt.opState ≠ .parked) : readStates.contains s.mgmt.opState = true := by
  cases h : s.mgmt.opState
  case parked => exact absurd h awake
  all_goals rfl

theorem exec_gateway_read (known : i.origin? = some (gateway tag))
    (run : runRequest i = serve (gateway tag) (codeByte n part) (afterChecks rule readStates own)) (ht : s.TakesRequest)
    {r : Reply} (reads : own .gateway ⟨s.answeredPlain tag (codeByte n part) .done, []⟩ =
      .ok r ⟨s.answeredPlain tag (codeByte n part) .done, []⟩) :
    exec i s = .next (s.answered tag (codeByte n part) r) :=
  exec_gateway_quiet known run ht (awake_reads ht.2.1) reads

theorem exec_panel_read (known : i.origin? = some (onDn src tag))
    (run : runRequest i = serve (onDn src tag) (codeByte n part) (afterChecks rule readStates own)) (ht : s.TakesDnRequest)
    (fitted : s.mgmt.params.content.panelNode ≠ 0) (node : src.toNat = s.mgmt.params.content.panelNode)
    (may : classCheck (some .panel) rule s.tally.tallies = none)
    {r : Reply} (reads : own .panel ⟨s.answeredDn src tag (codeByte n part) (plain .done), []⟩ =
      .ok r ⟨s.answeredDn src tag (codeByte n part) (plain .done), []⟩) :
    exec i s = .next (s.answeredDn src tag (codeByte n part) r) :=
  exec_panel_quiet known run ht fitted node may (awake_reads ht.2.1) reads

theorem exec_everyNode_read (known : i.origin? = some (toEveryNode tag))
    (run : runRequest i = serve (toEveryNode tag) (codeByte n part) (afterChecks rule readStates own))
    (alive : s.alive = true) (awake : s.mgmt.opState ≠ .parked) {r : Reply}
    (reads : own .gateway ⟨s.stopPreclean, []⟩ = .ok r ⟨s.stopPreclean, []⟩) : exec i s = .next s.stopPreclean :=
  exec_everyNode known run alive awake (awake_reads awake) (owed := []) reads

end

theorem readStateReply_run (part : Fin 4) (v : Event) : ∃ r, readStateReply part v = .ok r v := by
  unfold readStateReply
  split <;> exact ⟨_, rfl⟩

theorem historyReply_run (b : Byte) (v : Event) : ∃ r, readHistoryReply b v = .ok r v := by
  unfold readHistoryReply
  cases boundedIndex 32 b.toNat <;> exact ⟨_, rfl⟩

theorem tallyReply_run (b : Byte) (v : Event) : ∃ r, tallyReadReply b v = .ok r v := by
  unfold tallyReadReply
  cases boundedIndex 4 b.toNat <;> exact ⟨_, rfl⟩

theorem readHistoryReply_some {b : Byte} {i : Fin 32} (h : b.toNat = i.val) (v : Event) : readHistoryReply b v =
    .ok (done (historyBytes v.state.quantity.slots[i].history)) v := by
  rw [readHistoryReply, boundedIndex_some h]
  rfl

theorem readHistoryReply_none {b : Byte} (h : 32 ≤ b.toNat) (v : Event) : readHistoryReply b v = .ok (plain .badIndex) v := by
  rw [readHistoryReply, boundedIndex_none h]
  rfl

theorem tallyReadReply_some {b : Byte} {i : Fin 4} (h : b.toNat = i.val) (v : Event) : tallyReadReply b v =
    .ok (done (tallyBytes v.state.tally.tallies[i])) v := by
  rw [tallyReadReply, boundedIndex_some h]
  rfl

theorem tallyReadReply_none {b : Byte} (h : 4 ≤ b.toNat) (v : Event) : tallyReadReply b v = .ok (plain .badIndex) v := by
  rw [tallyReadReply, boundedIndex_none h]
  rfl

theorem runRequest_readState (o : Origin) {part : Fin 4} (h : part ≠ 3) : runRequest (.readState o part) =
    serve o (codeByte 1 part) (afterChecks .yes readStates fun _ => readStateReply part) := if_neg h

/-- Settles O24's reads of the gateway. -/
theorem gateway_reads_held {s : State} (tag : Byte) (ht : s.TakesRequest) :
    exec (.readState (gateway tag) 0) s = .next (s.answered tag (codeByte 1 0) (done (stateBytes0 s))) ∧
    exec (.readState (gateway tag) 1) s = .next (s.answered tag (codeByte 1 1) (done (stateBytes1 s))) ∧
    exec (.readState (gateway tag) 2) s =
      .next (s.answered tag (codeByte 1 2) (done (stateBytes2 (s.answeredPlain tag 0 .done)))) ∧
    (∀ (b : Byte) (i : Fin 32), b.toNat = i.val →
      exec (.readHistory (gateway tag) b) s =
        .next (s.answered tag (codeByte 3 0) (done (historyBytes s.quantity.slots[i].history)))) ∧
    (∀ b : Byte, 32 ≤ b.toNat →
      exec (.readHistory (gateway tag) b) s = .next (s.answeredPlain tag (codeByte 3 0) .badIndex)) ∧
    (∀ part, exec (.readNotices (gateway tag) part) s =
      .next (s.answered tag (codeByte 23 part) (done (noticeBytes s.notice part)))) ∧
    (∀ (b : Byte) (i : Fin 4), b.toNat = i.val →
      exec (.tallyRead (gateway tag) b) s =
        .next (s.answered tag (codeByte 26 0) (done (tallyBytes s.tally.tallies[i])))) ∧
    (∀ b : Byte, 4 ≤ b.toNat →
      exec (.tallyRead (gateway tag) b) s = .next (s.answeredPlain tag (codeByte 26 0) .badIndex)) ∧
    exec (.readFaults (gateway tag)) s = .next (s.answered tag (codeByte 29 0) (done (faultsBytes s.integ))) := by
  have fill (code : Byte) : stateBytes2 (s.answeredPlain tag code .done) = stateBytes2 (s.answeredPlain tag 0 .done) := by
    simp [stateBytes2, State.answeredPlain, State.answered]
  refine ⟨exec_gateway_read rfl (runRequest_readState _ (by decide)) ht rfl,
    exec_gateway_read rfl (runRequest_readState _ (by decide)) ht rfl, ?_,
    fun b i index => exec_gateway_read rfl rfl ht (readHistoryReply_some index _),
    fun b out => exec_gateway_read rfl rfl ht (readHistoryReply_none out _),
    fun part => exec_gateway_read rfl rfl ht rfl,
    fun b i index => exec_gateway_read rfl rfl ht (tallyReadReply_some index _),
    fun b out => exec_gateway_read rfl rfl ht (tallyReadReply_none out _),
    exec_gateway_read rfl rfl ht rfl⟩
  rw [← fill]
  exact exec_gateway_read rfl (runRequest_readState _ (by decide)) ht rfl

/-- Settles O24's reads of the panel. -/
theorem panel_reads_held {s : State} {src : Byte} (tag : Byte) (ht : s.TakesDnRequest)
    (fitted : s.mgmt.params.content.panelNode ≠ 0) (node : src.toNat = s.mgmt.params.content.panelNode) :
    exec (.readState (onDn src tag) 0) s = .next (s.answeredDn src tag (codeByte 1 0) (done (stateBytes0 s))) ∧
    exec (.readState (onDn src tag) 1) s = .next (s.answeredDn src tag (codeByte 1 1) (done (stateBytes1 s))) ∧
    exec (.readState (onDn src tag) 2) s =
      .next (s.answeredDn src tag (codeByte 1 2) (done (stateBytes2 (s.answeredDn src tag 0 (plain .done))))) ∧
    (∀ part, exec (.readNotices (onDn src tag) part) s =
      .next (s.answeredDn src tag (codeByte 23 part) (done (noticeBytes s.notice part)))) ∧
    (∀ (b : Byte) (i : Fin 4), b.toNat = i.val →
      exec (.tallyRead (onDn src tag) b) s = .next (s.answeredDn src tag (codeByte 26 0)
        (if s.tally.tallies[i].panelReadable then done (tallyBytes s.tally.tallies[i]) else plain .refusedClass))) ∧
    (∀ b : Byte, 4 ≤ b.toNat →
      exec (.tallyRead (onDn src tag) b) s = .next (s.answeredDn src tag (codeByte 26 0) (plain .badIndex))) := by
  have fill (code : Byte) :
      stateBytes2 (s.answeredDn src tag code (plain .done)) = stateBytes2 (s.answeredDn src tag 0 (plain .done)) := by
    simp [stateBytes2, State.answeredDn]
  refine ⟨exec_panel_read rfl (runRequest_readState _ (by decide)) ht fitted node rfl rfl,
    exec_panel_read rfl (runRequest_readState _ (by decide)) ht fitted node rfl rfl, ?_,
    fun part => exec_panel_read rfl rfl ht fitted node rfl rfl, fun b i index => ?_, fun b out => ?_⟩
  · rw [← fill]
    exact exec_panel_read rfl (runRequest_readState _ (by decide)) ht fitted node rfl rfl
  · have check : classCheck (some .panel) (.tally b) s.tally.tallies =
        if s.tally.tallies[i].panelReadable then none else some .refusedClass := by
      rw [classCheck, boundedIndex_some index]
    cases may : s.tally.tallies[i].panelReadable
    · exact exec_panel_refused rfl rfl ht fitted node (.inl (check.trans (by rw [may]; rfl)))
    · exact exec_panel_read rfl rfl ht fitted node (check.trans (by rw [may]; rfl)) (tallyReadReply_some index _)
  · exact exec_panel_refused rfl rfl ht fitted node (.inl (by rw [classCheck, boundedIndex_none out]))

/-- Settles O24's reads sent to every node. -/
theorem everyNode_reads_leave_nothing {s : State} (tag b : Byte) (part : Fin 4) (alive : s.alive = true)
    (awake : s.mgmt.opState ≠ .parked) :
    exec (.readState (toEveryNode tag) part) s = .next s.stopPreclean ∧
    exec (.readHistory (toEveryNode tag) b) s = .next s.stopPreclean ∧
    exec (.readNotices (toEveryNode tag) part) s = .next s.stopPreclean ∧
    exec (.tallyRead (toEveryNode tag) b) s = .next s.stopPreclean ∧
    exec (.readFaults (toEveryNode tag)) s = .next s.stopPreclean := by
  obtain ⟨_, history⟩ := historyReply_run b ⟨s.stopPreclean, []⟩
  obtain ⟨_, tally⟩ := tallyReply_run b ⟨s.stopPreclean, []⟩
  refine ⟨?_, exec_everyNode_read rfl rfl alive awake history, exec_everyNode_read rfl rfl alive awake rfl,
    exec_everyNode_read rfl rfl alive awake tally, exec_everyNode_read rfl rfl alive awake rfl⟩
  by_cases last : part = 3
  · subst last
    have run : runRequest (.readState (toEveryNode tag) 3) ⟨s, []⟩ = .ok () ⟨s.stopPreclean, []⟩ := by
      refine (serve_everyNode awake tag (codeByte 1 3) fun _ => pure (plain .unknown)).trans ?_
      rfl
    rw [exec_request_alive rfl alive, Act.after, run]
    rfl
  · obtain ⟨_, state⟩ := readStateReply_run part ⟨s.stopPreclean, []⟩
    exact exec_everyNode_read rfl (runRequest_readState _ last) alive awake state

/-! ### The data of the replies -/

theorem timerBytes_eq (t : Option Nat) :
    timerBytes t = byteOf t.isSome.toNat :: [byteOf (secondsLeft t / 256), byteOf (secondsLeft t)] := by
  rw [timerBytes, flagByte_eq, natBytes2_eq]

theorem append_four {a b c d a' b' c' d' : List Byte} (ha : a = a') (hb : b = b') (hc : c = c') (hd : d = d') :
    a ++ b ++ c ++ d = a' ++ b' ++ c' ++ d' := by rw [ha, hb, hc, hd]

/-- Settles O24: each of the three classes' reads, and the data they answer. -/
theorem unprotectedReadsAnswerWhatIsHeld : Obligations.UnprotectedReadsAnswerWhatIsHeld := by
  refine ⟨fun s tag ht => gateway_reads_held tag ht, fun s src tag ht fitted node => panel_reads_held tag ht fitted node,
    fun s tag b part alive awake => everyNode_reads_leave_nothing tag b part alive awake, fun s =>
    ⟨?_, ?_, ?_, fun h => ?_, fun t => ?_, ?_, ?_⟩⟩
  · simp only [stateBytes0, natBytes2_eq, flagByte_eq]
    rfl
  · simp only [stateBytes1, timerBytes_eq]
    refine congrArg₂ (· ++ ·) (congrArg₂ (· ++ ·) (congrArg₂ (· ++ ·) (congrArg₂ (· ++ ·) (congrArg₂ (· ++ ·) ?_ ?_)
      ?_) ?_) rfl) ?_
    · cases s.timer.purge <;> rfl
    · cases s.timer.gap <;> rfl
    · cases s.timer.recovery <;> rfl
    · cases s.timer.overrideTimer <;> rfl
    cases s.timer.overrideRecord with
    | none => rfl
    | some r => exact congrArg (List.cons 1) (by rw [OverrideRecord.bytes, natBytes2_eq]; rfl)
  · refine ⟨kindSet s.notice.records (·.pending), kindSet s.notice.records (·.escalated), ?_, kindSet_lt .., kindSet_lt ..,
      fun k => ⟨kindSet_testBit .., kindSet_testBit ..⟩⟩
    simp only [stateBytes2, natBytes2_eq]
  · rw [historyBytes]
    exact congrArg (fun f : Int → List Byte => byteOf h.length :: h.flatMap f) (funext intBytes2_eq)
  · simp only [tallyBytes, word32Bytes_nat, word16Bytes_nat, flagByte_eq]
    rfl
  · simp only [faultsBytes, natBytes2_eq, flagByte_eq]
    rfl
  · obtain ⟨first, second, third, fourth⟩ := noticeBytes_part s
    rw [first, second, third, fourth]
    refine ⟨append_four ?_ ?_ ?_ ?_, append_four ?_ ?_ ?_ ?_, append_four ?_ ?_ ?_ ?_,
      congrArg (· ++ _) (congrArg₂ (· ++ ·) ?_ ?_)⟩
    all_goals
      rw [NoticeRecord.bytes_eq]
      dsimp only
      generalize s.noticeRecord _ = r
      obtain ⟨_, _, detail, _, _, timer⟩ := r
      cases detail <;> cases timer <;> rfl

end Sys2Proof.Machine
end

section
/-! SUPPORT. A check that finds new damage: corrected, faulted, or the ninth fault's wipe. -/
namespace Sys2Proof.Machine
open Sys2Proof

/-! ### The wipe -/

theorem Lamp.show_pattern (l : Lamp) (p : LampPattern) : (l.show p).pattern = p := Lamp.turned_pattern l p

/-- The state once the wipe has taken the blocks, before its two notices. -/
def State.wipedClean (s : State) : State :=
  { s with
    port := PowerOn.port
    intake := PowerOn.intake
    quantity := PowerOn.quantity
    ctrl := PowerOn.controller
    timer := PowerOn.timerUnit s.timer.doors
    cmd := { PowerOn.commandEngine with tagCounter := s.cmd.tagCounter }
    mgmt := PowerOn.management
    notice := { s.notice with airLamp := s.notice.airLamp.show (airPattern .safe) }.clearRecords
    tally := if s.mgmt.opState == .parked then { s.tally with interval := some Config.msPerSecond } else s.tally
    integ := { PowerOn.integrity with corrected := s.integ.corrected }
    park := { s.park with wakeMinutes := 0, wakeTimer := none, preclean := none, startCause := .tableWipe } }

section
variable (s : State)

theorem tableWipe_eq : s.tableWipe =
    (s.wipedClean.raiseRecord .start (.startCause .tableWipe)).raiseWith 60 .tableFault .wiped := rfl

theorem wipedClean_record (k : NoticeKind) :
    s.wipedClean.noticeRecord k = ⟨false, (s.noticeRecord k).masked, none, 0, false, none⟩ :=
  mapTable_get NoticeRecord.cleared s.notice.records k.index

/-- What the two notices leave of the rest. -/
theorem tableWipe_rest : { s.tableWipe with notice := s.wipedClean.notice, port := PowerOn.port } = s.wipedClean := by
  have first := raiseRecord_rest .start (.startCause .tableWipe) s.wipedClean
  have second := raiseWith_rest 60 .tableFault .wiped (s.wipedClean.raiseRecord .start (.startCause .tableWipe))
  have cut := congrArg (fun x : State => { x with notice := s.wipedClean.notice, port := PowerOn.port }) second
  exact cut.trans first

theorem wiped_tableWipe : s.Wiped s.tableWipe := by
  have first := raiseRecord_raisedFrom .start (.startCause .tableWipe) s.wipedClean
  have second := raiseWith_raisedFrom 60 .tableFault .wiped (s.wipedClean.raiseRecord .start (.startCause .tableWipe))
  have rest := tableWipe_rest s
  rw [← tableWipe_eq] at second
  generalize s.wipedClean.raiseRecord .start (.startCause .tableWipe) = m at first second
  generalize s.tableWipe = t at second rest ⊢
  obtain ⟨start, others, tag, air, service, port⟩ := first
  obtain ⟨fault, others', tag', air', service', port'⟩ := second
  rw [wipedClean_record] at start tag port
  have cleared (k : NoticeKind) (other : k ≠ .start) : m.noticeRecord k =
      ⟨false, (s.noticeRecord k).masked, none, 0, false, none⟩ := by rw [others k other, wipedClean_record]
  rw [cleared .tableFault (by decide)] at fault tag' port'
  refine ⟨(congrArg State.mgmt rest :), (congrArg State.ctrl rest :), (congrArg State.intake rest :),
    (congrArg State.quantity rest :), (congrArg State.timer rest :), (congrArg State.cmd rest :),
    (congrArg State.integ rest :), ?_, ?_, ?_, (congrArg State.park rest :).trans ?_, ?_, fault, fun k ne ne' => ?_, ?_, ?_, ?_,
    (congrArg State.supplyUp rest :), (congrArg State.resetLow rest :)⟩
  · have empty : m.port = { PowerOn.port with rpq :=
        if (s.noticeRecord .start).masked then [] else [noticeFrame 0 s.notice.tagCounter .start (.startCause .tableWipe)] } := by
      rw [port]
      cases (s.noticeRecord .start).masked <;> rfl
    have room : m.port.rpq.length < 8 := by
      rw [empty]
      cases (s.noticeRecord .start).masked <;> simp
    rw [port', if_pos room, empty, tag]
    cases (s.noticeRecord .start).masked <;> rfl
  · refine (congrArg (fun x : State => x.tally.tallies) rest :).trans ?_
    rw [State.wipedClean]
    split <;> rfl
  · refine (congrArg (fun x : State => x.tally.interval) rest :).trans ?_
    rw [State.wipedClean]
    cases s.mgmt.opState <;> rfl
  · rfl
  · rw [others' .start (by decide), start]
    rfl
  · rw [others' k ne', cleared k ne]
  · rw [tag', tag]
    cases (s.noticeRecord .start).masked <;> cases (s.noticeRecord .tableFault).masked <;>
      exact BitVec.add_assoc ..
  · rw [air', air]
    exact Lamp.show_pattern ..
  · rw [service', Lamp.turned_pattern, State.servicePatternDue]
    have quiet (k : NoticeKind) : (t.noticeRecord k).escalated = false := by
      by_cases h : k = .tableFault
      · rw [h, fault]
      · rw [others' k h]
        by_cases h : k = .start
        · rw [h, start]
        · rw [cleared k h]
    have low (k : NoticeKind) (h : k ≠ .tableFault) (h' : k ≠ .start) : (t.noticeRecord k).pending = false := by
      rw [others' k h, cleared k h']
    simp only [quiet, low .filterClogged (by decide) (by decide), low .actuatorFault (by decide) (by decide)]
    rfl

end

/-! ### The correction -/

theorem setFlips_notice (e : EntryId) (l : List Nat) (s : State) : (s.setFlips e l).notice = s.notice := by cases e <;> rfl
theorem setFlips_port (e : EntryId) (l : List Nat) (s : State) : (s.setFlips e l).port = s.port := by cases e <;> rfl
theorem setFlips_integ (e : EntryId) (l : List Nat) (s : State) : (s.setFlips e l).integ = s.integ := by cases e <;> rfl

theorem setFlips_flips (e : EntryId) (l : List Nat) (s : State) : (s.setFlips e l).flips e = l := by
  cases e
  case actuator a => cases a <;> rfl
  all_goals simp [State.setFlips, State.flips]

theorem set_flipped_back {α : Type} {n : Nat} (m : Vector (Stored α) n) (i : Fin n) (l : List Nat) :
    (m.set i { m[i] with flipped := l }).set i
      { (m.set i { m[i] with flipped := l })[i] with flipped := m[i].flipped } = m := by
  simp only [Fin.getElem_fin, Vector.getElem_set_self, Vector.set_set]
  exact Vector.set_getElem_self i.isLt

/-- Flipped cells set twice, and the cells that stood set again. -/
theorem setFlips_setFlips (e : EntryId) (l : List Nat) (s : State) : (s.setFlips e l).setFlips e (s.flips e) = s := by
  cases e
  case actuator a => cases a <;> rfl
  case params => rfl
  case channelMap i =>
    exact congrArg (fun m => ({ s with intake := { s.intake with map := m } } : State)) (set_flipped_back s.intake.map i l)
  case slotSetup i =>
    exact congrArg (fun m => ({ s with quantity := { s.quantity with setups := m } } : State))
      (set_flipped_back s.quantity.setups i l)
  case modeRecord i =>
    exact congrArg (fun m => ({ s with ctrl := { s.ctrl with records := m } } : State)) (set_flipped_back s.ctrl.records i l)
  case recovery i =>
    exact congrArg (fun m => ({ s with timer := { s.timer with bins := m } } : State)) (set_flipped_back s.timer.bins i l)

/-- A change of the notices, the ports and the Integrity Unit does not meet the tables. -/
theorem setFlips_outside (e : EntryId) (l : List Nat) (s : State) (n : NoticeUnit) (p : PortUnit) (u : IntegrityUnit) :
    ({ s with notice := n, port := p, integ := u } : State).setFlips e l =
      { s.setFlips e l with notice := n, port := p, integ := u } := by cases e <;> rfl

section
variable (e : EntryId) (s : State)

theorem correct_raisedFrom : s.RaisedFrom (s.correct e) .tableCorrected (.entry e) 0 :=
  (raiseRecord_raisedFrom .tableCorrected (.entry e)
    ((s.setFlips e []).onInteg fun u => { u with corrected := min 65535 (u.corrected + 1) })).congr
    (setFlips_notice ..).symm (setFlips_port ..).symm rfl rfl

theorem correct_rest : { s.correct e with notice := s.notice, port := s.port, integ := s.integ } = s.setFlips e [] := by
  have raised := raiseRecord_rest .tableCorrected (.entry e)
    ((s.setFlips e []).onInteg fun u => { u with corrected := min 65535 (u.corrected + 1) })
  refine (congrArg (fun x : State => { x with notice := s.notice, port := s.port, integ := s.integ }) raised :).trans ?_
  rw [← setFlips_notice e [] s, ← setFlips_port e [] s, ← setFlips_integ e [] s]
  rfl

theorem correct_integ : (s.correct e).integ = { s.integ with corrected := min 65535 (s.integ.corrected + 1) } := by
  have raised := raiseRecord_rest .tableCorrected (.entry e)
    ((s.setFlips e []).onInteg fun u => { u with corrected := min 65535 (u.corrected + 1) })
  refine (congrArg State.integ raised :).trans ?_
  rw [State.onInteg_integ, setFlips_integ]

theorem correct_flips : (s.correct e).flips e = [] := by
  have rest := congrArg (fun x : State => x.flips e) (correct_rest e s)
  dsimp only at rest
  rw [setFlips_flips] at rest
  cases e <;> exact rest

theorem correct_restored : { (s.correct e).setFlips e (s.flips e) with notice := s.notice, port := s.port, integ := s.integ } = s := by
  rw [← setFlips_outside, correct_rest, setFlips_setFlips]

end

/-! ### The fault -/

/-- The entry on the Fault List, with its notice. -/
def State.faultFound (e : EntryId) (n : Nat) (s : State) : State :=
  (s.joinFaultList e).raiseWith n .tableFault (.entry e)

section
variable (e : EntryId) (s : State)

theorem joined_joinFaultList : s.Joined (s.joinFaultList e) e [] ∧
    { s.joinFaultList e with integ := s.integ, ctrl := s.ctrl } = s := by
  unfold State.Joined State.joinFaultList
  cases none_ : s.integ.faultList with
  | nil => cases e <;> exact ⟨⟨by simp [State.reportSetup, State.report, none_], by simp [State.reportSetup, State.report]⟩, rfl⟩
  | cons x xs => cases e <;> exact ⟨⟨by simp [State.reportSetup, State.report, none_], by simp [State.reportSetup, State.report]⟩, rfl⟩

variable (n : Nat)

theorem faultFound_raisedFrom : s.RaisedFrom (s.faultFound e n) .tableFault (.entry e) n := by
  obtain ⟨_, rest⟩ := joined_joinFaultList e s
  exact (raiseWith_raisedFrom n .tableFault (.entry e) (s.joinFaultList e)).congr (congrArg State.notice rest :).symm
    (congrArg State.port rest :).symm rfl rfl

theorem faultFound_joined : s.Joined (s.faultFound e n) e [] := by
  have raised := raiseWith_rest n .tableFault (.entry e) (s.joinFaultList e)
  obtain ⟨⟨integ, ctrl⟩, _⟩ := joined_joinFaultList e s
  exact ⟨(congrArg State.integ raised :).trans integ, (congrArg State.ctrl raised :).trans ctrl⟩

theorem faultFound_rest : { s.faultFound e n with
    notice := s.notice, port := s.port, integ := s.integ, ctrl := s.ctrl } = s := by
  have raised := raiseWith_rest n .tableFault (.entry e) (s.joinFaultList e)
  obtain ⟨_, rest⟩ := joined_joinFaultList e s
  have cut := congrArg (fun x : State => { x with notice := s.notice, port := s.port, integ := s.integ, ctrl := s.ctrl }) raised
  exact cut.trans (congrArg (fun x : State => { x with notice := s.notice, port := s.port }) rest)

theorem faultFound_isFaulted : (s.faultFound e n).isFaulted e = true := by
  obtain ⟨integ, _⟩ := faultFound_joined e s n
  rw [State.isFaulted, integ]
  simp

end

/-! ### What the check does -/

theorem joinFaultList_isFaulted {x e : EntryId} (other : x ≠ e) (s : State) :
    (s.joinFaultList e).isFaulted x = s.isFaulted x := by
  obtain ⟨⟨integ, _⟩, _⟩ := joined_joinFaultList e s
  simp [State.isFaulted, integ, other]

/-- A raise, the parameters known. -/
theorem raise_known (k : NoticeKind) (d : Detail) {v : Event} (known : v.state.Known .params) :
    raise k d v = .ok () ⟨v.state.raiseWith v.state.paramsSeen.escalation k d, v.owed⟩ := by
  have tables : (v.state.raiseRecord k d).tables = v.state.tables := (congrArg State.tables (raiseRecord_rest k d v.state) :)
  have after : (Event.mk (v.state.raiseRecord k d) v.owed).state.Known .params := known.of_tables tables
  cases h : (!(v.state.noticeRecord k).pending && k.escalating)
  · simp [raise, Act.bind_run, Act.look_run, Act.upd_run, Act.pure_run, State.raiseWith, h]
  · simp [raise, Act.bind_run, Act.look_run, Act.upd_run, State.raiseWith, h, readParams_known after,
      paramsSeen_of_tables tables]

section
variable {e : EntryId} {v : Event} (good : v.state.isFaulted e = false)
include good

theorem checkParams_one (one : (v.state.flips e).length = 1) (h : e = .params) :
    checkParams v = .ok .good ⟨v.state.correct .params, v.owed⟩ := by
  subst h
  simp only [Bool.false_eq_true, if_false, checkParams, Act.bind_run, Act.look_run, good, one, Act.upd_run, Act.pure_run]

theorem checkEntry_one (one : (v.state.flips e).length = 1) : checkEntry e v = .ok .good ⟨v.state.correct e, v.owed⟩ := by
  rw [checkEntry, Act.bind_ok (Act.look_run _ _), good]
  by_cases h : e = .params
  · subst h
    exact checkParams_one good one rfl
  · simp only [Bool.false_eq_true, if_false, h, Act.bind_run, Act.look_run, one, Act.upd_run, Act.pure_run]

variable (damaged : 2 ≤ (v.state.flips e).length)
include damaged

theorem checkEntry_full (full : faultListCapacity ≤ v.state.integ.faultList.length) :
    checkEntry e v = .error .wiped ⟨v.settled.tableWipe, []⟩ := by
  obtain ⟨n, places⟩ : ∃ n, (v.state.flips e).length = n + 2 := ⟨(v.state.flips e).length - 2, by omega⟩
  rw [checkEntry, Act.bind_ok (Act.look_run _ _), good]
  by_cases h : e = .params
  · subst h
    simp only [Bool.false_eq_true, if_false, if_true, checkParams, Act.bind_run, Act.look_run, good, places, full,
      decide_true, wipeNow]
  · simp only [Bool.false_eq_true, if_false, h, Act.bind_run, Act.look_run, places, full, decide_true, if_true, wipeNow]

variable (room : v.state.integ.faultList.length < faultListCapacity)
include room

theorem checkParams_found (h : e = .params) : checkParams v = .ok .newlyFaulted ⟨v.state.faultFound .params 60, v.owed⟩ := by
  subst h
  obtain ⟨n, places⟩ : ∃ n, (v.state.flips .params).length = n + 2 := ⟨(v.state.flips .params).length - 2, by omega⟩
  simp [checkParams, Act.bind_run, Act.look_run, Act.upd_run, good, places, not_le.2 room]
  rfl

theorem checkEntry_found (other : e ≠ .params) (k : v.state.Known .params) : checkEntry e v =
    .ok .newlyFaulted ⟨v.state.faultFound e v.state.paramsSeen.escalation, v.owed⟩ := by
  obtain ⟨n, places⟩ : ∃ n, (v.state.flips e).length = n + 2 := ⟨(v.state.flips e).length - 2, by omega⟩
  rw [checkEntry, Act.bind_ok (Act.look_run _ _), good]
  have faulted := joinFaultList_isFaulted (Ne.symm other) v.state
  have mgmt : (v.state.joinFaultList e).mgmt = v.state.mgmt := (congrArg State.mgmt (joined_joinFaultList e v.state).2 :)
  have known : (Event.mk (v.state.joinFaultList e) v.owed).state.Known .params := fun h =>
    (congrArg (·.params.flipped) mgmt).trans (k (faulted.symm.trans h))
  have seen : (v.state.joinFaultList e).paramsSeen = v.state.paramsSeen := by
    rw [State.paramsSeen, State.paramsSeen, faulted, mgmt]
  simp only [Bool.false_eq_true, if_false, other, Act.bind_run, Act.look_run, places, not_le.2 room, decide_false,
    Act.upd_run, raise_known _ _ known, seen, Act.pure_run]
  rfl

end

end Sys2Proof.Machine
end

section
/-! SUPPORT. The protected reads, the entries known. -/
namespace Sys2Proof.Machine
open Sys2Proof

/-! ### What each read replies, the entry known -/

section
variable {v : Event}

theorem readSlotReply_known {b : Byte} {i : Fin 32} (index : b.toNat = i.val) (k : v.state.Known (.slotSetup i))
    (part : Fin 4) : readSlotReply part b v = .ok (done
      (if part = 0 then slotBytes0 ((v.state.setupSeen i).getD PowerOn.slotSetup) (v.state.setupSeen i).isNone
        (v.state.slotSeen i)
      else slotBytes1 ((v.state.setupSeen i).getD PowerOn.slotSetup) (v.state.setupSeen i).isNone)) v := by
  rw [readSlotReply, boundedIndex_some index]
  exact (Act.bind_ok (readSetup_known k)).trans rfl

theorem readMapReply_known {b : Byte} {i : Fin 64} (index : b.toNat = i.val) (k : v.state.Known (.channelMap i)) :
    readMapReply b v = .ok (done (mapBytes ((v.state.mapSeen i).getD PowerOn.mapContent) v.state.intake.dyn[i]
      (v.state.mapSeen i).isNone)) v := by
  rw [readMapReply, boundedIndex_some index]
  exact (Act.bind_ok (readMapEntry_known k)).trans rfl

theorem readModeReply_some {b : Byte} {i : Fin 7} (index : b.toNat = i.val) : readModeReply b = (do
    checkWithEffect (.modeRecord i)
    look fun s => done (modeBytes (if s.isFaulted (.modeRecord i) then PowerOn.safeTargets else s.ctrl.records[i].content))) := by
  rw [readModeReply, index]
  fin_cases i <;> rfl

theorem checkWithEffect_modeRecord_known {i : Fin 7} (k : v.state.Known (.modeRecord i)) :
    checkWithEffect (.modeRecord i) v = .ok () v := by
  rw [checkWithEffect, Act.bind_ok (checkEntry_known k)]
  cases v.state.isFaulted (.modeRecord i) <;> rfl

theorem readModeReply_known {b : Byte} {i : Fin 7} (index : b.toNat = i.val) (k : v.state.Known (.modeRecord i)) :
    readModeReply b v = .ok (done (modeBytes ((v.state.recordSeen i).getD PowerOn.safeTargets))) v := by
  rw [readModeReply_some index, Act.bind_ok (checkWithEffect_modeRecord_known k), State.recordSeen, Act.look_run]
  cases v.state.isFaulted (.modeRecord i) <;> rfl

theorem readRecoveryReply_known {b : Byte} {i : Fin 4} (index : b.toNat = i.val) (k : v.state.Known (.recovery i)) :
    readRecoveryReply b v = .ok (done (recoveryBytes ((v.state.binSeen i).getD PowerOn.recoveryBin)
      (v.state.binSeen i).isNone)) v := by
  rw [readRecoveryReply, boundedIndex_some index]
  refine (Act.bind_ok (checkEntry_known k)).trans ?_
  rw [State.binSeen]
  cases v.state.isFaulted (.recovery i) <;> rfl

theorem Actuator.ofIndex_index (a : Actuator) : Actuator.ofIndex a.index = some a := by cases a <;> rfl

/-- The entry an actuator's read shows. -/
def State.entryShown (s : State) (a : Actuator) : ActuatorEntry :=
  if s.isFaulted (.actuator a) then PowerOn.actuatorEntry else (s.cmd.entries.get a).content

theorem readActuatorReply_some {b : Byte} {a : Actuator} (index : b.toNat = a.index) : readActuatorReply b = (do
    let _ ← readActuator a
    look fun s => done (actuatorBytes (s.entryShown a) (s.isFaulted (.actuator a)) (s.cmd.delivery.get a) s.cmd a)) := by
  rw [readActuatorReply, index, Actuator.ofIndex_index]
  rfl

theorem readActuatorReply_known {b : Byte} {a : Actuator} (index : b.toNat = a.index) (k : v.state.Known (.actuator a)) :
    readActuatorReply b v = .ok (done (actuatorBytes (v.state.entryShown a) (v.state.isFaulted (.actuator a))
      (v.state.cmd.delivery.get a) v.state.cmd a)) v := by
  rw [readActuatorReply_some index]
  exact (Act.bind_ok (readActuator_known k)).trans rfl

theorem readParamReply_some {b : Byte} (index : b.toNat < 22) : readParamReply b = (do
    let p ← readParams
    look fun s => done (paramBytes (p.value b.toNat) (s.isFaulted .params))) := if_neg (not_le.2 index)

theorem readParamReply_known {b : Byte} (index : b.toNat < 22) (k : v.state.Known .params) :
    readParamReply b v = .ok (done (paramBytes (v.state.paramsSeen.value b.toNat) (v.state.isFaulted .params))) v := by
  rw [readParamReply_some index]
  exact (Act.bind_ok (readParams_known k)).trans rfl

end

/-! ### An index out of range -/

section
variable {b : Byte} (v : Event)

theorem readSlotReply_none (h : 32 ≤ b.toNat) (part : Fin 4) : readSlotReply part b v = .ok (plain .badIndex) v := by
  rw [readSlotReply, boundedIndex_none h]
  rfl

theorem readMapReply_none (h : 64 ≤ b.toNat) : readMapReply b v = .ok (plain .badIndex) v := by
  rw [readMapReply, boundedIndex_none h]
  rfl

theorem readModeReply_none (h : 9 ≤ b.toNat) : readModeReply b v = .ok (plain .badIndex) v := by
  obtain ⟨n, more⟩ : ∃ n, b.toNat = n + 9 := ⟨b.toNat - 9, by omega⟩
  rw [readModeReply, more]
  rfl

theorem readRecoveryReply_none (h : 4 ≤ b.toNat) : readRecoveryReply b v = .ok (plain .badIndex) v := by
  rw [readRecoveryReply, boundedIndex_none h]
  rfl

theorem readActuatorReply_none (h : 4 ≤ b.toNat) : readActuatorReply b v = .ok (plain .badIndex) v := by
  obtain ⟨n, more⟩ : ∃ n, b.toNat = n + 4 := ⟨b.toNat - 4, by omega⟩
  rw [readActuatorReply, more]
  rfl

theorem readParamReply_none (h : 22 ≤ b.toNat) : readParamReply b v = .ok (plain .badIndex) v := by
  rw [readParamReply]
  exact congrFun (if_pos h) v

end

theorem runRequest_readSlot (o : Origin) {part : Fin 4} (h : part.val ≤ 1) (b : Byte) : runRequest (.readSlot o part b) =
    serve o (codeByte 2 part) (afterChecks .yes readStates fun _ => readSlotReply part b) := if_neg (by omega)

/-! ### The reads of the gateway -/

section
variable {s : State} {tag b : Byte} (ht : s.TakesRequest)
include ht

theorem exec_readSlot0_known {i : Fin 32} (index : b.toNat = i.val) (k : s.Known (.slotSetup i)) :
    exec (.readSlot (gateway tag) 0 b) s = .next (s.answered tag (codeByte 2 0)
      (done (slotBytes0 ((s.setupSeen i).getD PowerOn.slotSetup) (s.setupSeen i).isNone (s.slotSeen i)))) :=
  exec_gateway_read rfl (runRequest_readSlot _ (by decide) b) ht (readSlotReply_known index (k.of_tables rfl) 0)

theorem exec_readSlot1_known {i : Fin 32} (index : b.toNat = i.val) (k : s.Known (.slotSetup i)) :
    exec (.readSlot (gateway tag) 1 b) s = .next (s.answered tag (codeByte 2 1)
      (done (slotBytes1 ((s.setupSeen i).getD PowerOn.slotSetup) (s.setupSeen i).isNone))) :=
  exec_gateway_read rfl (runRequest_readSlot _ (by decide) b) ht (readSlotReply_known index (k.of_tables rfl) 1)

theorem exec_readMap_known {i : Fin 64} (index : b.toNat = i.val) (k : s.Known (.channelMap i)) :
    exec (.readMap (gateway tag) b) s = .next (s.answered tag (codeByte 4 0)
      (done (mapBytes ((s.mapSeen i).getD PowerOn.mapContent) s.intake.dyn[i] (s.mapSeen i).isNone))) :=
  exec_gateway_read rfl rfl ht (readMapReply_known index (k.of_tables rfl))

theorem exec_readMode_known {i : Fin 7} (index : b.toNat = i.val) (k : s.Known (.modeRecord i)) :
    exec (.readMode (gateway tag) b) s = .next (s.answered tag (codeByte 9 0)
      (done (modeBytes ((s.recordSeen i).getD PowerOn.safeTargets)))) :=
  exec_gateway_read rfl rfl ht (readModeReply_known index (k.of_tables rfl))

theorem exec_readRecovery_known {i : Fin 4} (index : b.toNat = i.val) (k : s.Known (.recovery i)) :
    exec (.readRecovery (gateway tag) b) s = .next (s.answered tag (codeByte 11 0)
      (done (recoveryBytes ((s.binSeen i).getD PowerOn.recoveryBin) (s.binSeen i).isNone))) :=
  exec_gateway_read rfl rfl ht (readRecoveryReply_known index (k.of_tables rfl))

theorem exec_readActuator_known {a : Actuator} (index : b.toNat = a.index) (k : s.Known (.actuator a)) :
    exec (.readActuator (gateway tag) b) s = .next (s.answered tag (codeByte 13 0)
      (done (actuatorBytes (s.entryShown a) (s.isFaulted (.actuator a)) (s.cmd.delivery.get a) s.cmd a))) :=
  exec_gateway_read rfl rfl ht (readActuatorReply_known index (k.of_tables rfl))

theorem exec_readParam_known (index : b.toNat < 22) (k : s.Known .params) :
    exec (.readParam (gateway tag) b) s = .next (s.answered tag (codeByte 15 0)
      (done (paramBytes (s.paramsSeen.value b.toNat) (s.isFaulted .params)))) :=
  exec_gateway_read rfl rfl ht (readParamReply_known index (k.of_tables rfl))

end

end Sys2Proof.Machine
end

section
/-! SUPPORT. The protected reads: what is good, what is faulted, and the data. -/
namespace Sys2Proof.Machine
open Sys2Proof

section
variable {s : State} (tag b : Byte)

/-- Settles O25's reads of the gateway with no entry damaged. -/
theorem reads_undamaged (ht : s.TakesRequest) (u : s.Undamaged) :
    (∀ i : Fin 32, b.toNat = i.val →
      exec (.readSlot (gateway tag) 0 b) s = .next (s.answered tag (codeByte 2 0)
        (done (slotBytes0 s.quantity.setups[i].content false s.quantity.slots[i]))) ∧
      exec (.readSlot (gateway tag) 1 b) s = .next (s.answered tag (codeByte 2 1)
        (done (slotBytes1 s.quantity.setups[i].content false)))) ∧
    (32 ≤ b.toNat → exec (.readSlot (gateway tag) 0 b) s = .next (s.answeredPlain tag (codeByte 2 0) .badIndex)) ∧
    (∀ i : Fin 64, b.toNat = i.val →
      exec (.readMap (gateway tag) b) s = .next (s.answered tag (codeByte 4 0)
        (done (mapBytes s.intake.map[i].content s.intake.dyn[i] false)))) ∧
    (64 ≤ b.toNat → exec (.readMap (gateway tag) b) s = .next (s.answeredPlain tag (codeByte 4 0) .badIndex)) ∧
    (∀ i : Fin 7, b.toNat = i.val →
      exec (.readMode (gateway tag) b) s = .next (s.answered tag (codeByte 9 0)
        (done (modeBytes s.ctrl.records[i].content)))) ∧
    (b = 7 → exec (.readMode (gateway tag) b) s = .next (s.answered tag (codeByte 9 0) (done [20, 8, 1, 1]))) ∧
    (b = 8 → exec (.readMode (gateway tag) b) s = .next (s.answered tag (codeByte 9 0) (done [0, 0, 0, 0]))) ∧
    (9 ≤ b.toNat → exec (.readMode (gateway tag) b) s = .next (s.answeredPlain tag (codeByte 9 0) .badIndex)) ∧
    (∀ i : Fin 4, b.toNat = i.val →
      exec (.readRecovery (gateway tag) b) s = .next (s.answered tag (codeByte 11 0)
        (done (recoveryBytes s.timer.bins[i].content false)))) ∧
    (4 ≤ b.toNat → exec (.readRecovery (gateway tag) b) s = .next (s.answeredPlain tag (codeByte 11 0) .badIndex)) ∧
    (∀ a : Actuator, b.toNat = a.index →
      exec (.readActuator (gateway tag) b) s = .next (s.answered tag (codeByte 13 0)
        (done (actuatorBytes (s.cmd.entries.get a).content false (s.cmd.delivery.get a) s.cmd a)))) ∧
    (4 ≤ b.toNat → exec (.readActuator (gateway tag) b) s = .next (s.answeredPlain tag (codeByte 13 0) .badIndex)) ∧
    (b.toNat < 22 →
      exec (.readParam (gateway tag) b) s = .next (s.answered tag (codeByte 15 0)
        (done (paramBytes (s.mgmt.params.content.value b.toNat) false)))) ∧
    (22 ≤ b.toNat → exec (.readParam (gateway tag) b) s = .next (s.answeredPlain tag (codeByte 15 0) .badIndex)) := by
  refine ⟨fun i index => ⟨?_, ?_⟩, fun out => exec_gateway_read rfl (runRequest_readSlot _ (by decide) b) ht (readSlotReply_none _ out 0),
    fun i index => ?_, fun out => exec_gateway_read rfl rfl ht (readMapReply_none _ out), fun i index => ?_, fun seven => ?_,
    fun eight => ?_, fun out => exec_gateway_read rfl rfl ht (readModeReply_none _ out), fun i index => ?_,
    fun out => exec_gateway_read rfl rfl ht (readRecoveryReply_none _ out), fun a index => ?_,
    fun out => exec_gateway_read rfl rfl ht (readActuatorReply_none _ out), fun index => ?_,
    fun out => exec_gateway_read rfl rfl ht (readParamReply_none _ out)⟩
  · rw [exec_readSlot0_known ht index (u.known _), u.setupSeen, u.slotSeen]
    rfl
  · rw [exec_readSlot1_known ht index (u.known _), u.setupSeen]
    rfl
  · rw [exec_readMap_known ht index (u.known _), u.mapSeen]
    rfl
  · rw [exec_readMode_known ht index (u.known _), u.recordSeen]
    rfl
  · subst seven
    exact exec_gateway_read rfl rfl ht rfl
  · subst eight
    exact exec_gateway_read rfl rfl ht rfl
  · rw [exec_readRecovery_known ht index (u.known _), u.binSeen]
    rfl
  · rw [exec_readActuator_known ht index (u.known _), State.entryShown, u.isFaulted]
    rfl
  · rw [exec_readParam_known ht index (u.known _), u.paramsSeen, u.isFaulted]

/-- Settles O25's reads of the panel. -/
theorem panel_reads_slot {src : Byte} {i : Fin 32} (ht : s.TakesDnRequest) (u : s.Undamaged)
    (fitted : s.mgmt.params.content.panelNode ≠ 0) (node : src.toNat = s.mgmt.params.content.panelNode)
    (index : b.toNat = i.val) :
    exec (.readSlot (onDn src tag) 0 b) s = .next (s.answeredDn src tag (codeByte 2 0)
      (done (slotBytes0 s.quantity.setups[i].content false s.quantity.slots[i]))) ∧
    exec (.readSlot (onDn src tag) 1 b) s = .next (s.answeredDn src tag (codeByte 2 1)
      (done (slotBytes1 s.quantity.setups[i].content false))) := by
  have known : s.Known (.slotSetup i) := u.known _
  have read (part : Fin 4) (h : part.val ≤ 1) :=
    exec_panel_read rfl (runRequest_readSlot (onDn src tag) h b) ht fitted node rfl
      (readSlotReply_known (v := ⟨s.answeredDn src tag (codeByte 2 part) (plain .done), []⟩) index (known.of_tables rfl) part)
  have setup (code : Byte) : (s.answeredDn src tag code (plain .done)).setupSeen i = s.setupSeen i := rfl
  have slot (code : Byte) : (s.answeredDn src tag code (plain .done)).slotSeen i = s.slotSeen i := rfl
  simp only [setup, slot, u.setupSeen, u.slotSeen] at read
  exact ⟨read 0 (by decide), read 1 (by decide)⟩

/-- Settles O25's reads of faulted entries. -/
theorem reads_faulted (ht : s.TakesRequest) :
    (∀ i : Fin 32, b.toNat = i.val → s.isFaulted (.slotSetup i) = true →
      let shown : SlotSetup := ⟨.unused, -32768, 32767, 0, 10, .none, ⟨.off, 0, 0, 1⟩, ⟨.off, 0, 0, 1⟩⟩
      exec (.readSlot (gateway tag) 0 b) s = .next (s.answered tag (codeByte 2 0)
        (done (slotBytes0 shown true { s.quantity.slots[i] with status := .fault }))) ∧
      exec (.readSlot (gateway tag) 1 b) s = .next (s.answered tag (codeByte 2 1) (done (slotBytes1 shown true)))) ∧
    (∀ i : Fin 64, b.toNat = i.val → s.isFaulted (.channelMap i) = true →
      exec (.readMap (gateway tag) b) s = .next (s.answered tag (codeByte 4 0)
        (done (mapBytes ⟨false, 0, 0, 0, 256, 0, .drop⟩ s.intake.dyn[i] true)))) ∧
    (∀ i : Fin 7, b.toNat = i.val → s.isFaulted (.modeRecord i) = true →
      exec (.readMode (gateway tag) b) s = .next (s.answered tag (codeByte 9 0) (done [20, 8, 1, 1]))) ∧
    (∀ i : Fin 4, b.toNat = i.val → s.isFaulted (.recovery i) = true →
      exec (.readRecovery (gateway tag) b) s = .next (s.answered tag (codeByte 11 0) (done [0, 0, 0, 0, 1]))) ∧
    (∀ a : Actuator, b.toNat = a.index → s.isFaulted (.actuator a) = true →
      exec (.readActuator (gateway tag) b) s = .next (s.answered tag (codeByte 13 0)
        (done (actuatorBytes ⟨false, 0⟩ true (s.cmd.delivery.get a) s.cmd a)))) ∧
    (b.toNat < 22 → s.isFaulted .params = true →
      exec (.readParam (gateway tag) b) s = .next (s.answered tag (codeByte 15 0)
        (done (paramBytes (State.reset.mgmt.params.content.value b.toNat) true)))) := by
  have known {e : EntryId} (f : s.isFaulted e = true) : s.Known e := fun no => by rw [f] at no; cases no
  refine ⟨fun i index f => ⟨?_, ?_⟩, fun i index f => ?_, fun i index f => ?_, fun i index f => ?_, fun a index f => ?_,
    fun index f => ?_⟩
  · rw [exec_readSlot0_known ht index (known f), State.setupSeen, if_pos f, State.slotSeen, if_pos f]
    rfl
  · rw [exec_readSlot1_known ht index (known f), State.setupSeen, if_pos f]
    rfl
  · rw [exec_readMap_known ht index (known f), State.mapSeen, if_pos f]
    rfl
  · rw [exec_readMode_known ht index (known f), State.recordSeen, if_pos f]
    rfl
  · rw [exec_readRecovery_known ht index (known f), State.binSeen, if_pos f]
    rfl
  · rw [exec_readActuator_known ht index (known f), State.entryShown, if_pos f, f]
    rfl
  · rw [exec_readParam_known ht index (known f), State.paramsSeen, if_pos f, f]
    rfl

end

/-! ### The data -/

theorem intBytes2_funext : intBytes2 = fun v : Int => [byteOf ((v % 65536).toNat / 256), byteOf (v % 65536).toNat] :=
  funext intBytes2_eq

end Sys2Proof.Machine
end

section
/-! SUPPORT. The protected reads that find damage. -/
namespace Sys2Proof.Machine
open Sys2Proof

/-! ### The reply in its place -/

section
variable (n : Nat) (f : Frame) (x : State)

theorem setReply_rest (p : PortUnit) : { x.setReply .up n f with port := p } = { x with port := p } := rfl

theorem setReply_flips (e : EntryId) : (x.setReply .up n f).flips e = x.flips e := by cases e <;> rfl

theorem setReply_setFlips (e : EntryId) (l : List Nat) (m : NoticeUnit) (p : PortUnit) (u : IntegrityUnit) :
    { (x.setReply .up n f).setFlips e l with notice := m, port := p, integ := u } =
      { x.setFlips e l with notice := m, port := p, integ := u } := by cases e <;> rfl

end

theorem set_behind {α : Type} (q x : List α) (a b : α) : (q ++ [a] ++ x).set q.length b = q ++ [b] ++ x := by
  simp

/-- A raise behind a reply's place is a raise behind the reply. -/
theorem reply_raisedFrom {s t : State} {tag code : Byte} {r : Reply} {k : NoticeKind} {d : Detail} {n : Nat}
    (h : (s.answeredPlain tag code .done).RaisedFrom t k d n) :
    (s.answered tag code r).RaisedFrom (t.setReply .up s.port.rpq.length (replyFrame 0 tag code r)) k d n := by
  obtain ⟨record, others, tags, air, service, port⟩ := h
  refine ⟨record, others, tags, air, service, ?_⟩
  have length : (s.answeredPlain tag code .done).port.rpq.length = (s.answered tag code r).port.rpq.length := by
    simp only [State.answeredPlain, State.answered, State.onPort_port, List.length_append, List.length_singleton]
  rw [State.setReply, State.onReplies, State.onPort_port, port, length]
  exact congrArg (fun q => ({ s.port with rpq := q } : PortUnit)) (set_behind ..)

section
variable {i : Instr} {s t : State} {tag : Byte} {n : Nat} {part : Fin 4} {rule : PanelRule} {states : List OpState}
  {own : OriginClass → Act Reply} {e : Wiped}

/-- A request that ends in a wipe. -/
theorem exec_gateway_wiped (known : i.origin? = some (gateway tag))
    (run : runRequest i = serve (gateway tag) (codeByte n part) (afterChecks rule states own)) (ht : s.TakesRequest)
    (allowed : states.contains s.mgmt.opState = true)
    (h : own .gateway ⟨s.answeredPlain tag (codeByte n part) .done, []⟩ = .error e ⟨t, []⟩) : exec i s = .next t := by
  have checked : afterChecks rule states own (some .gateway) ⟨s.answeredPlain tag (codeByte n part) .done, []⟩ =
      .error e ⟨t, []⟩ := by
    rw [afterChecks_gateway, ← h]
    exact if_pos allowed
  rw [exec_request_alive known ht.1, run, Act.after, serve_gateway ht, Act.bind_error checked]
  rfl

/-- A reply's place does not meet what a wipe keeps. -/
theorem wiped_answered (s : State) (tag code : Byte) :
    s.Wiped (⟨s.answeredPlain tag code .done, []⟩ : Event).settled.tableWipe :=
  wiped_tableWipe (s.answeredPlain tag code .done)

end

/-! ### The read of a map entry -/

section
variable {s : State} {tag b : Byte} {i : Fin 64} (ht : s.TakesRequest) (index : b.toNat = i.val)
  (good : s.isFaulted (.channelMap i) = false)
include ht index good

omit index good in
theorem exec_readMap_reply {r : Reply} {t : State}
    (reads : readMapReply b ⟨s.answeredPlain tag (codeByte 4 0) .done, []⟩ = .ok r ⟨t, []⟩) :
    exec (.readMap (gateway tag) b) s =
      .next (t.setReply .up s.port.rpq.length (replyFrame 0 tag (codeByte 4 0) r)) :=
  exec_gateway (i := .readMap (gateway tag) b) (own := fun _ => readMapReply b) rfl rfl ht (awake_reads ht.2.1) reads

theorem exec_readMap_corrected (one : (s.flips (.channelMap i)).length = 1) :
    ∃ t, exec (.readMap (gateway tag) b) s = .next t ∧ t.flips (.channelMap i) = [] ∧
      (s.answered tag (codeByte 4 0) (done (mapBytes s.intake.map[i].content s.intake.dyn[i] false))).RaisedFrom t
        .tableCorrected (.entry (.channelMap i)) 0 ∧
      t.integ = { s.integ with corrected := min 65535 (s.integ.corrected + 1) } ∧
      { t.setFlips (.channelMap i) (s.flips (.channelMap i)) with notice := s.notice, port := s.port, integ := s.integ } =
        s.stopPreclean := by
  have intake : ((s.answeredPlain tag (codeByte 4 0) .done).correct (.channelMap i)).intake =
      { s.intake with map := s.intake.map.set i { s.intake.map[i] with flipped := [] } } :=
    (congrArg State.intake (correct_rest (.channelMap i) (s.answeredPlain tag (codeByte 4 0) .done)) :)
  have reads : readMapReply b ⟨s.answeredPlain tag (codeByte 4 0) .done, []⟩ =
      .ok (done (mapBytes s.intake.map[i].content s.intake.dyn[i] false))
        ⟨(s.answeredPlain tag (codeByte 4 0) .done).correct (.channelMap i), []⟩ := by
    rw [readMapReply, boundedIndex_some index]
    have read : readMapEntry i ⟨s.answeredPlain tag (codeByte 4 0) .done, []⟩ = .ok (some s.intake.map[i].content)
        ⟨(s.answeredPlain tag (codeByte 4 0) .done).correct (.channelMap i), []⟩ := by
      refine (Act.bind_ok (checkEntry_one (v := ⟨s.answeredPlain tag (codeByte 4 0) .done, []⟩) good one)).trans ?_
      refine congrArg (fun c => EStateM.Result.ok (some c) _) ?_
      rw [intake]
      simp
    refine (Act.bind_ok read).trans ?_
    refine congrArg (fun d => EStateM.Result.ok (done (mapBytes s.intake.map[i].content d false)) _) ?_
    exact (congrArg (fun u : Intake => u.dyn[i]) intake).trans rfl
  have run := exec_readMap_reply ht reads
  refine ⟨_, run, ?_, reply_raisedFrom (correct_raisedFrom ..), correct_integ .., ?_⟩
  · exact (setReply_flips ..).trans (correct_flips ..)
  · refine (setReply_setFlips ..).trans ?_
    exact congrArg (fun x : State => { x with port := s.port })
      (correct_restored (.channelMap i) (s.answeredPlain tag (codeByte 4 0) .done))

theorem exec_readMap_found (params : s.ParamsGood) (damaged : 2 ≤ (s.flips (.channelMap i)).length)
    (room : s.integ.faultList.length < 8) :
    ∃ t, exec (.readMap (gateway tag) b) s = .next t ∧
      (s.answered tag (codeByte 4 0) (done (mapBytes ⟨false, 0, 0, 0, 256, 0, .drop⟩ s.intake.dyn[i] true))).RaisedFrom t
        .tableFault (.entry (.channelMap i)) s.mgmt.params.content.escalation ∧ s.Joined t (.channelMap i) [] ∧
      { t with notice := s.notice, port := s.port, integ := s.integ, ctrl := s.ctrl } = s.stopPreclean := by
  have seen : (s.answeredPlain tag (codeByte 4 0) .done).paramsSeen = s.mgmt.params.content := params.paramsSeen
  have rest := faultFound_rest (.channelMap i) (s.answeredPlain tag (codeByte 4 0) .done) s.mgmt.params.content.escalation
  have joined := faultFound_joined (.channelMap i) (s.answeredPlain tag (codeByte 4 0) .done) s.mgmt.params.content.escalation
  have raised := faultFound_raisedFrom (.channelMap i) (s.answeredPlain tag (codeByte 4 0) .done) s.mgmt.params.content.escalation
  have reads : readMapReply b ⟨s.answeredPlain tag (codeByte 4 0) .done, []⟩ =
      .ok (done (mapBytes ⟨false, 0, 0, 0, 256, 0, .drop⟩ s.intake.dyn[i] true))
        ⟨(s.answeredPlain tag (codeByte 4 0) .done).faultFound (.channelMap i) s.mgmt.params.content.escalation, []⟩ := by
    rw [readMapReply, boundedIndex_some index]
    have read : readMapEntry i ⟨s.answeredPlain tag (codeByte 4 0) .done, []⟩ = .ok none
        ⟨(s.answeredPlain tag (codeByte 4 0) .done).faultFound (.channelMap i) s.mgmt.params.content.escalation, []⟩ := by
      have found := checkEntry_found (v := ⟨s.answeredPlain tag (codeByte 4 0) .done, []⟩) good damaged room
        EntryId.noConfusion
        (fun _ => params.2)
      rw [seen] at found
      exact (Act.bind_ok found).trans rfl
    refine (Act.bind_ok read).trans ?_
    refine congrArg (fun d => EStateM.Result.ok (done (mapBytes ⟨false, 0, 0, 0, 256, 0, .drop⟩ d true)) _) ?_
    exact (congrArg (fun x : State => x.intake.dyn[i]) rest :)
  have run := exec_readMap_reply ht reads
  refine ⟨_, run, reply_raisedFrom raised, joined, ?_⟩
  exact (congrArg (fun x : State => { x with port := s.port }) rest :)

theorem exec_readMap_wiped (damaged : 2 ≤ (s.flips (.channelMap i)).length) (full : 8 ≤ s.integ.faultList.length) :
    ∃ t, exec (.readMap (gateway tag) b) s = .next t ∧ s.Wiped t := by
  have reads : readMapReply b ⟨s.answeredPlain tag (codeByte 4 0) .done, []⟩ =
      .error .wiped ⟨(⟨s.answeredPlain tag (codeByte 4 0) .done, []⟩ : Event).settled.tableWipe, []⟩ := by
    rw [readMapReply, boundedIndex_some index]
    exact Act.bind_error (Act.bind_error (checkEntry_full (v := ⟨s.answeredPlain tag (codeByte 4 0) .done, []⟩) good damaged full))
  exact ⟨_, exec_gateway_wiped (i := .readMap (gateway tag) b) (own := fun _ => readMapReply b) rfl rfl ht
    (awake_reads ht.2.1) reads, wiped_answered ..⟩

end

end Sys2Proof.Machine
end

section
/-! SUPPORT. The reads of an actuator and of a parameter that find damage. -/
namespace Sys2Proof.Machine
open Sys2Proof

/-! ### An actuator found faulted -/

/-- The delivery of an actuator found faulted. -/
def Delivery.dropped (d : Delivery) : Delivery :=
  { d with pendingValue := none, outstanding := none, ackTimer := none, lastAbandoned := none }

/-- The Command Engine once an actuator's delivery is dropped. -/
def CommandEngine.actuatorDropped (a : Actuator) (c : CommandEngine) : CommandEngine :=
  { c with delivery := c.delivery.set a (c.delivery.get a).dropped, cmq := c.cmq.erase a, due := c.due.erase a }

section
variable (a : Actuator) (x : State)

theorem actuatorFaulted_eq : x.actuatorFaulted a = (x.onCmd (·.actuatorDropped a)).reportCompletion := by
  have same : ((x.cmd.dropPending a).dropOutstanding a).onDelivery a (fun d => { d with lastAbandoned := none }) =
      x.cmd.actuatorDropped a := by cases a <;> rfl
  exact congrArg (fun c => State.reportCompletion { x with cmd := c }) same

theorem actuatorFaulted_cmd : (x.actuatorFaulted a).cmd = { x.cmd.actuatorDropped a with
    completion := (x.mgmt.opState == .parking && (x.cmd.actuatorDropped a).quiet) || x.cmd.completion } := by
  rw [actuatorFaulted_eq, reportCompletion_cmd]
  rfl

theorem actuatorFaulted_rest : { x.actuatorFaulted a with cmd := x.cmd } = x := by
  rw [actuatorFaulted_eq]
  exact (congrArg (fun y : State => { y with cmd := x.cmd }) (reportCompletion_rest (x.onCmd (·.actuatorDropped a))) :)

end

/-- The state once an actuator's entry is found faulted by its own read. -/
def State.actuatorFound (a : Actuator) (s : State) : State :=
  (s.faultFound (.actuator a) s.paramsSeen.escalation).actuatorFaulted a

theorem readActuator_found {a : Actuator} {v : Event} (good : v.state.isFaulted (.actuator a) = false)
    (damaged : 2 ≤ (v.state.flips (.actuator a)).length) (room : v.state.integ.faultList.length < faultListCapacity)
    (params : v.state.Known .params) : readActuator a v = .ok none ⟨v.state.actuatorFound a, v.owed⟩ :=
  (Act.bind_ok (checkEntry_found good damaged room EntryId.noConfusion params)).trans rfl

section
variable (a : Actuator) (s : State)

theorem actuatorFound_found : { s.actuatorFound a with cmd := s.cmd } =
    s.faultFound (.actuator a) s.paramsSeen.escalation := by
  have rest := actuatorFaulted_rest a (s.faultFound (.actuator a) s.paramsSeen.escalation)
  have cmd : (s.faultFound (.actuator a) s.paramsSeen.escalation).cmd = s.cmd :=
    (congrArg State.cmd (faultFound_rest (.actuator a) s s.paramsSeen.escalation) :)
  rw [cmd] at rest
  exact rest

theorem actuatorFound_cmd : (s.actuatorFound a).cmd = { s.cmd.actuatorDropped a with
    completion := (s.mgmt.opState == .parking && (s.cmd.actuatorDropped a).quiet) || s.cmd.completion } := by
  have rest := faultFound_rest (.actuator a) s s.paramsSeen.escalation
  have cmd : (s.faultFound (.actuator a) s.paramsSeen.escalation).cmd = s.cmd := (congrArg State.cmd rest :)
  have mgmt : (s.faultFound (.actuator a) s.paramsSeen.escalation).mgmt = s.mgmt := (congrArg State.mgmt rest :)
  rw [State.actuatorFound, actuatorFaulted_cmd, cmd, mgmt]

theorem actuatorFound_raisedFrom :
    s.RaisedFrom (s.actuatorFound a) .tableFault (.entry (.actuator a)) s.paramsSeen.escalation := by
  have found := actuatorFound_found a s
  exact (faultFound_raisedFrom (.actuator a) s s.paramsSeen.escalation).congr rfl rfl (congrArg State.notice found :)
    (congrArg State.port found :)

theorem actuatorFound_joined : s.Joined (s.actuatorFound a) (.actuator a) [] := by
  have found := actuatorFound_found a s
  obtain ⟨integ, ctrl⟩ := faultFound_joined (.actuator a) s s.paramsSeen.escalation
  exact ⟨(congrArg State.integ found :).trans integ, (congrArg State.ctrl found :).trans ctrl⟩

theorem actuatorFound_rest : { s.actuatorFound a with
    cmd := s.cmd, notice := s.notice, port := s.port, integ := s.integ, ctrl := s.ctrl } = s := by
  have found := congrArg (fun x : State => { x with
    notice := s.notice, port := s.port, integ := s.integ, ctrl := s.ctrl }) (actuatorFound_found a s)
  exact found.trans (faultFound_rest (.actuator a) s s.paramsSeen.escalation)

theorem actuatorFound_isFaulted : (s.actuatorFound a).isFaulted (.actuator a) = true := by
  have found := congrArg (fun x : State => x.isFaulted (.actuator a)) (actuatorFound_found a s)
  exact Eq.trans found (faultFound_isFaulted (.actuator a) s s.paramsSeen.escalation)

end

/-- A read of an actuator by the gateway that finds it faulted. -/
theorem exec_readActuator_found {s : State} {tag b : Byte} {a : Actuator} (ht : s.TakesRequest)
    (index : b.toNat = a.index) (new : s.NewDamage (.actuator a)) :
    let d := { s.cmd.delivery.get a with
      pendingValue := none, outstanding := none, ackTimer := none, lastAbandoned := none }
    ∃ t, exec (.readActuator (gateway tag) b) s = .next t ∧
      t.cmd = { s.cmd with
        delivery := s.cmd.delivery.set a d
        cmq := s.cmd.cmq.erase a
        due := s.cmd.due.erase a
        completion := t.cmd.completion } ∧
      (s.answered tag (codeByte 13 0) (done (actuatorBytes ⟨false, 0⟩ true d t.cmd a))).RaisedFrom t
        .tableFault (.entry (.actuator a)) s.mgmt.params.content.escalation ∧ s.Joined t (.actuator a) [] ∧
      { t with cmd := s.cmd, notice := s.notice, port := s.port, integ := s.integ, ctrl := s.ctrl } = s.stopPreclean := by
  obtain ⟨other, unfaulted, good, damaged, alone, room⟩ := new
  have params : s.ParamsGood := ⟨unfaulted, alone .params (Ne.symm other)⟩
  have seen : (s.answeredPlain tag (codeByte 13 0) .done).paramsSeen = s.mgmt.params.content := params.paramsSeen
  have raised := actuatorFound_raisedFrom a (s.answeredPlain tag (codeByte 13 0) .done)
  have joined := actuatorFound_joined a (s.answeredPlain tag (codeByte 13 0) .done)
  have cmd := actuatorFound_cmd a (s.answeredPlain tag (codeByte 13 0) .done)
  have rest := actuatorFound_rest a (s.answeredPlain tag (codeByte 13 0) .done)
  have faulted := actuatorFound_isFaulted a (s.answeredPlain tag (codeByte 13 0) .done)
  have read := readActuator_found (v := ⟨s.answeredPlain tag (codeByte 13 0) .done, []⟩) good damaged room (fun _ => params.2)
  rw [seen] at raised
  generalize hy : (s.answeredPlain tag (codeByte 13 0) .done).actuatorFound a = y at raised joined cmd rest faulted
  have delivery : y.cmd.delivery.get a = (s.cmd.delivery.get a).dropped := by
    refine (congrArg (fun c : CommandEngine => c.delivery.get a) cmd).trans ?_
    exact (PerActuator.get_set ..).trans (if_pos rfl)
  have reads : readActuatorReply b ⟨s.answeredPlain tag (codeByte 13 0) .done, []⟩ =
      .ok (done (actuatorBytes ⟨false, 0⟩ true (s.cmd.delivery.get a).dropped y.cmd a)) ⟨y, []⟩ := by
    rw [readActuatorReply_some index]
    refine (Act.bind_ok read).trans ?_
    rw [hy, Act.look_run, ← delivery]
    refine congrArg (fun r => EStateM.Result.ok r _) ?_
    rw [State.entryShown, if_pos faulted, faulted]
    rfl
  have run := exec_gateway (i := .readActuator (gateway tag) b) (own := fun _ => readActuatorReply b) rfl rfl ht
    (awake_reads ht.2.1) reads
  refine ⟨_, run, ?_, reply_raisedFrom raised, joined, ?_⟩
  · exact cmd.trans (congrArg (fun x => ({ s.cmd.actuatorDropped a with completion := x } : CommandEngine))
      (congrArg CommandEngine.completion cmd).symm)
  · exact (congrArg (fun x : State => { x with port := s.port }) rest :)

/-! ### The parameters found damaged -/

theorem readParams_corrected {v : Event} (good : v.state.isFaulted .params = false)
    (one : (v.state.flips .params).length = 1) :
    readParams v = .ok (v.state.correct .params).mgmt.params.content ⟨v.state.correct .params, v.owed⟩ :=
  (Act.bind_ok (checkParams_one good one rfl)).trans rfl

theorem readParams_newlyFaulted {v : Event} (good : v.state.isFaulted .params = false)
    (damaged : 2 ≤ (v.state.flips .params).length) (room : v.state.integ.faultList.length < faultListCapacity) :
    readParams v = .ok PowerOn.params ⟨v.state.faultFound .params 60, v.owed⟩ :=
  (Act.bind_ok (checkParams_found good damaged room rfl)).trans rfl

theorem correct_params_mgmt (s : State) :
    (s.correct .params).mgmt = { s.mgmt with params := ⟨s.mgmt.params.content, []⟩ } :=
  (congrArg State.mgmt (correct_rest .params s) :)

section
variable {s : State} {tag b : Byte} (ht : s.TakesRequest) (index : b.toNat < 22) (good : s.isFaulted .params = false)
include ht index good

/-- A read of a parameter by the gateway that finds damage in one place. -/
theorem exec_readParam_corrected (one : (s.flips .params).length = 1) :
    ∃ t, exec (.readParam (gateway tag) b) s = .next t ∧ t.mgmt.params = ⟨s.mgmt.params.content, []⟩ ∧
      (s.answered tag (codeByte 15 0) (done (paramBytes (s.mgmt.params.content.value b.toNat) false))).RaisedFrom t
        .tableCorrected (.entry .params) 0 ∧
      t.integ = { s.integ with corrected := min 65535 (s.integ.corrected + 1) } := by
  have mgmt := correct_params_mgmt (s.answeredPlain tag (codeByte 15 0) .done)
  have reads : readParamReply b ⟨s.answeredPlain tag (codeByte 15 0) .done, []⟩ =
      .ok (done (paramBytes (s.mgmt.params.content.value b.toNat) false))
        ⟨(s.answeredPlain tag (codeByte 15 0) .done).correct .params, []⟩ := by
    rw [readParamReply_some index]
    refine (Act.bind_ok (readParams_corrected (v := ⟨s.answeredPlain tag (codeByte 15 0) .done, []⟩) good one)).trans ?_
    rw [Act.look_run, mgmt, State.correct_isFaulted]
    exact congrArg (fun x => EStateM.Result.ok (done (paramBytes _ x)) _) good
  have run := exec_gateway (i := .readParam (gateway tag) b) (own := fun _ => readParamReply b) rfl rfl ht
    (awake_reads ht.2.1) reads
  exact ⟨_, run, congrArg Management.params mgmt, reply_raisedFrom (correct_raisedFrom ..), correct_integ ..⟩

/-- A read of a parameter by the gateway that finds the entry faulted. -/
theorem exec_readParam_found (damaged : 2 ≤ (s.flips .params).length) (room : s.integ.faultList.length < 8) :
    ∃ t, exec (.readParam (gateway tag) b) s = .next t ∧ t.mgmt = s.mgmt ∧
      (s.answered tag (codeByte 15 0)
        (done (paramBytes (State.reset.mgmt.params.content.value b.toNat) true))).RaisedFrom t
        .tableFault (.entry .params) 60 ∧ s.Joined t .params [] := by
  have rest := faultFound_rest .params (s.answeredPlain tag (codeByte 15 0) .done) 60
  have joined := faultFound_joined .params (s.answeredPlain tag (codeByte 15 0) .done) 60
  have raised := faultFound_raisedFrom .params (s.answeredPlain tag (codeByte 15 0) .done) 60
  have reads : readParamReply b ⟨s.answeredPlain tag (codeByte 15 0) .done, []⟩ =
      .ok (done (paramBytes (State.reset.mgmt.params.content.value b.toNat) true))
        ⟨(s.answeredPlain tag (codeByte 15 0) .done).faultFound .params 60, []⟩ := by
    rw [readParamReply_some index]
    refine (Act.bind_ok (readParams_newlyFaulted (v := ⟨s.answeredPlain tag (codeByte 15 0) .done, []⟩) good damaged room)).trans ?_
    rw [Act.look_run, faultFound_isFaulted]
    rfl
  have run := exec_gateway (i := .readParam (gateway tag) b) (own := fun _ => readParamReply b) rfl rfl ht
    (awake_reads ht.2.1) reads
  exact ⟨_, run, (congrArg State.mgmt rest :), reply_raisedFrom raised, joined⟩

end

/-- Settles O25: what is known, the replies' data, and each read that finds damage. -/
theorem protectedReadsAnswerTheGoodEntry : Obligations.ProtectedReadsAnswerTheGoodEntry := by
  refine ⟨fun s tag b ht u => reads_undamaged tag b ht u,
    fun s src tag b i ht u fitted node index => panel_reads_slot tag b ht u fitted node index,
    fun s tag b ht => reads_faulted tag b ht, ⟨fun c x sl => ⟨?_, ?_⟩, fun c d x => ?_, fun r => ?_, fun r x => ?_,
      fun e x d c a => ?_, fun v x => ?_, fun p => rfl⟩, ⟨rfl, rfl, rfl, rfl, rfl, rfl, rfl, rfl, rfl, rfl, rfl, rfl, rfl, rfl,
      rfl, rfl, fun i j k l a => rfl, rfl⟩, fun s tag b ht => ⟨fun i index params good => ⟨fun one => ?_, fun damaged room => ?_,
        fun damaged full => ?_⟩, fun a index new => exec_readActuator_found ht index new, fun index good =>
        ⟨fun one => exec_readParam_corrected ht index good one, fun damaged room => exec_readParam_found ht index good damaged room⟩⟩⟩
  · rw [slotBytes0, natBytes2_eq, flagByte_eq, intBytes2_funext]
    cases sl.value <;> cases sl.pendingJump <;> rfl
  · rw [slotBytes1, CompSetup.bytes, CompSetup.bytes, flagByte_eq, intBytes2_funext]
    rfl
  · rw [mapBytes, flagByte_eq, flagByte_eq, intBytes2_funext]
    cases c.rule <;> cases d.lastTag <;> rfl
  · rw [modeBytes, flagByte_eq, flagByte_eq]
  · rw [recoveryBytes, natBytes2_eq, natBytes2_eq, flagByte_eq]
  · rw [actuatorBytes, flagByte_eq, flagByte_eq, flagByte_eq, flagByte_eq]
    refine congrArg (· ++ _) (congrArg₂ (· ++ ·) (congrArg (· ++ _) (congrArg₂ (· ++ ·) (congrArg₂ (· ++ ·)
      (congrArg₂ (· ++ ·) (congrArg₂ (· ++ ·) (congrArg₂ (· ++ ·) rfl ?_) ?_) ?_) ?_) ?_)) ?_)
    · cases d.target <;> rfl
    · cases d.pendingValue <;> rfl
    · rw [cmqPosition]
      cases c.cmq.idxOf? a <;> rfl
    · cases d.outstanding with
      | none => rfl
      | some o =>
        simp only [Option.map_some, optionalBytes, Outstanding.bytes, flagByte_eq]
    · cases d.reported <;> rfl
    · cases d.lastAbandoned <;> rfl
  · rw [paramBytes, natBytes2_eq, flagByte_eq]
  · exact exec_readMap_corrected ht index good one
  · exact exec_readMap_found ht index good params damaged room
  · exact exec_readMap_wiped ht index good damaged full

end Sys2Proof.Machine
end

section
/-! SUPPORT. Two writes of a faulted entry refuted: a Fault List that names the entry twice keeps it faulted.

WRITE_SLOT and WRITE_PARAM take one place of the entry off the Fault List. No event brings an entry onto the list twice
(`Obligations.ListsQueuesAndCountersStayBounded`), but the statements do not ask for a list without repetitions: on one
with the entry in it twice the write leaves the entry faulted, and what reads it within the request finds it so. -/
namespace Sys2Proof.Machine
open Sys2Proof

/-- What an outcome's state shows. -/
def outcomeShows (p : State → Bool) : Host.Outcome State Fault Refusal → Bool
  | .next s => p s
  | .fault _ => false
  | .refused _ => false

/-- The state after reset with an entry on the Fault List twice. -/
def faultedTwice (e : EntryId) : State := State.reset.onInteg fun u => { u with faultList := [e, e] }

/-- Slot 0 is CRITICAL's OUT_PM and reported FAULT, the parameters entry on the Fault List twice. -/
def paramsFaultedTwice : State := (faultedTwice .params).onCtrl fun c => { c with
  bindings := { c.bindings with outPm := some 0 }
  slotViews := c.slotViews.set 0 ⟨.fault, false, false⟩ }

/-- CRITICAL_ROLES written as the empty set leaves INPUT_LOST, for the entry still reads as its power-on content. -/
theorem write_leaves_inputLost :
    outcomeShows (·.ctrl.causes.inputLost) (exec (.writeParam (gateway 0) 11 0) paramsFaultedTwice) = true := by
  decide +kernel

/-- Refutes O29: on a Fault List with the parameters entry in it twice, CRITICAL_ROLES written as 0 leaves the SAFE cause
of the power-on CRITICAL_ROLES standing. -/
theorem not_writeParamStoresOneParameter : ¬ Obligations.WriteParamStoresOneParameter := by
  intro h
  obtain ⟨_, _, faulted, _⟩ := h paramsFaultedTwice 0 11 0 ⟨rfl, by decide, by decide⟩ (by decide) (.inl rfl)
  obtain ⟨_, _, stores⟩ := faulted (by decide)
  obtain ⟨t, write, ⟨_, _, _, _, _, _, causes, _⟩, _⟩ := stores (Nat.zero_le 63) (by decide) rfl
  have lost := write_leaves_inputLost
  rw [write] at lost
  obtain ⟨r, i, critical, _⟩ := (causes (by decide)).2.1 lost
  cases r <;> exact absurd critical (by decide)

/-- WRITE_SLOT reports the slot FAULT, for its setup is still faulted. -/
theorem write_reports_fault :
    outcomeShows (fun t => t.ctrl.reports.getLast? == some (.slot 0 ⟨.fault, false, false⟩))
      (exec (.writeSlot (gateway 0) 0 1 0 0 0 1 0) (faultedTwice (.slotSetup 0))) = true := by
  decide +kernel

/-- Refutes O27: on a Fault List with the slot's setup in it twice, the slot is reported FAULT, not EMPTY. -/
theorem not_writeSlotStoresAndEmptiesTheSlot : ¬ Obligations.WriteSlotStoresAndEmptiesTheSlot := by
  intro h
  obtain ⟨_, faulted, _⟩ := h (faultedTwice (.slotSetup 0)) 0 0 1 0 0 0 1 0 0 .monitor .none ⟨rfl, by decide, by decide⟩ rfl rfl rfl rfl
    (by decide) (by decide) (by decide)
  obtain ⟨t, write, ⟨_, _, _, ctrl⟩, _⟩ := faulted (by simp) (by decide)
  have shown := write_reports_fault
  rw [write] at shown
  have last : t.ctrl.reports.getLast? = some (.slot 0 ⟨.empty, false, false⟩) := by
    rw [ctrl]
    exact List.getLast?_concat ..
  simp only [outcomeShows, last] at shown
  exact absurd shown (by decide)

end Sys2Proof.Machine
end

section
/-! SUPPORT. Runs that give sub-events.

The sub-events of an event change the tallies alone, and what an event owes for them is settled at its end. So a run is
described by the state it leaves, the tallies apart, and by the sub-events it gives. -/
namespace Sys2Proof.Machine
open Sys2Proof

/-- Sub-events given in order within an event. -/
def Event.giveAll (es : List SubEvent) (v : Event) : Event := es.foldl (fun v e => v.give e) v

/-- An event like `s` but for its tallies. -/
def State.withTally (s : State) (u : TallyUnit) : State := s.onTally fun _ => u

/-- The work leads from `s` to `t` with the result `x`, giving `es`, whatever the tallies hold and the event owes. -/
def Act.Runs {α : Type} (s : State) (a : Act α) (x : α) (t : State) (es : List SubEvent) : Prop :=
  t.tally = s.tally ∧ t.ctrl.mode = s.ctrl.mode ∧
    ∀ u o, a ⟨s.withTally u, o⟩ = .ok x ((⟨t.withTally u, o⟩ : Event).giveAll es)

/-- Sub-events given to a state, as they stand in the tallies and in what is owed. -/
theorem giveAll_withTally {s t : State} (mode : t.ctrl.mode = s.ctrl.mode) (es : List SubEvent) (u : TallyUnit)
    (o : List (Fin 4)) : ∃ u' o', (⟨s.withTally u, o⟩ : Event).giveAll es = ⟨s.withTally u', o'⟩ ∧
      (⟨t.withTally u, o⟩ : Event).giveAll es = ⟨t.withTally u', o'⟩ := by
  induction es generalizing u o with
  | nil => exact ⟨u, o, rfl, rfl⟩
  | cons e es ih =>
    have first (x : State) : (⟨x.withTally u, o⟩ : Event).giveAll (e :: es) =
        ((⟨x.withTally u, o⟩ : Event).give e).giveAll es := rfl
    have step (x : State) : (⟨x.withTally u, o⟩ : Event).give e =
        ⟨x.withTally ((⟨(x.withTally u), o⟩ : Event).give e).state.tally, ((⟨x.withTally u, o⟩ : Event).give e).owed⟩ := rfl
    have same : (⟨t.withTally u, o⟩ : Event).give e =
        ⟨t.withTally ((⟨(s.withTally u), o⟩ : Event).give e).state.tally, ((⟨s.withTally u, o⟩ : Event).give e).owed⟩ := by
      rw [step t]
      simp only [Event.give, State.addAmounts, State.withTally, State.onTally, mode]
    rw [first s, first t, step s, same]
    exact ih ..

section
variable {α β : Type} {s t r : State} {x : α} {y : β} {es fs : List SubEvent}

theorem Act.Runs.pure_ {α : Type} (s : State) (x : α) : Act.Runs s (pure x) x s [] := ⟨rfl, rfl, fun _ _ => rfl⟩

theorem Act.Runs.bind {a : Act α} {b : α → Act β} (first : Act.Runs s a x t es) (rest : Act.Runs t (b x) y r fs) :
    Act.Runs s (a >>= b) y r (es ++ fs) := by
  obtain ⟨tally, mode, run⟩ := first
  obtain ⟨tally', mode', run'⟩ := rest
  refine ⟨tally'.trans tally, mode'.trans mode, fun u o => ?_⟩
  obtain ⟨u', o', giveT, giveR⟩ := giveAll_withTally mode' es u o
  rw [Act.bind_ok (run u o), giveT, run' u' o', ← giveR, Event.giveAll, Event.giveAll, Event.giveAll, List.foldl_append]

theorem Act.Runs.quiet {a : Act α} (h : ∀ u o, a ⟨s.withTally u, o⟩ = .ok x ⟨s.withTally u, o⟩) : Act.Runs s a x s [] :=
  ⟨rfl, rfl, h⟩

theorem Act.Runs.look_ {α : Type} {s : State} (f : State → α) (blind : ∀ u, f (s.withTally u) = f s) : Act.Runs s (look f) (f s) s [] :=
  .quiet fun u _ => congrArg (fun x => EStateM.Result.ok x _) (blind u)

theorem Act.Runs.upd_ {s : State} (f : State → State) (tally : (f s).tally = s.tally) (mode : (f s).ctrl.mode = s.ctrl.mode)
    (blind : ∀ u, f (s.withTally u) = (f s).withTally u) : Act.Runs s (upd f) () (f s) [] :=
  ⟨tally, mode, fun u o => congrArg (fun x => EStateM.Result.ok () (Event.mk x o)) (blind u)⟩

theorem Act.Runs.give_ (s : State) (e : SubEvent) : Act.Runs s (give e) () s [e] := ⟨rfl, rfl, fun _ _ => rfl⟩

theorem Act.Runs.onlyIf_ {c : Bool} {a : Act Unit} (yes : c = true → Act.Runs s a () t es)
    (no : c = false → t = s ∧ es = []) : Act.Runs s (onlyIf c a) () t es := by
  cases c
  · obtain ⟨rfl, rfl⟩ := no rfl
    exact .pure_ _ ()
  · exact yes rfl

/-- Behind a first sub-event. -/
theorem Act.Runs.after_give {a : Act α} (h : Act.Runs s a x t es) (e : SubEvent) :
    a ((⟨s, []⟩ : Event).give e) = .ok x ((⟨t, []⟩ : Event).giveAll (e :: es)) := by
  obtain ⟨tally, mode, run⟩ := h
  obtain ⟨u, o, giveS, giveT⟩ := giveAll_withTally mode [e] s.tally []
  have start : (⟨s, []⟩ : Event).give e = ⟨s.withTally u, o⟩ := giveS
  have finish : (⟨t, []⟩ : Event).give e = ⟨t.withTally u, o⟩ := by
    rw [← giveT, ← tally]
    rfl
  rw [start, run u o, ← finish]
  rfl

end

/-! ### Raises, and the reads of what is known -/

theorem withTally_tables (s : State) (u : TallyUnit) : (s.withTally u).tables = s.tables := rfl

theorem raiseRecord_withTally (k : NoticeKind) (d : Detail) (s : State) (u : TallyUnit) :
    (s.withTally u).raiseRecord k d = (s.raiseRecord k d).withTally u := by
  simp only [State.raiseRecord, apply_ite (fun x : State => x.withTally u)]
  rfl

theorem raiseWith_withTally (n : Nat) (k : NoticeKind) (d : Detail) (s : State) (u : TallyUnit) :
    (s.withTally u).raiseWith n k d = (s.raiseWith n k d).withTally u := by
  simp only [State.raiseWith, State.startEscalation, raiseRecord_withTally, apply_ite (fun x : State => x.withTally u)]
  rfl

section
variable {s : State}

theorem Act.Runs.raise_ (known : s.Known .params) (k : NoticeKind) (d : Detail) :
    Act.Runs s (raise k d) () (s.raiseWith s.paramsSeen.escalation k d) [] := by
  have rest := raiseWith_rest s.paramsSeen.escalation k d s
  refine ⟨(congrArg State.tally rest :), (congrArg (fun x : State => x.ctrl.mode) rest :), fun u o => ?_⟩
  refine (raise_known k d (v := ⟨s.withTally u, o⟩) (known.of_tables rfl)).trans ?_
  exact congrArg (fun x => EStateM.Result.ok () (Event.mk x o)) (raiseWith_withTally ..)

theorem Act.Runs.readParams_ (known : s.Known .params) : Act.Runs s readParams s.paramsSeen s [] :=
  .quiet fun u o => readParams_known (v := ⟨s.withTally u, o⟩) (known.of_tables rfl)

theorem Act.Runs.readSetup_ {i : Fin 32} (known : s.Known (.slotSetup i)) :
    Act.Runs s (readSetup i) (s.setupSeen i) s [] :=
  .quiet fun u o => readSetup_known (v := ⟨s.withTally u, o⟩) (known.of_tables rfl)

theorem Act.Runs.readNodes_ (l : List Actuator) (known : ∀ a ∈ l, s.Known (.actuator a)) :
    Act.Runs s (readNodes l) (s.nodesSeen l) s [] :=
  .quiet fun u o => readNodes_known (v := ⟨s.withTally u, o⟩) l fun a ha => (known a ha).of_tables rfl

theorem Act.Runs.lookup_ (src ch : Nat) (l : List (Fin 64)) (known : ∀ i ∈ l, s.Known (.channelMap i)) :
    Act.Runs s (lookup src ch l) (l.find? fun i => hasKey src ch (s.mapSeen i)) s [] :=
  .quiet fun u o => lookup_known src ch (v := ⟨s.withTally u, o⟩) l fun i hi => (known i hi).of_tables rfl

end

/-! ### Frames received -/

theorem exec_dnArrival_runs {r : Reception} {s t : State} {f : Frame} {es : List SubEvent} (alive : s.alive = true)
    (awake : s.mgmt.opState ≠ .parked) (taking : s.port.dnRx = .taking) (good : classify r = .good f)
    (h : Act.Runs s (dispose .dn f (dnDisposition f.dest.toNat f.kind)) () t es) :
    exec (.dnArrival r) s = .next (t.countAll (.rxGood :: es)) :=
  exec_dnArrival_good alive awake taking good (h.after_give .rxGood)

theorem exec_upArrival_runs {r : Reception} {busy : LinesBusy} {s t : State} {f : Frame} {es : List SubEvent}
    (alive : s.alive = true) (awake : s.mgmt.opState ≠ .parked) (taking : s.port.upRx = .taking)
    (good : classify r = .good f) (h : Act.Runs s (dispose .up f (upDisposition f.dest.toNat f.kind)) () t es) :
    exec (.upArrival r busy) s = .next (t.countAll (.rxGood :: es)) :=
  exec_upArrival_good alive awake taking good (h.after_give .rxGood)

/-! ### What counting leaves -/

/-- Counting leaves all but the tallies, TALLY_OVERFLOW and RPQ. -/
theorem countAll_only (es : List SubEvent) (s : State) : s.OnlyRpq (s.countAll es) ∧
    (∀ k, k ≠ .tallyOverflow → (s.countAll es).noticeRecord k = s.noticeRecord k) ∧
    { s.countAll es with tally := s.tally, notice := s.notice, port := s.port } = s := by
  obtain ⟨u, o, given, _⟩ := giveAll_withTally (s := s) (t := s) rfl es s.tally []
  have all : s.countAll es = (s.withTally u).raiseOverflows o := congrArg Event.settled given
  have only := raiseOverflows_only o (s.withTally u)
  rw [← all] at only
  exact ⟨only.1, only.2.1, State.OnlyOverflows.rest_of_onTally only⟩

/-- The sub-events each of another group: none counts twice in a tally. -/
theorem countAll_calm {es : List SubEvent} {s : State} (apart : (es.map SubEvent.group).Nodup) (noWrap : s.NoWrap) :
    (s.countAll es).notice = s.notice ∧ (s.countAll es).port = s.port := by
  have once (i : Fin 4) : es.countP (s.tally.tallies[i].counts s.ctrl.mode) ≤ 1 := by
    induction es with
    | nil => exact Nat.zero_le 1
    | cons e es ih =>
      rw [List.map_cons, List.nodup_cons] at apart
      obtain ⟨fresh, rest⟩ := apart
      by_cases h : s.tally.tallies[i].counts s.ctrl.mode e = true
      · have none_ : es.countP (s.tally.tallies[i].counts s.ctrl.mode) = 0 := by
          refine List.countP_eq_zero.2 fun e' he' h' => fresh ?_
          have group {x : SubEvent} (hx : s.tally.tallies[i].counts s.ctrl.mode x = true) :
              s.tally.tallies[i].group = x.group := by
            simp only [Tally.counts, Tally.selects, Bool.and_eq_true, beq_iff_eq] at hx
            exact hx.1.1
          rw [← group h, group h']
          exact List.mem_map_of_mem he'
        rw [List.countP_cons_of_pos h, none_]
      · rw [List.countP_cons_of_neg h]
        exact ih rest
  have short : es.length < 2 ^ 32 := by
    have bound : (es.map SubEvent.group).length ≤
        [TallyGroup.off, .samples, .modeTime, .commands, .dose, .doors, .frames].length :=
      (List.subperm_of_subset apart fun g _ => by cases g <;> decide).length_le
    rw [List.length_map] at bound
    exact lt_of_le_of_lt bound (by decide)
  have owed : (es.foldl (fun v e => Event.give e v) ⟨s, []⟩).owed = [] := by
    refine List.eq_nil_iff_forall_not_mem.2 fun i hi => ?_
    obtain none_ | ⟨notify, wraps⟩ := (foldl_give_tally i es short ⟨s, []⟩).2.1 hi
    · exact List.not_mem_nil none_
    · have small := noWrap i notify
      have bound := once i
      have wrapped := of_decide_eq_true wraps
      dsimp only at wrapped
      omega
  have state := foldl_give_onTally es ⟨s, []⟩
  have settled : s.countAll es = (es.foldl (fun v e => Event.give e v) ⟨s, []⟩).state := by
    rw [State.countAll, Event.settled, owed]
    rfl
  rw [settled, state]
  exact ⟨rfl, rfl⟩

end Sys2Proof.Machine
end

section
/-! SUPPORT. ACKs. -/
namespace Sys2Proof.Machine
open Sys2Proof

/-! ### What an ACK reports -/

/-- The state once an ACK's position and status are taken. -/
def State.ackReported (a : Actuator) (r : Reported) (s : State) : State :=
  if r.status.trouble then
    (s.onDelivery a fun d => { d with reported := some r, failed := r.status.trouble }).raiseWith
      s.paramsSeen.escalation .actuatorFault (.actuator a)
  else s.onDelivery a fun d => { d with reported := some r, failed := r.status.trouble }

theorem takeReported_runs {s : State} (known : s.Known .params) (a : Actuator) (r : Reported) :
    Act.Runs s (takeReported a r) () (s.ackReported a r) [] := by
  unfold takeReported State.ackReported
  refine .bind (es := []) (.upd_ _ rfl rfl fun _ => rfl) ?_
  cases r.status.trouble
  · exact .pure_ _ ()
  · refine Act.Runs.raise_ ?_ _ _
    exact known.of_tables rfl

section
variable (a : Actuator) (r : Reported) (s : State)

theorem ackReported_rest : { s.ackReported a r with notice := s.notice, port := s.port } =
    s.onDelivery a fun d => { d with reported := some r, failed := r.status.trouble } := by
  unfold State.ackReported
  split
  · exact raiseWith_rest ..
  · rfl

theorem ackReported_raised (bad : r.status.trouble = true) :
    s.RaisedFrom (s.ackReported a r) .actuatorFault (.actuator a) s.paramsSeen.escalation := by
  rw [State.ackReported, if_pos bad]
  exact (raiseWith_raisedFrom _ _ _ (s.onDelivery a fun d =>
    { d with reported := some r, failed := r.status.trouble })).congr rfl rfl rfl rfl

theorem ackReported_well (well : r.status.trouble = false) :
    (s.ackReported a r).notice = s.notice ∧ (s.ackReported a r).port = s.port := by
  rw [State.ackReported, if_neg (by rw [well]; decide)]
  exact ⟨rfl, rfl⟩

theorem ackReported_onlyRpq : s.OnlyRpq (s.ackReported a r) := by
  cases h : r.status.trouble
  · obtain ⟨_, port⟩ := ackReported_well a r s h
    rw [State.OnlyRpq, port]
  · exact (ackReported_raised a r s h).onlyRpq

end

theorem trouble_iff (st : AckStatus) : st.trouble = true ↔ st = .jammed ∨ st = .overheat := by
  cases st <;> decide

theorem trouble_eq (st : AckStatus) : st.trouble = decide (st = .jammed ∨ st = .overheat) := by
  cases st <;> rfl

/-! ### The three answers -/

/-- The state a matching ACK leaves, its sub-event apart. -/
def State.ackMatched (a : Actuator) (r : Reported) (s : State) : State :=
  ((s.onCmd (·.dropOutstanding a)).ackReported a r).reportCompletion

/-- The state a late ACK leaves, its sub-event apart. -/
def State.ackLate (a : Actuator) (r : Reported) (s : State) : State :=
  (s.ackReported a r).onDelivery a fun d => { d with lastAbandoned := none }

theorem reportCompletion_runs (s : State) : Act.Runs s (upd State.reportCompletion) () s.reportCompletion [] := by
  have rest := reportCompletion_rest s
  refine .upd_ _ (congrArg State.tally rest :) (congrArg (fun x : State => x.ctrl.mode) rest :) fun u => ?_
  simp only [State.reportCompletion, apply_ite (fun x : State => x.withTally u)]
  rfl

section
variable {s : State} {src tag : Byte} {r : Reported} (u : s.Undamaged)
include u

theorem takeAck_matched {a : Actuator} {o : Outstanding} (present : (s.cmd.entries.get a).content.present = true)
    (node : (s.cmd.entries.get a).content.node = src.toNat) (out : (s.cmd.delivery.get a).outstanding = some o)
    (own : o.tag = tag) (only : ∀ b p, b ≠ a → (s.cmd.delivery.get b).outstanding = some p → p.tag ≠ tag) :
    Act.Runs s (takeAck src tag r) () (s.ackMatched a r) [.acked] := by
  unfold takeAck
  refine .bind (es := []) (.readNodes_ _ fun b _ => u.known _) ?_
  refine .bind (es := []) (.look_ _ fun _ => rfl) (.bind (es := []) (.look_ _ fun _ => rfl) ?_)
  split
  next b found =>
    have awaits := List.find?_some found
    have same : b = a := by
      by_contra other
      cases out' : (s.cmd.delivery.get b).outstanding with
      | none => simp [out'] at awaits
      | some p =>
        rw [out'] at awaits
        exact only b p other out' (by simpa using awaits)
    subst same
    have known : (s.onCmd (·.dropOutstanding b)).Known .params := (u.known .params).of_tables rfl
    exact .bind (es := []) (.upd_ _ rfl rfl fun _ => rfl) (.bind (es := []) (takeReported_runs known b r)
      (.bind (es := [.acked]) (.give_ _ _) (reportCompletion_runs _)))
  next b none_ _ =>
    exact absurd (by simp [out, own]) (List.find?_eq_none.1 none_ a ((mem_atNode u a _).2 ⟨present, node⟩))
  next none_ _ =>
    exact absurd (by simp [out, own]) (List.find?_eq_none.1 none_ a ((mem_atNode u a _).2 ⟨present, node⟩))

variable (none_ : ∀ b p, (s.cmd.entries.get b).content.present = true → (s.cmd.entries.get b).content.node = src.toNat →
  (s.cmd.delivery.get b).outstanding = some p → p.tag ≠ tag)
include none_

theorem takeAck_late {a : Actuator} (present : (s.cmd.entries.get a).content.present = true)
    (node : (s.cmd.entries.get a).content.node = src.toNat) (last : (s.cmd.delivery.get a).lastAbandoned = some tag)
    (only : ∀ b, b ≠ a → (s.cmd.delivery.get b).lastAbandoned ≠ some tag) :
    Act.Runs s (takeAck src tag r) () (s.ackLate a r) [.lateAck] := by
  unfold takeAck
  refine .bind (es := []) (.readNodes_ _ fun b _ => u.known _) ?_
  refine .bind (es := []) (.look_ _ fun _ => rfl) (.bind (es := []) (.look_ _ fun _ => rfl) ?_)
  split
  next b found =>
    have awaits := List.find?_some found
    obtain ⟨present', node'⟩ := (mem_atNode u b _).1 (List.mem_of_find?_eq_some found)
    cases out' : (s.cmd.delivery.get b).outstanding with
    | none => simp [out'] at awaits
    | some p =>
      rw [out'] at awaits
      exact absurd (by simpa using awaits) (none_ b p present' node' out')
  next b _ found =>
    have same : b = a := by
      by_contra other
      exact only b other (by simpa using List.find?_some found)
    subst same
    exact .bind (es := []) (takeReported_runs (u.known .params) b r)
      (.bind (es := []) (.upd_ _ rfl rfl fun _ => rfl) (.give_ _ _))
  next missing =>
    exact absurd (by simpa using last) (List.find?_eq_none.1 missing a ((mem_atNode u a _).2 ⟨present, node⟩))

theorem takeAck_stray (never : ∀ b, (s.cmd.entries.get b).content.present = true →
    (s.cmd.entries.get b).content.node = src.toNat → (s.cmd.delivery.get b).lastAbandoned ≠ some tag) :
    Act.Runs s (takeAck src tag r) () s [.strayAck] := by
  unfold takeAck
  refine .bind (es := []) (.readNodes_ _ fun b _ => u.known _) ?_
  refine .bind (es := []) (.look_ _ fun _ => rfl) (.bind (es := []) (.look_ _ fun _ => rfl) ?_)
  split
  next b found =>
    have awaits := List.find?_some found
    obtain ⟨present', node'⟩ := (mem_atNode u b _).1 (List.mem_of_find?_eq_some found)
    cases out' : (s.cmd.delivery.get b).outstanding with
    | none => simp [out'] at awaits
    | some p =>
      rw [out'] at awaits
      exact absurd (by simpa using awaits) (none_ b p present' node' out')
  next b _ found =>
    obtain ⟨present', node'⟩ := (mem_atNode u b _).1 (List.mem_of_find?_eq_some found)
    exact absurd (by simpa using List.find?_some found) (never b present' node')
  next => exact .give_ _ _

end

end Sys2Proof.Machine
end

section
/-! SUPPORT. What an ACK leaves. -/
namespace Sys2Proof.Machine
open Sys2Proof

section
variable (a : Actuator) (r : Reported) (s : State)

/-- The Command Engine once a matching ACK is taken. -/
def CommandEngine.ackMatched (c : CommandEngine) : CommandEngine :=
  (c.dropOutstanding a).onDelivery a fun d => { d with reported := some r, failed := r.status.trouble }

/-- The Command Engine once a late ACK is taken. -/
def CommandEngine.ackLate (c : CommandEngine) : CommandEngine :=
  c.onDelivery a fun d => { d with reported := some r, failed := r.status.trouble, lastAbandoned := none }

theorem ackMatched_reported : { s.ackMatched a r with cmd := s.cmd } =
    { (s.onCmd (·.dropOutstanding a)).ackReported a r with cmd := s.cmd } :=
  (congrArg (fun x : State => { x with cmd := s.cmd }) (reportCompletion_rest ((s.onCmd (·.dropOutstanding a)).ackReported a r)) :)

theorem ackMatched_rest : { s.ackMatched a r with cmd := s.cmd, notice := s.notice, port := s.port } = s := by
  have first := congrArg (fun x : State => { x with notice := s.notice, port := s.port }) (ackMatched_reported a r s)
  exact first.trans (congrArg (fun x : State => { x with cmd := s.cmd }) (ackReported_rest a r (s.onCmd (·.dropOutstanding a))))

theorem ackMatched_cmd : (s.ackMatched a r).cmd = { s.cmd.ackMatched a r with
    completion := (s.mgmt.opState == .parking && (s.cmd.ackMatched a r).quiet) || s.cmd.completion } := by
  have rest := ackReported_rest a r (s.onCmd (·.dropOutstanding a))
  have cmd : ((s.onCmd (·.dropOutstanding a)).ackReported a r).cmd = s.cmd.ackMatched a r := (congrArg State.cmd rest :)
  have mgmt : ((s.onCmd (·.dropOutstanding a)).ackReported a r).mgmt = s.mgmt := (congrArg State.mgmt rest :)
  rw [State.ackMatched, reportCompletion_cmd, cmd, mgmt]
  rfl

theorem ackMatched_raised (bad : r.status.trouble = true) :
    s.RaisedFrom (s.ackMatched a r) .actuatorFault (.actuator a) s.paramsSeen.escalation := by
  have same := ackMatched_reported a r s
  exact (ackReported_raised a r (s.onCmd (·.dropOutstanding a)) bad).congr rfl rfl (congrArg State.notice same :)
    (congrArg State.port same :)

theorem ackMatched_well (well : r.status.trouble = false) :
    (s.ackMatched a r).notice = s.notice ∧ (s.ackMatched a r).port = s.port := by
  have same := ackMatched_reported a r s
  obtain ⟨notice, port⟩ := ackReported_well a r (s.onCmd (·.dropOutstanding a)) well
  exact ⟨(congrArg State.notice same :).trans notice, (congrArg State.port same :).trans port⟩

theorem ackMatched_get (b : Actuator) : (s.cmd.ackMatched a r).delivery.get b =
    if b = a then { s.cmd.delivery.get a with
      outstanding := none, ackTimer := none, reported := some r, failed := r.status.trouble }
    else s.cmd.delivery.get b := by cases a <;> cases b <;> rfl

theorem ackLate_rest : { s.ackLate a r with cmd := s.cmd, notice := s.notice, port := s.port } = s :=
  (congrArg (fun x : State => { x with cmd := s.cmd }) (ackReported_rest a r s) :)

theorem ackLate_cmd : (s.ackLate a r).cmd = { s.cmd with delivery := s.cmd.delivery.set a { s.cmd.delivery.get a with
    reported := some r, failed := r.status.trouble, lastAbandoned := none } } := by
  have cmd : (s.ackReported a r).cmd = _ := (congrArg State.cmd (ackReported_rest a r s) :)
  refine (congrArg (fun c : CommandEngine => c.onDelivery a fun d => { d with lastAbandoned := none }) cmd).trans ?_
  cases a <;> rfl

/-- What the counting of an ACK's sub-events leaves of its state. -/
theorem ack_counted {s z : State} {es : List SubEvent} {a : Actuator} {n : Nat} {bad : Prop} [Decidable bad]
    (apart : (es.map SubEvent.group).Nodup)
    (rest : { z with cmd := s.cmd, notice := s.notice, port := s.port } = s)
    (raised : bad → s.RaisedFrom z .actuatorFault (.actuator a) n)
    (well : ¬bad → z.notice = s.notice ∧ z.port = s.port) :
    (bad → (z.countAll es).Raised .actuatorFault (.actuator a)) ∧ (z.countAll es).tally = (s.countAll es).tally ∧
      (s.NoWrap → (bad → s.RaisedFrom (z.countAll es) .actuatorFault (.actuator a) n) ∧
        (¬bad → (z.countAll es).notice = s.notice ∧ (z.countAll es).port = s.port)) ∧
      s.OnlyRpq (z.countAll es) ∧ (z.countAll es).ctrl = s.ctrl ∧ (z.countAll es).timer = s.timer ∧
      (z.countAll es).intake = s.intake ∧ (z.countAll es).quantity = s.quantity ∧ (z.countAll es).mgmt = s.mgmt ∧
      (z.countAll es).integ = s.integ ∧ (z.countAll es).park = s.park := by
  obtain ⟨only, others, counted⟩ := countAll_only es z
  have tally : z.tally = s.tally := (congrArg State.tally rest :)
  have ctrl : z.ctrl = s.ctrl := (congrArg State.ctrl rest :)
  have whole := (congrArg (fun x : State => { x with
    cmd := s.cmd, notice := s.notice, port := s.port, tally := s.tally }) counted :).trans
      (congrArg (fun x : State => { x with tally := s.tally }) rest :)
  have onlyRpq : s.OnlyRpq z := by
    by_cases h : bad
    · exact (raised h).onlyRpq
    · obtain ⟨_, port⟩ := well h
      rw [State.OnlyRpq, port]
  refine ⟨fun h => ?_, ?_, fun noWrap => ?_, onlyRpq.trans only, (congrArg State.ctrl whole :), (congrArg State.timer whole :),
    (congrArg State.intake whole :), (congrArg State.quantity whole :), (congrArg State.mgmt whole :),
    (congrArg State.integ whole :), (congrArg State.park whole :)⟩
  · rw [State.Raised, others _ (by decide)]
    exact (raised h).raised
  · rw [State.countAll_tally, State.countAll_tally, tally, ctrl]
  · have calm := countAll_calm apart (s := z) (by
      rw [State.NoWrap, tally]
      exact noWrap)
    refine ⟨fun h => (raised h).congr rfl rfl calm.1 calm.2, fun h => ?_⟩
    exact ⟨calm.1.trans (well h).1, calm.2.trans (well h).2⟩

end

theorem ack_disposed {f : Frame} {r : Reported} (kind : f.kind = .ack) (one : f.dest = 1) (payload : ackOf f.payload = some r) :
    dispose .dn f (dnDisposition f.dest.toNat f.kind) = takeAck f.src f.tag r := by
  rw [one, kind]
  refine (show _ = dispose .dn f .ack from rfl).trans ?_
  rw [dispose, payload]

/-- Settles O17: the ACK matched, late or stray. -/
theorem matchingAcksCompleteTheCommand : Obligations.MatchingAcksCompleteTheCommand := by
  intro s r f a rep alive awake taking u good kind one payload
  have disposed := ack_disposed kind one payload
  have decided := trouble_eq rep.status
  have seen : s.paramsSeen = s.mgmt.params.content := u.paramsSeen
  have badly (h : rep.status = .jammed ∨ rep.status = .overheat) : rep.status.trouble = true := (trouble_iff _).2 h
  have well (h : ¬(rep.status = .jammed ∨ rep.status = .overheat)) : rep.status.trouble = false := by
    rw [decided, decide_eq_false h]
  refine ⟨fun o present node out own only => ?_, fun none_ => ⟨fun present node last only => ?_, fun never => ?_⟩⟩
  · have run : exec (.dnArrival r) s = .next ((s.ackMatched a rep).countAll [.rxGood, .acked]) :=
      exec_dnArrival_runs alive awake taking good (disposed ▸ takeAck_matched u present node out own only)
    have cmd : ((s.ackMatched a rep).countAll [.rxGood, .acked]).cmd = _ :=
      (State.countAll_cmd _ _).trans (ackMatched_cmd a rep s)
    have counted := ack_counted (es := [.rxGood, .acked]) (by decide) (ackMatched_rest a rep s)
      (fun h => ackMatched_raised a rep s (badly h)) (fun h => ackMatched_well a rep s (well h))
    rw [seen] at counted
    generalize (s.ackMatched a rep).countAll [.rxGood, .acked] = t at run cmd counted
    obtain ⟨raised, tally, noWrap, onlyRpq, ctrl, timer, intake, quantity, mgmt, integ, park⟩ := counted
    have quiet : t.cmd.quiet = (s.cmd.ackMatched a rep).quiet := by
      rw [cmd]
      rfl
    have completion : t.cmd.completion = ((s.mgmt.opState == .parking && t.cmd.quiet) || s.cmd.completion) := by
      rw [quiet, cmd]
    refine ⟨t, run, ?_, fun b other => ?_, (congrArg CommandEngine.cmq cmd).trans rfl, (congrArg CommandEngine.due cmd).trans rfl,
      (congrArg CommandEngine.entries cmd).trans rfl, (congrArg CommandEngine.halted cmd).trans rfl,
      (congrArg CommandEngine.tagCounter cmd).trans rfl, raised, tally, noWrap, fun parking idle => ?_, fun not => ?_, onlyRpq,
      ctrl, timer, intake, quantity, mgmt, integ, park⟩
    · refine (congrArg (fun c : CommandEngine => c.delivery.get a) cmd).trans ((ackMatched_get a rep s a).trans ?_)
      rw [if_pos rfl, decided]
    · exact (congrArg (fun c : CommandEngine => c.delivery.get b) cmd).trans
        ((ackMatched_get a rep s b).trans (if_neg other))
    · rw [completion, parking, idle]
      rfl
    · rw [completion]
      rcases not with state | busy
      · rw [show (s.mgmt.opState == .parking) = false by simpa using state]
        rfl
      · rw [busy, Bool.and_false, Bool.false_or]
  · have run : exec (.dnArrival r) s = .next ((s.ackLate a rep).countAll [.rxGood, .lateAck]) :=
      exec_dnArrival_runs alive awake taking good (disposed ▸ takeAck_late u none_ present node last only)
    have cmd : ((s.ackLate a rep).countAll [.rxGood, .lateAck]).cmd = _ :=
      (State.countAll_cmd _ _).trans (ackLate_cmd a rep s)
    have same (h : rep.status.trouble = false) : (s.ackLate a rep).notice = s.notice ∧ (s.ackLate a rep).port = s.port :=
      ackReported_well a rep s h
    have raise (h : rep.status.trouble = true) :
        s.RaisedFrom (s.ackLate a rep) .actuatorFault (.actuator a) s.paramsSeen.escalation :=
      (ackReported_raised a rep s h).congr rfl rfl rfl rfl
    have counted := ack_counted (es := [.rxGood, .lateAck]) (by decide) (ackLate_rest a rep s)
      (fun h => raise (badly h)) (fun h => same (well h))
    rw [seen] at counted
    rw [decided] at cmd
    exact ⟨_, run, cmd, counted⟩
  · exact exec_dnArrival_runs alive awake taking good (disposed ▸ takeAck_stray u none_ never)

end Sys2Proof.Machine
end

section
/-! SUPPORT. The grants of the DN line refuted: an offer may be of an actuator that is on the Fault List.

When a grant's read finds the first offer damaged, the next offer is transmitted only if its own entry reads present. The
statement asks for its content alone, and a faulted entry keeps its content while every read of it finds it absent. That a
faulted actuator has no pending value is kept by every event, but is no hypothesis of the statement. -/
namespace Sys2Proof.Machine
open Sys2Proof

/-- Two actuators wait in CMQ: the first's entry is damaged in two places, the second's is on the Fault List. -/
def secondOfferFaulted : State :=
  (State.reset.onInteg fun u => { u with faultList := [.actuator .blower] }).onCmd fun c => { c with
    cmq := [.flap, .blower]
    entries := (c.entries.set .flap ⟨⟨true, 4⟩, [1, 2]⟩).set .blower ⟨⟨true, 5⟩, []⟩
    delivery := (c.delivery.set .flap { c.delivery.flap with pendingValue := some 1 }).set .blower
      { c.delivery.blower with pendingValue := some 3 } }

theorem secondOfferFaulted_newDamage : secondOfferFaulted.NewDamage (.actuator .flap) := by
  refine ⟨EntryId.noConfusion, by decide, by decide, by decide, fun x other => ?_, by decide⟩
  cases x with
  | channelMap i => exact (by decide +kernel : ∀ i, secondOfferFaulted.flips (.channelMap i) = []) i
  | slotSetup i => exact (by decide +kernel : ∀ i, secondOfferFaulted.flips (.slotSetup i) = []) i
  | modeRecord i => exact (by decide +kernel : ∀ i, secondOfferFaulted.flips (.modeRecord i) = []) i
  | recovery i => exact (by decide +kernel : ∀ i, secondOfferFaulted.flips (.recovery i) = []) i
  | actuator a =>
    cases a
    case flap => exact absurd rfl other
    all_goals rfl
  | params => rfl

/-- Nothing is transmitted: both offers are dropped. -/
theorem secondOfferFaulted_sends_nothing :
    outcomeShows (·.port.dnTx.isNone) (exec .dnGrant secondOfferFaulted) = true := by
  decide +kernel

/-- Refutes O18: behind an offer found damaged, an offer whose entry is on the Fault List is not transmitted. -/
theorem not_dnGrantsFollowTheShare : ¬ Obligations.DnGrantsFollowTheShare := by
  intro h
  obtain ⟨_, damaged⟩ := h
  obtain ⟨_, next, _⟩ := damaged secondOfferFaulted .flap rfl rfl (by decide) (.inl rfl)
  obtain ⟨t, run, _, _, line, _⟩ := next secondOfferFaulted_newDamage .blower 3 rfl rfl (by decide) rfl rfl rfl
  have nothing := secondOfferFaulted_sends_nothing
  rw [run] at nothing
  simp only [outcomeShows, line] at nothing
  exact absurd nothing (by decide)

end Sys2Proof.Machine
end

section
/-! SUPPORT. What a reading does to its slot. -/
namespace Sys2Proof.Machine
open Sys2Proof

/-! ### Work on one slot -/

/-- From `s` to `t` slot `k` became `sl`, with reports, and besides the notices and RPQ nothing else changed. -/
def State.SlotWork (s t : State) (k : Fin 32) (sl : Slot) (reports : List Report) : Prop :=
  t.quantity = { s.quantity with slots := s.quantity.slots.set k sl } ∧
    t.ctrl = { s.ctrl with reports := s.ctrl.reports ++ reports } ∧ s.OnlyRpq t ∧
    { t with quantity := s.quantity, ctrl := s.ctrl, notice := s.notice, port := s.port } = s

theorem State.SlotWork.none_ (s : State) (k : Fin 32) : s.SlotWork s k s.quantity.slots[k] [] := by
  refine ⟨?_, ?_, rfl, rfl⟩
  · rw [Fin.getElem_fin, Vector.set_getElem_self]
  · rw [List.append_nil]

/-- A raise goes with any work. -/
theorem State.SlotWork.raise {s t : State} {k : Fin 32} {sl : Slot} {reports : List Report} (h : s.SlotWork t k sl reports)
    (n : Nat) (kind : NoticeKind) (d : Detail) : s.SlotWork (t.raiseWith n kind d) k sl reports := by
  obtain ⟨quantity, ctrl, only, rest⟩ := h
  have same := raiseWith_rest n kind d t
  refine ⟨(congrArg State.quantity same :).trans quantity, (congrArg State.ctrl same :).trans ctrl,
    only.trans (raiseWith_raisedFrom n kind d t).onlyRpq, ?_⟩
  exact (congrArg (fun x : State => { x with
    quantity := s.quantity, ctrl := s.ctrl, notice := s.notice, port := s.port }) same :).trans rest

/-- A slot set, and reported as it then is seen. -/
theorem slotWork_onSlot (s : State) (k : Fin 32) (f : Slot → Slot) :
    s.SlotWork (s.onSlot k f) k (f s.quantity.slots[k]) [] :=
  ⟨rfl, by rw [List.append_nil]; rfl, rfl, rfl⟩

theorem slotWork_reportSlot (s : State) (k : Fin 32) (f : Slot → Slot) :
    s.SlotWork ((s.onSlot k f).reportSlot k) k (f s.quantity.slots[k]) [.slot k ((s.onSlot k f).slotSeen k).view] :=
  ⟨rfl, rfl, rfl, rfl⟩

theorem slotSeen_onSlot {s : State} {k : Fin 32} (good : s.isFaulted (.slotSetup k) = false) (f : Slot → Slot) :
    (s.onSlot k f).slotSeen k = f s.quantity.slots[k] := by
  rw [State.slotSeen, if_neg (by rw [show (s.onSlot k f).isFaulted (.slotSetup k) = s.isFaulted (.slotSetup k) from rfl, good]
                                 decide)]
  simp [State.onSlot]

/-! ### The slot made FAULT -/

/-- The state once a slot is made FAULT. -/
def State.slotFaulted (k : Fin 32) (s : State) : State :=
  if s.quantity.slots[k].status = .fault then s.onSlot k Slot.toFault
  else if s.isRoleSlot k then
    ((s.onSlot k Slot.toFault).reportSlot k).raiseWith s.paramsSeen.escalation .inputLost (.slot k)
  else (s.onSlot k Slot.toFault).reportSlot k

theorem slotToFault_runs {s : State} (known : s.Known .params) (k : Fin 32) :
    Act.Runs s (slotToFault k) () (s.slotFaulted k) [] := by
  unfold slotToFault State.slotFaulted
  refine .bind (es := []) (.look_ _ fun _ => rfl) (.bind (es := []) (.upd_ _ rfl rfl fun _ => rfl) ?_)
  cases was : s.quantity.slots[k].status
  case fault => exact .pure_ _ ()
  all_goals
    refine .bind (es := []) (.upd_ _ rfl rfl fun _ => rfl) ?_
    unfold raiseInputLost
    refine .bind (es := []) (.look_ _ fun _ => rfl) ?_
    rw [show ((s.onSlot k Slot.toFault).reportSlot k).isRoleSlot k = s.isRoleSlot k from rfl]
    cases s.isRoleSlot k
    · exact .pure_ _ ()
    · refine Act.Runs.raise_ ?_ _ _
      exact known.of_tables rfl

/-- The view of a slot made FAULT. -/
theorem toFault_seen_view (s : State) (k : Fin 32) : ((s.onSlot k Slot.toFault).slotSeen k).view =
    ⟨.fault, s.quantity.slots[k].compA.isSet, s.quantity.slots[k].compB.isSet⟩ := by
  have slot : (s.onSlot k Slot.toFault).quantity.slots[k] = s.quantity.slots[k].toFault := by
    simp [State.onSlot]
  unfold State.slotSeen
  split
  · rw [slot]
    rfl
  · rw [slot]
    rfl

theorem slotFaulted_work (s : State) (k : Fin 32) : s.SlotWork (s.slotFaulted k) k s.quantity.slots[k].toFault
    (if s.quantity.slots[k].status = .fault then []
      else [.slot k ⟨.fault, s.quantity.slots[k].compA.isSet, s.quantity.slots[k].compB.isSet⟩]) := by
  unfold State.slotFaulted
  have reported := slotWork_reportSlot s k Slot.toFault
  rw [toFault_seen_view] at reported
  split
  · exact slotWork_onSlot s k Slot.toFault
  · split
    · exact reported.raise ..
    · exact reported

theorem slotFaulted_raised {s : State} {k : Fin 32} (first : s.quantity.slots[k].status ≠ .fault)
    (role : s.isRoleSlot k = true) : s.RaisedFrom (s.slotFaulted k) .inputLost (.slot k) s.paramsSeen.escalation := by
  unfold State.slotFaulted
  rw [if_neg first, if_pos role]
  exact (raiseWith_raisedFrom _ _ _ ((s.onSlot k Slot.toFault).reportSlot k)).congr rfl rfl rfl rfl

theorem slotFaulted_calm {s : State} {k : Fin 32} (none_ : s.quantity.slots[k].status = .fault ∨ s.isRoleSlot k = false) :
    (s.slotFaulted k).notice = s.notice ∧ (s.slotFaulted k).port = s.port := by
  unfold State.slotFaulted
  rcases none_ with fault | unbound
  · rw [if_pos fault]
    exact ⟨rfl, rfl⟩
  · rw [unbound]
    split <;> exact ⟨rfl, rfl⟩

/-! ### A value rejected -/

/-- The state once a value is rejected. -/
def State.slotRejected (k : Fin 32) (f : Slot → Slot) (s : State) : State :=
  if s.quantity.slots[k].status = (f s.quantity.slots[k]).countReject.status then
    s.onSlot k fun sl => (f sl).countReject
  else ((s.onSlot k fun sl => (f sl).countReject).reportSlot k).raiseWith s.paramsSeen.escalation .inputSuspect (.slot k)

theorem rejectReading_runs {s : State} (known : s.Known .params) (k : Fin 32) (f : Slot → Slot) :
    Act.Runs s (rejectReading k f) () (s.slotRejected k f) [] := by
  unfold rejectReading State.slotRejected
  refine .bind (es := []) (.look_ _ fun _ => rfl) (.bind (es := []) (.upd_ _ rfl rfl fun _ => rfl)
    (.bind (es := []) (.look_ _ fun _ => rfl) ?_))
  have now : (s.onSlot k fun sl => (f sl).countReject).quantity.slots[k].status =
      (f s.quantity.slots[k]).countReject.status := by simp [State.onSlot]
  rw [now]
  by_cases same : s.quantity.slots[k].status = (f s.quantity.slots[k]).countReject.status
  · rw [if_pos same, show (s.quantity.slots[k].status != (f s.quantity.slots[k]).countReject.status) = false by simpa using same]
    exact .pure_ _ ()
  · rw [if_neg same, show (s.quantity.slots[k].status != (f s.quantity.slots[k]).countReject.status) = true by simpa using same]
    refine .bind (es := []) (.upd_ _ rfl rfl fun _ => rfl) ?_
    refine Act.Runs.raise_ ?_ _ _
    exact known.of_tables rfl

theorem slotRejected_work {s : State} {k : Fin 32} (good : s.isFaulted (.slotSetup k) = false) (f : Slot → Slot) :
    s.SlotWork (s.slotRejected k f) k (f s.quantity.slots[k]).countReject
      (if (f s.quantity.slots[k]).countReject.status = s.quantity.slots[k].status then []
        else [.slot k (f s.quantity.slots[k]).countReject.view]) := by
  unfold State.slotRejected
  have reported := slotWork_reportSlot s k fun sl => (f sl).countReject
  rw [slotSeen_onSlot good] at reported
  by_cases same : s.quantity.slots[k].status = (f s.quantity.slots[k]).countReject.status
  · rw [if_pos same, if_pos same.symm]
    exact slotWork_onSlot ..
  · rw [if_neg same, if_neg (Ne.symm same)]
    exact reported.raise ..

theorem slotRejected_raised {s : State} {k : Fin 32} {f : Slot → Slot}
    (new : (f s.quantity.slots[k]).countReject.status ≠ s.quantity.slots[k].status) :
    (s.slotRejected k f).Raised .inputSuspect (.slot k) := by
  unfold State.slotRejected
  rw [if_neg (Ne.symm new)]
  exact (raiseWith_raisedFrom ..).raised

/-! ### A value accepted -/

/-- The state once a value is accepted. -/
def State.slotAccepted (k : Fin 32) (setup : SlotSetup) (v : Int) (s : State) : State :=
  (s.onSlot k fun sl => sl.accept setup v).reportSlot k

theorem slotAccepted_work {s : State} {k : Fin 32} (good : s.isFaulted (.slotSetup k) = false) (setup : SlotSetup) (v : Int) :
    s.SlotWork (s.slotAccepted k setup v) k (s.quantity.slots[k].accept setup v)
      [.slot k (s.quantity.slots[k].accept setup v).view] := by
  have reported := slotWork_reportSlot s k fun sl => sl.accept setup v
  rw [slotSeen_onSlot good] at reported
  exact reported

end Sys2Proof.Machine
end

section
/-! SUPPORT. A reading taken. -/
namespace Sys2Proof.Machine
open Sys2Proof

/-! ### A reading delivered to its slot -/

section
variable {s : State} {k : Fin 32} {v : Int}

theorem deliverReading_faulted (sensor : SensorState) (faulted : s.isFaulted (.slotSetup k) = true) :
    Act.Runs s (deliverReading k v sensor) () s [.rejectState] := by
  have known : s.Known (.slotSetup k) := fun no => by rw [faulted] at no; cases no
  unfold deliverReading
  refine .bind (es := []) (.readSetup_ known) ?_
  rw [State.setupSeen, if_pos faulted]
  exact .give_ ..

variable (known : s.Known (.slotSetup k)) (good : s.isFaulted (.slotSetup k) = false)
include known good

theorem deliverReading_unused (sensor : SensorState) (unused : s.quantity.setups[k].content.kind = .unused) :
    Act.Runs s (deliverReading k v sensor) () s [.rejectRange] := by
  unfold deliverReading
  refine .bind (es := []) (.readSetup_ known) ?_
  rw [State.setupSeen, if_neg (by rw [good]; decide)]
  dsimp only
  rw [if_pos unused]
  exact .give_ ..

variable (used : s.quantity.setups[k].content.kind ≠ .unused)
include used

theorem deliverReading_warming : Act.Runs s (deliverReading k v .warming) () s [.rejectState] := by
  unfold deliverReading
  refine .bind (es := []) (.readSetup_ known) ?_
  rw [State.setupSeen, if_neg (by rw [good]; decide)]
  dsimp only
  rw [if_neg used]
  exact .give_ ..

theorem deliverReading_judged {t : State} {es : List SubEvent}
    (judged : Act.Runs s (judgeReading k s.quantity.setups[k].content v) () t es) :
    Act.Runs s (deliverReading k v .ok) () t es := by
  unfold deliverReading
  refine .bind (es := []) (.readSetup_ known) ?_
  rw [State.setupSeen, if_neg (by rw [good]; decide)]
  dsimp only
  rw [if_neg used]
  exact judged

variable (params : s.Known .params)
include params

theorem deliverReading_fault : Act.Runs s (deliverReading k v .fault) () (s.slotFaulted k) [.rejectState] := by
  unfold deliverReading
  refine .bind (es := []) (.readSetup_ known) ?_
  rw [State.setupSeen, if_neg (by rw [good]; decide)]
  dsimp only
  rw [if_neg used]
  exact .bind (es := []) (slotToFault_runs params k) (.give_ ..)

theorem deliverReading_rejectRange (verdict : judge s.quantity.setups[k].content s.quantity.slots[k] v = .rejectRange) :
    Act.Runs s (deliverReading k v .ok) () (s.slotRejected k id) [.rejectRange] := by
  refine deliverReading_judged known good used ?_
  unfold judgeReading
  refine .bind (es := []) (.look_ _ fun _ => rfl) ?_
  rw [verdict]
  exact .bind (es := []) (rejectReading_runs params k id) (.give_ ..)

theorem deliverReading_rejectStep (verdict : judge s.quantity.setups[k].content s.quantity.slots[k] v = .rejectStep) :
    Act.Runs s (deliverReading k v .ok) () (s.slotRejected k fun sl => { sl with pendingJump := some v }) [.rejectStep] := by
  refine deliverReading_judged known good used ?_
  unfold judgeReading
  refine .bind (es := []) (.look_ _ fun _ => rfl) ?_
  rw [verdict]
  exact .bind (es := []) (rejectReading_runs params k _) (.give_ ..)

omit params in
theorem deliverReading_accepted (verdict : judge s.quantity.setups[k].content s.quantity.slots[k] v = .accepted) :
    Act.Runs s (deliverReading k v .ok) () (s.slotAccepted k s.quantity.setups[k].content v) [.accepted] := by
  refine deliverReading_judged known good used ?_
  unfold judgeReading
  refine .bind (es := []) (.look_ _ fun _ => rfl) ?_
  rw [verdict]
  exact .bind (es := []) (.upd_ _ rfl rfl fun _ => rfl) (.bind (es := []) (.upd_ _ rfl rfl fun _ => rfl) (.give_ ..))

end

/-! ### The entry that takes it -/

theorem hasKey_iff (src ch : Nat) (c : MapContent) :
    hasKey src ch (some c) = true ↔ c.valid = true ∧ c.source = src ∧ c.channel = ch := by
  simp [hasKey, and_assoc]

theorem lookup_key {s : State} {src ch : Nat} {i : Fin 64} (key : s.KeyAt src ch i)
    (good : s.isFaulted (.channelMap i) = false) :
    mapIndexes.find? (fun j => hasKey src ch (s.mapSeen j)) = some i := by
  have here : hasKey src ch (s.mapSeen i) = true := by
    rw [State.mapSeen, if_neg (by rw [good]; decide), hasKey_iff]
    exact (key i).2 rfl
  have only (j : Fin 64) (h : hasKey src ch (s.mapSeen j) = true) : j = i := by
    rw [State.mapSeen] at h
    split at h
    · cases h
    · exact (key j).1 ((hasKey_iff ..).1 h)
  cases found : mapIndexes.find? (fun j => hasKey src ch (s.mapSeen j)) with
  | none => exact absurd here (List.find?_eq_none.1 found i (List.mem_finRange i))
  | some j => rw [only j (List.find?_some (p := fun j => hasKey src ch (s.mapSeen j)) found)]

theorem lookup_missing {s : State} {src ch : Nat} (none_ : ∀ i, hasKey src ch (s.mapSeen i) = false) :
    mapIndexes.find? (fun j => hasKey src ch (s.mapSeen j)) = none :=
  List.find?_eq_none.2 fun j _ => by rw [none_ j]; decide

/-- The forward rule of a passing frame. -/
theorem forwardDue_eq (s : State) (i : Fin 64) (passing : Bool) : s.forwardDue i passing =
    if passing then thinStep s.intake.map[i].content.rule s.intake.dyn[i].thin else (s.intake.dyn[i].thin, false) := by
  unfold State.forwardDue thinStep
  cases s.intake.map[i].content.rule <;> cases passing <;> rfl

/-- The last tag taken. -/
def State.tagTaken (i : Fin 64) (tag : Byte) (s : State) : State := s.onMapDyn i fun d => { d with lastTag := some tag }

/-- The thin counter and the last tag as a reading leaves them. -/
def State.mapTaken (i : Fin 64) (n : Nat) (tag : Byte) (s : State) : State :=
  s.onIntake fun u => { u with dyn := u.dyn.set i ⟨n, some tag⟩ }

theorem takeMatched_runs {s t : State} {i : Fin 64} {tag : Byte} {rd : Reading} {es : List SubEvent} (passing : Bool)
    (intake : t.intake = (s.tagTaken i tag).intake)
    (deliver : Act.Runs (s.tagTaken i tag) (deliverReading s.intake.map[i].content.slot
      (scale rd.raw s.intake.map[i].content.gain s.intake.map[i].content.offset) rd.sensor) () t es) :
    Act.Runs s (takeMatched i tag passing rd) (s.forwardDue i passing).2 (t.mapTaken i (s.forwardDue i passing).1 tag) es := by
  have now : t.intake.dyn[i] = { s.intake.dyn[i] with lastTag := some tag } := by
    rw [intake]
    simp [State.tagTaken, State.onMapDyn, State.onIntake]
  unfold takeMatched
  refine .bind (es := []) (.upd_ (State.onMapDyn i fun d => { d with lastTag := some tag }) rfl rfl fun _ => rfl)
    (.bind (es := []) (.look_ _ fun _ => rfl) ?_)
  rw [← List.append_nil es]
  refine .bind deliver ?_
  rw [forwardDue_eq]
  cases passing
  · have same : t.mapTaken i s.intake.dyn[i].thin tag = t := by
      have back : t.intake.dyn.set i ⟨s.intake.dyn[i].thin, some tag⟩ = t.intake.dyn :=
        (congrArg (fun d => t.intake.dyn.set i d) now.symm).trans (Vector.set_getElem_self ..)
      exact congrArg (fun d => ({ t with intake := { t.intake with dyn := d } } : State)) back
    refine Eq.mp (congrArg (fun x => Act.Runs t (pure false) false x []) same.symm) ?_
    exact .pure_ ..
  · unfold forwardCall
    have thin : t.intake.dyn[i].thin = s.intake.dyn[i].thin := (congrArg MapDyn.thin now).trans rfl
    have taken : t.onMapDyn i (fun d => { d with thin := (thinStep s.intake.map[i].content.rule s.intake.dyn[i].thin).1 }) =
        t.mapTaken i (thinStep s.intake.map[i].content.rule s.intake.dyn[i].thin).1 tag := by
      refine congrArg (fun d => ({ t with intake := { t.intake with dyn := t.intake.dyn.set i d } } : State)) ?_
      rw [now]
    refine .bind (es := []) (.look_ _ fun _ => rfl) ?_
    rw [thin]
    refine .bind (es := []) (.upd_ _ rfl rfl fun _ => rfl) ?_
    have rule : (s.tagTaken i tag).intake.map[i].content.rule = s.intake.map[i].content.rule := rfl
    refine Eq.mp (congrArg (fun x => Act.Runs x (pure _) _ _ []) taken.symm) ?_
    exact .pure_ ..

/-! ### A reading of a frame -/

section
variable {s : State} {src tag : Byte} {rd : Reading} (passing : Bool) (act : UnmappedAction)
  (known : ∀ i : Fin 64, s.Known (.channelMap i))
include known

theorem takeReading_unmapped (none_ : ∀ i, hasKey src.toNat rd.channel (s.mapSeen i) = false) :
    Act.Runs s (takeReading src tag passing act rd) (passing && act == .pass) s [.unmapped] := by
  unfold takeReading
  refine .bind (es := []) (.lookup_ _ _ _ fun i _ => known i) ?_
  rw [lookup_missing none_]
  exact .bind (es := [.unmapped]) (.give_ ..) (.pure_ ..)

variable {i : Fin 64} (key : s.KeyAt src.toNat rd.channel i) (good : s.isFaulted (.channelMap i) = false)
include key good

theorem takeReading_duplicate (last : s.intake.dyn[i].lastTag = some tag) :
    Act.Runs s (takeReading src tag passing act rd) false s [.duplicate] := by
  unfold takeReading
  refine .bind (es := []) (.lookup_ _ _ _ fun i _ => known i) ?_
  rw [lookup_key key good]
  refine .bind (es := []) (.look_ _ fun _ => rfl) ?_
  rw [if_pos last]
  exact .bind (es := [.duplicate]) (.give_ ..) (.pure_ ..)

theorem takeReading_matched (new : s.intake.dyn[i].lastTag ≠ some tag) {x : Bool} {t : State} {es : List SubEvent}
    (matched : Act.Runs s (takeMatched i tag passing rd) x t es) :
    Act.Runs s (takeReading src tag passing act rd) x t es := by
  unfold takeReading
  refine .bind (es := []) (.lookup_ _ _ _ fun i _ => known i) ?_
  rw [lookup_key key good]
  refine .bind (es := []) (.look_ _ fun _ => rfl) ?_
  rw [if_neg new]
  exact matched

end

theorem takeReadings_one {s t : State} {src tag : Byte} {passing x : Bool} {act : UnmappedAction} {rd : Reading}
    {es : List SubEvent} (first : Act.Runs s (takeReading src tag passing act rd) x t es) :
    Act.Runs s (takeReadings src tag passing act [rd]) x t es := by
  unfold takeReadings
  rw [← List.append_nil es, ← Bool.or_false x]
  exact .bind first (.bind (es := []) (.pure_ ..) (.pure_ ..))

theorem takeReadings_cons {s t r : State} {src tag : Byte} {passing x y : Bool} {act : UnmappedAction} {rd : Reading}
    {rds : List Reading} {es fs : List SubEvent} (first : Act.Runs s (takeReading src tag passing act rd) x t es)
    (rest : Act.Runs t (takeReadings src tag passing act rds) y r fs) :
    Act.Runs s (takeReadings src tag passing act (rd :: rds)) (x || y) r (es ++ fs) := by
  unfold takeReadings
  rw [← List.append_nil fs]
  exact .bind first (.bind rest (.pure_ ..))

end Sys2Proof.Machine
end

section
/-! SUPPORT. A SAMPLE frame taken and forwarded. -/
namespace Sys2Proof.Machine
open Sys2Proof

/-- A passing frame whose source is out of the Sample Window is offered whole. -/
theorem takeSample_outside {s : State} {f : Frame} (known : s.Known .params)
    (outside : inWindow s.paramsSeen f.src.toNat = false) {v : Event} (like : v.state.tables = s.tables) :
    takeSample f true v = offerFwq f v := by
  have seen : v.state.paramsSeen = s.paramsSeen := paramsSeen_of_tables like
  rw [takeSample, Act.bind_ok (readParams_known (known.of_tables like)), seen, outside]
  rfl

section
variable {s z : State} {f : Frame} {passing call : Bool} {es : List SubEvent} {readings : List Reading}
  (known : s.Known .params) (payload : readingsOf f.payload = some readings)
  (inside : passing = true → inWindow s.paramsSeen f.src.toNat = true)
  (taken : Act.Runs s (takeReadings f.src f.tag passing s.paramsSeen.unmappedAction readings) call z es)
include known payload inside taken

/-- The readings of a frame taken, the frame is offered if one of them calls for it. -/
theorem takeSample_run (e : SubEvent) : takeSample f passing ((⟨s, []⟩ : Event).give e) =
    onlyIf call (offerFwq f) ((⟨z, []⟩ : Event).giveAll (e :: es)) := by
  have within : (passing && !inWindow s.paramsSeen f.src.toNat) = false := by
    cases passing
    · rfl
    · rw [inside rfl]
      rfl
  have params : readParams ((⟨s, []⟩ : Event).give e) = .ok s.paramsSeen ((⟨s, []⟩ : Event).give e) :=
    readParams_known (v := (⟨s, []⟩ : Event).give e) (known.of_tables rfl)
  rw [takeSample, Act.bind_ok params, within, payload]
  exact Act.bind_ok (taken.after_give e)

/-- The state a SAMPLE frame leaves. -/
theorem takeSample_settled (e : SubEvent) : ∃ w : Event, takeSample f passing ((⟨s, []⟩ : Event).give e) = .ok () w ∧
    w.settled = if call = true then
      if z.port.fwq.length < 16 then (z.onPort fun p => { p with fwq := p.fwq ++ [f] }).countAll (e :: es)
      else (z.countAll (e :: es ++ [.fqDrop])).raiseRecord .queueDrop (.queue .fwq)
    else z.countAll (e :: es) := by
  rw [takeSample_run known payload inside taken e]
  obtain ⟨u, o, given, given'⟩ := giveAll_withTally (s := z) (t := z.onPort fun p => { p with fwq := p.fwq ++ [f] })
    rfl (e :: es) z.tally []
  have start : (⟨z, []⟩ : Event).giveAll (e :: es) = ⟨z.withTally u, o⟩ := given
  have finish : (⟨z.onPort fun p => { p with fwq := p.fwq ++ [f] }, []⟩ : Event).giveAll (e :: es) =
      ⟨(z.onPort fun p => { p with fwq := p.fwq ++ [f] }).withTally u, o⟩ := given'
  cases call
  · exact ⟨_, rfl, rfl⟩
  · rw [if_pos rfl]
    by_cases room : z.port.fwq.length < 16
    · rw [if_pos room, start]
      refine ⟨_, offerFwq_run_room (v := ⟨z.withTally u, o⟩) room f, ?_⟩
      rw [State.countAll, ← Event.giveAll, finish]
      rfl
    · rw [if_neg room, start]
      refine ⟨_, offerFwq_run_full (v := ⟨z.withTally u, o⟩) (not_lt.1 room) f, ?_⟩
      have appended : (⟨z, []⟩ : Event).giveAll (e :: es ++ [.fqDrop]) = (⟨z.withTally u, o⟩ : Event).give .fqDrop := by
        rw [Event.giveAll, List.foldl_append]
        exact congrArg (fun v => Event.give .fqDrop v) start
      exact (congrArg (fun v : Event => v.settled.raiseRecord .queueDrop (.queue .fwq)) appended).symm

end

/-! ### The frame forwarded -/

/-- What a frame's arrival leaves of the state its readings leave. -/
def State.Passed (s z t : State) (f : Frame) (call : Bool) (es : List SubEvent) : Prop :=
  s.Forwarded t f call es ∧ (∀ k, k ≠ .tallyOverflow → k ≠ .queueDrop → t.noticeRecord k = z.noticeRecord k) ∧
    { t with tally := z.tally, notice := z.notice, port := z.port } = z

theorem State.OnlyRpq.port_eq {s t : State} (h : s.OnlyRpq t) : t.port = { s.port with rpq := t.port.rpq } :=
  (congrArg (fun p : PortUnit => { p with rpq := t.port.rpq }) h :)

/-- The events counted over two states of one tally and mode. -/
theorem countAll_tally_congr {s z : State} (tally : z.tally = s.tally) (mode : z.ctrl.mode = s.ctrl.mode)
    (es : List SubEvent) : (z.countAll es).tally = (s.countAll es).tally := by
  rw [State.countAll_tally, State.countAll_tally, tally, mode]

section
variable {s z : State} {f : Frame} {es : List SubEvent} (only : s.OnlyRpq z) (tally : z.tally = s.tally)
  (mode : z.ctrl.mode = s.ctrl.mode)
include only tally mode

theorem passed_kept : s.Passed z (z.countAll es) f false es := by
  obtain ⟨only', others, rest⟩ := countAll_only es z
  refine ⟨⟨?_, ?_, fun no => (by cases no)⟩, fun k h _ => others k h, rest⟩
  · rw [Bool.false_and, if_neg (by decide), List.append_nil]
    exact (only.trans only').port_eq
  · rw [Bool.false_and, if_neg (by decide), List.append_nil]
    exact countAll_tally_congr tally mode es

theorem passed_offered (room : z.port.fwq.length < 16) :
    s.Passed z ((z.onPort fun p => { p with fwq := p.fwq ++ [f] }).countAll es) f true es := by
  have fwq : z.port.fwq = s.port.fwq := (congrArg PortUnit.fwq only :)
  have full : decide (16 ≤ s.port.fwq.length) = false := decide_eq_false (not_le.2 (fwq ▸ room))
  obtain ⟨only', others, rest⟩ := countAll_only es (z.onPort fun p => { p with fwq := p.fwq ++ [f] })
  refine ⟨⟨?_, ?_, ?_⟩, fun k h _ => others k h, ?_⟩
  · rw [full]
    refine only'.port_eq.trans ?_
    have before := only.port_eq
    generalize ((z.onPort fun p => { p with fwq := p.fwq ++ [f] }).countAll es).port.rpq = q
    exact (congrArg (fun p : PortUnit => { p with rpq := q, fwq := p.fwq ++ [f] }) before :)
  · rw [full, Bool.and_false, if_neg (by decide), List.append_nil]
    exact countAll_tally_congr (z := z.onPort fun p => { p with fwq := p.fwq ++ [f] }) tally mode es
  · rw [full]
    exact fun no => (by cases no)
  · generalize (z.onPort fun p => { p with fwq := p.fwq ++ [f] }).countAll es = t at rest
    exact (congrArg (fun x : State => { x with port := z.port }) rest :)

theorem passed_lost (noRoom : 16 ≤ z.port.fwq.length) :
    s.Passed z ((z.countAll (es ++ [.fqDrop])).raiseRecord .queueDrop (.queue .fwq)) f true es := by
  have fwq : z.port.fwq = s.port.fwq := (congrArg PortUnit.fwq only :)
  have full : decide (16 ≤ s.port.fwq.length) = true := decide_eq_true (fwq ▸ noRoom)
  obtain ⟨only', others, rest⟩ := countAll_only (es ++ [.fqDrop]) z
  have raised := raiseRecord_raisedFrom .queueDrop (.queue .fwq) (z.countAll (es ++ [.fqDrop]))
  have same := raiseRecord_rest .queueDrop (.queue .fwq) (z.countAll (es ++ [.fqDrop]))
  refine ⟨⟨?_, ?_, fun _ => raiseRecord_raised ..⟩, fun k h h' => ?_, ?_⟩
  · rw [full, Bool.not_true, Bool.and_false, if_neg (by decide), List.append_nil]
    exact (only.trans (only'.trans raised.onlyRpq)).port_eq
  · rw [full, Bool.and_true, if_pos rfl, State.raiseRecord_tally]
    exact countAll_tally_congr tally mode _
  · rw [raiseRecord_noticeRecord_other h', others k h]
  · generalize (z.countAll (es ++ [.fqDrop])).raiseRecord .queueDrop (.queue .fwq) = t at same
    generalize z.countAll (es ++ [.fqDrop]) = r at same rest
    exact (congrArg (fun x : State => { x with tally := z.tally, notice := z.notice, port := z.port }) same :).trans rest

theorem passed_settled {t : State} {call : Bool}
    (settled : t = if call = true then
      if z.port.fwq.length < 16 then (z.onPort fun p => { p with fwq := p.fwq ++ [f] }).countAll es
      else (z.countAll (es ++ [.fqDrop])).raiseRecord .queueDrop (.queue .fwq)
    else z.countAll es) : s.Passed z t f call es := by
  subst settled
  cases call
  · exact passed_kept only tally mode
  · rw [if_pos rfl]
    split
    next room => exact passed_offered only tally mode room
    next noRoom => exact passed_lost only tally mode (not_lt.1 noRoom)

end

/-! ### A SAMPLE frame's arrival -/

section
variable {s z : State} {c : Instr} {f : Frame} {passing call : Bool} {es : List SubEvent} {readings : List Reading}
  (alive : s.alive = true) (awake : s.mgmt.opState ≠ .parked) (good : s.ParamsGood)
  (arrives : s.SampleArrives c f passing) (payload : readingsOf f.payload = some readings)
  (taken : Act.Runs s (takeReadings f.src f.tag passing s.mgmt.params.content.unmappedAction readings) call z es)
include alive awake good arrives payload taken

/-- The arrival of a SAMPLE frame the device classifies, its readings taken into `z`. -/
theorem exec_sampleArrives_settled : exec c s = .next (if call = true then
      if z.port.fwq.length < 16 then (z.onPort fun p => { p with fwq := p.fwq ++ [f] }).countAll (.rxGood :: es)
      else (z.countAll (.rxGood :: es ++ [.fqDrop])).raiseRecord .queueDrop (.queue .fwq)
    else z.countAll (.rxGood :: es)) := by
  obtain ⟨sample, r, classified, ways⟩ := arrives
  have params : s.paramsSeen = s.mgmt.params.content := good.paramsSeen
  have inside : passing = true → inWindow s.paramsSeen f.src.toNat = true := by
    intro yes
    rw [params]
    rcases ways with ⟨_, _, _, no⟩ | ⟨_, _, _, no⟩ | ⟨_, _, _, low, high, _⟩
    · rw [yes] at no; cases no
    · rw [yes] at no; cases no
    · rw [inWindow, decide_eq_true low, decide_eq_true high]
      rfl
  rw [← params] at taken
  obtain ⟨w, run, settled⟩ := takeSample_settled good.known payload inside taken .rxGood
  rw [← settled]
  rcases ways with ⟨rfl, taking, dest, rfl⟩ | ⟨⟨busy, rfl⟩, taking, dest, rfl⟩ | ⟨rfl, taking, dest, _, _, rfl⟩
  · refine exec_dnArrival_good alive awake taking classified ?_
    rw [dest, sample]
    exact run
  · refine exec_upArrival_good alive awake taking classified ?_
    rw [dest, sample]
    exact run
  · refine exec_dnArrival_good alive awake taking classified ?_
    rcases dest with dest | dest <;>
    · rw [dest, sample]
      exact run

omit taken in
/-- None of the readings calls for forwarding. -/
theorem exec_sampleArrives_kept
    (taken : Act.Runs s (takeReadings f.src f.tag passing s.mgmt.params.content.unmappedAction readings) false z es) :
    exec c s = .next (z.countAll (.rxGood :: es)) :=
  (exec_sampleArrives_settled alive awake good arrives payload taken).trans (congrArg _ (if_neg Bool.false_ne_true))

theorem exec_sampleArrives (only : s.OnlyRpq z) : ∃ t, exec c s = .next t ∧ s.Passed z t f call (.rxGood :: es) :=
  ⟨_, exec_sampleArrives_settled alive awake good arrives payload taken, passed_settled only taken.1 taken.2.1 rfl⟩

end

end Sys2Proof.Machine
end

section
/-! SUPPORT. The verdict on a value, and a frame of one reading. -/
namespace Sys2Proof.Machine
open Sys2Proof

/-! ### The verdict -/

section
variable {setup : SlotSetup} {sl : Slot} {v : Int}

theorem judge_outside (out : v < setup.min ∨ setup.max < v) : judge setup sl v = .rejectRange := by
  simp [judge, out]

theorem SlotStatus.usable_iff (st : SlotStatus) : st.usable = true ↔ st = .fresh ∨ st = .suspect := by
  cases st <;> simp [SlotStatus.usable]

variable (low : setup.min ≤ v) (high : v ≤ setup.max)
include low high

theorem judge_stepped {l : Int} (checked : (sl.status = .fresh ∨ sl.status = .suspect) ∧ 0 < setup.step)
    (value : sl.value = some l) (far : ¬(v - l).natAbs ≤ setup.step)
    (away : ∀ p, sl.pendingJump = some p → ¬(v - p).natAbs ≤ setup.step) : judge setup sl v = .rejectStep := by
  obtain ⟨usable, step⟩ := checked
  rw [judge, decide_eq_false (not_lt.2 low), decide_eq_false (not_lt.2 high), (SlotStatus.usable_iff _).2 usable,
    decide_eq_true step, value]
  cases pending : sl.pendingJump with
  | none => simp [within, far]
  | some p => simp [within, far, away p pending]

theorem judge_accepted (h : ¬((sl.status = .fresh ∨ sl.status = .suspect) ∧ 0 < setup.step) ∨
      (∃ l, sl.value = some l ∧ (v - l).natAbs ≤ setup.step) ∨
      (∃ p, sl.pendingJump = some p ∧ (v - p).natAbs ≤ setup.step)) : judge setup sl v = .accepted := by
  rw [judge, decide_eq_false (not_lt.2 low), decide_eq_false (not_lt.2 high), Bool.or_self, if_neg Bool.false_ne_true]
  rcases h with unchecked | ⟨l, value, near⟩ | ⟨p, pending, near⟩
  · rw [if_neg]
    intro checked
    obtain ⟨usable, step⟩ := Bool.and_eq_true_iff.1 checked
    exact unchecked ⟨(SlotStatus.usable_iff _).1 usable, of_decide_eq_true step⟩
  · rw [value]
    simp [within, near]
  · rw [pending]
    cases sl.value <;> simp [within, near]

end

theorem countReject_eq (sl : Slot) : sl.countReject = { sl with
    rejects := min 255 (sl.rejects + 1)
    status := if 3 ≤ sl.rejects + 1 ∧ sl.status = .fresh then .suspect else sl.status } := by
  have third : 3 ≤ min 255 (sl.rejects + 1) ↔ 3 ≤ sl.rejects + 1 := by omega
  simp [Slot.countReject, third]

/-- The history with a value appended begins, from behind, as it did. -/
theorem appendHistory_reverse (xs : List Int) (a b v : Int) :
    ∃ ys, (appendHistory ((xs ++ [a]) ++ [b]) v).reverse = v :: b :: a :: ys := by
  unfold appendHistory
  split
  · exact ⟨xs.reverse, by simp⟩
  · cases xs with
    | nil => simp_all
    | cons y ys => exact ⟨ys.reverse, by simp⟩

theorem median3_comm (a b v : Int) : median3 v b a = max (min a b) (min (max a b) v) := by
  unfold median3
  omega

/-- The value the comparators see of an accepted value. -/
theorem seenValue_appended {setup : SlotSetup} {h : List Int} {v x : Int}
    (plain : setup.smoothing = .none ∨ h.length < 2 → x = v)
    (median : setup.smoothing = .median3 → ∀ xs a b, h = xs ++ [a, b] → x = max (min a b) (min (max a b) v)) :
    seenValue setup.smoothing (appendHistory h v) v = x := by
  cases smoothing : setup.smoothing with
  | none => exact (plain (.inl smoothing)).symm
  | median3 =>
    rcases List.eq_nil_or_concat h with rfl | ⟨ys, b, rfl⟩
    · exact (plain (.inr (by decide))).symm
    · rcases List.eq_nil_or_concat ys with rfl | ⟨xs, a, rfl⟩
      · exact (plain (.inr (by simp))).symm
      · obtain ⟨ys, reversed⟩ := appendHistory_reverse xs a b v
        rw [median smoothing xs a b (by simp), ← median3_comm]
        simp only [List.concat_eq_append, seenValue, reversed]

/-! ### A frame of one reading -/

section
variable {s t : State} {c : Instr} {f : Frame} {passing : Bool} {rd : Reading} {i : Fin 64} {e : SubEvent} {sl : Slot}
  {reports : List Report} (alive : s.alive = true) (awake : s.mgmt.opState ≠ .parked) (params : s.ParamsGood)
  (entries : ∀ j : Fin 64, s.Known (.channelMap j)) (good : s.isFaulted (.channelMap i) = false)
  (arrives : s.SampleArrives c f passing) (payload : readingsOf f.payload = some [rd])
  (key : s.KeyAt f.src.toNat rd.channel i)
include alive awake params entries good arrives payload key

theorem took_duplicate (last : s.intake.dyn[i].lastTag = some f.tag) :
    ∃ t, exec c s = .next t ∧
      s.TookReading t f passing i .duplicate s.quantity.slots[s.intake.map[i].content.slot] [] := by
  have taken := takeReadings_one
    (takeReading_duplicate passing s.mgmt.params.content.unmappedAction entries key good last)
  obtain ⟨r, run, forwarded, others, same⟩ := exec_sampleArrives alive awake params arrives payload taken rfl
  have due : s.forwardDue i (passing && SubEvent.duplicate != .duplicate) = (s.intake.dyn[i].thin, false) := by
    rw [forwardDue_eq, bne_self_eq_false, Bool.and_false]
    rfl
  have back : s.intake.dyn.set i ⟨s.intake.dyn[i].thin, some f.tag⟩ = s.intake.dyn := by
    rw [← last]
    exact Vector.set_getElem_self ..
  refine ⟨r, run, ?_, ?_, ?_, ?_, ?_, ?_, ?_, ?_, ?_⟩
  · exact (congrArg State.quantity same :).trans (State.SlotWork.none_ s s.intake.map[i].content.slot).1
  · rw [due]
    exact (congrArg State.intake same :).trans (congrArg (fun d => { s.intake with dyn := d }) back).symm
  · rw [List.append_nil]
    exact (congrArg State.ctrl same :)
  · rw [due]
    exact forwarded
  · exact (congrArg State.timer same :)
  · exact (congrArg State.cmd same :)
  · exact (congrArg State.mgmt same :)
  · exact (congrArg State.integ same :)
  · exact (congrArg State.park same :)

/-- A reading taken does what its delivery does to the slot, and then its frame is forwarded. -/
theorem took_of_delivered (new : s.intake.dyn[i].lastTag ≠ some f.tag) (other : e ≠ .duplicate)
    (deliver : Act.Runs (s.tagTaken i f.tag) (deliverReading s.intake.map[i].content.slot
      (scale rd.raw s.intake.map[i].content.gain s.intake.map[i].content.offset) rd.sensor) () t [e])
    (work : (s.tagTaken i f.tag).SlotWork t s.intake.map[i].content.slot sl reports) :
    ∃ r, exec c s = .next r ∧ s.TookReading r f passing i e sl reports ∧
      ∀ k, k ≠ .tallyOverflow → k ≠ .queueDrop → r.noticeRecord k = t.noticeRecord k := by
  obtain ⟨quantity, ctrl, only, rest⟩ := work
  have intake : t.intake = (s.tagTaken i f.tag).intake := (congrArg State.intake rest :)
  have matched := takeMatched_runs passing intake deliver
  have taken := takeReadings_one (takeReading_matched passing s.mgmt.params.content.unmappedAction entries key good new matched)
  obtain ⟨r, run, forwarded, others, same⟩ := exec_sampleArrives alive awake params arrives payload taken only
  have due : passing = (passing && e != .duplicate) := by
    rw [show (e != .duplicate) = true by simpa using other, Bool.and_true]
  refine ⟨r, run, ⟨?_, ?_, ?_, ?_, ?_, ?_, ?_, ?_, ?_⟩, others⟩
  · exact (congrArg State.quantity same :).trans quantity
  · rw [← due]
    refine (congrArg State.intake same :).trans ?_
    have twice : (t.intake.dyn.set i ⟨(s.forwardDue i passing).1, some f.tag⟩) =
        s.intake.dyn.set i ⟨(s.forwardDue i passing).1, some f.tag⟩ := by
      rw [intake]
      exact Vector.set_set ..
    have map : t.intake.map = s.intake.map := (congrArg Intake.map intake :)
    exact congrArg₂ Intake.mk map twice
  · exact (congrArg State.ctrl same :).trans ctrl
  · rw [← due]
    exact forwarded
  · exact (congrArg State.timer same :).trans (congrArg State.timer rest :)
  · exact (congrArg State.cmd same :).trans (congrArg State.cmd rest :)
  · exact (congrArg State.mgmt same :).trans (congrArg State.mgmt rest :)
  · exact (congrArg State.integ same :).trans (congrArg State.integ rest :)
  · exact (congrArg State.park same :).trans (congrArg State.park rest :)

end

end Sys2Proof.Machine
end

section
/-! SUPPORT. A reading and its slot, verdict by verdict. -/
namespace Sys2Proof.Machine
open Sys2Proof

/-- What entry `i` makes of a raw value. -/
def State.valueOf (s : State) (i : Fin 64) (rd : Reading) : Int :=
  scale rd.raw s.intake.map[i].content.gain s.intake.map[i].content.offset

/-- A slot after one more rejection. -/
def Slot.rejected (sl : Slot) : Slot :=
  { sl with rejects := min 255 (sl.rejects + 1)
            status := if 3 ≤ sl.rejects + 1 ∧ sl.status = .fresh then .suspect else sl.status }

/-- The report of a slot whose status became `st`, its comparators as they were. -/
def Slot.statusReport (sl : Slot) (k : Fin 32) (st : SlotStatus) : List Report :=
  if st = sl.status then [] else [.slot k ⟨st, sl.compA.isSet, sl.compB.isSet⟩]

theorem raised_of_record {t r : State} {k : NoticeKind} {d : Detail} (h : t.Raised k d)
    (same : r.noticeRecord k = t.noticeRecord k) : r.Raised k d := by
  obtain ⟨pending, detail⟩ := h
  exact ⟨by rw [same]; exact pending, by rw [same]; exact detail⟩

section
variable {s : State} {c : Instr} {f : Frame} {passing : Bool} {rd : Reading} {i : Fin 64} {k : Fin 32}
  (alive : s.alive = true) (awake : s.mgmt.opState ≠ .parked) (u : s.Undamaged)
  (arrives : s.SampleArrives c f passing) (payload : readingsOf f.payload = some [rd])
  (key : s.KeyAt f.src.toNat rd.channel i) (new : s.intake.dyn[i].lastTag ≠ some f.tag)
  (slot : s.intake.map[i].content.slot = k)
include alive awake u arrives payload key new slot

theorem took_of_delivery {t : State} {e : SubEvent} {sl : Slot} {reports : List Report} (other : e ≠ .duplicate)
    (deliver : Act.Runs (s.tagTaken i f.tag) (deliverReading k (s.valueOf i rd) rd.sensor) () t [e])
    (work : (s.tagTaken i f.tag).SlotWork t k sl reports) :
    ∃ r, exec c s = .next r ∧ s.TookReading r f passing i e sl reports ∧
      ∀ k, k ≠ .tallyOverflow → k ≠ .queueDrop → r.noticeRecord k = t.noticeRecord k := by
  subst slot
  exact took_of_delivered alive awake u.paramsGood (fun j => u.known _) (u.isFaulted _) arrives payload key new other
    deliver work

theorem took_unused (unused : s.quantity.setups[k].content.kind = .unused) :
    ∃ t, exec c s = .next t ∧ s.TookReading t f passing i .rejectRange s.quantity.slots[k] [] := by
  obtain ⟨r, run, took, _⟩ := took_of_delivery (e := .rejectRange) alive awake u arrives payload key new slot (by decide)
    (deliverReading_unused (s := s.tagTaken i f.tag) ((u.known _).of_tables rfl) (u.isFaulted _) rd.sensor unused)
    (State.SlotWork.none_ (s.tagTaken i f.tag) k)
  exact ⟨r, run, took⟩

variable (used : s.quantity.setups[k].content.kind ≠ .unused)
include used

theorem took_warming (sensor : rd.sensor = .warming) :
    ∃ t, exec c s = .next t ∧ s.TookReading t f passing i .rejectState s.quantity.slots[k] [] := by
  obtain ⟨r, run, took, _⟩ := took_of_delivery (e := .rejectState) alive awake u arrives payload key new slot (by decide)
    (by rw [sensor]
        exact deliverReading_warming (s := s.tagTaken i f.tag) ((u.known _).of_tables rfl) (u.isFaulted _) used)
    (State.SlotWork.none_ (s.tagTaken i f.tag) k)
  exact ⟨r, run, took⟩

theorem took_fault (sensor : rd.sensor = .fault) :
    ∃ t, exec c s = .next t ∧ s.TookReading t f passing i .rejectState s.quantity.slots[k].toFault
        (s.quantity.slots[k].statusReport k .fault) ∧
      (s.quantity.slots[k].status ≠ .fault → (∃ b, s.ctrl.bindings.get b = some k) → t.Raised .inputLost (.slot k)) := by
  have work := slotFaulted_work (s.tagTaken i f.tag) k
  obtain ⟨r, run, took, same⟩ := took_of_delivery (e := .rejectState) alive awake u arrives payload key new slot (by decide)
    (by rw [sensor]
        exact deliverReading_fault (s := s.tagTaken i f.tag) ((u.known _).of_tables rfl) (u.isFaulted _) used
          ((u.known _).of_tables rfl)) work
  refine ⟨r, run, ?_, fun first bound => ?_⟩
  · rw [Slot.statusReport]
    simp only [eq_comm (a := SlotStatus.fault)]
    exact took
  · have raised := slotFaulted_raised (s := s.tagTaken i f.tag) first ((isRoleSlot_iff ..).2 bound)
    exact raised_of_record raised.raised (same _ (by decide) (by decide))

omit used in
/-- A rejection that leaves the pending jump `p`. -/
theorem took_rejected {e : SubEvent} {p : Option Int} {g : Slot → Slot} (other : e ≠ .duplicate)
    (jump : g s.quantity.slots[k] = { s.quantity.slots[k] with pendingJump := p })
    (deliver : Act.Runs (s.tagTaken i f.tag) (deliverReading k (s.valueOf i rd) rd.sensor) ()
      ((s.tagTaken i f.tag).slotRejected k g) [e]) :
    ∃ t, exec c s = .next t ∧
      s.TookReading t f passing i e { s.quantity.slots[k].rejected with pendingJump := p }
        (s.quantity.slots[k].statusReport k s.quantity.slots[k].rejected.status) ∧
      (3 ≤ s.quantity.slots[k].rejects + 1 ∧ s.quantity.slots[k].status = .fresh → t.Raised .inputSuspect (.slot k)) := by
  have now : (g (s.tagTaken i f.tag).quantity.slots[k]).countReject =
      { s.quantity.slots[k].rejected with pendingJump := p } :=
    (countReject_eq _).trans (congrArg Slot.rejected jump)
  have work := slotRejected_work (s := s.tagTaken i f.tag) (k := k) (u.isFaulted _) g
  rw [now] at work
  obtain ⟨r, run, took, same⟩ := took_of_delivery alive awake u arrives payload key new slot other deliver work
  refine ⟨r, run, took, fun suspects => ?_⟩
  refine raised_of_record (slotRejected_raised ?_) (same _ (by decide) (by decide))
  rw [now]
  refine fun no => absurd ((if_pos suspects).symm.trans no) ?_
  rw [show (s.tagTaken i f.tag).quantity.slots[k].status = .fresh from suspects.2]
  decide

variable (sensor : rd.sensor = .ok)
include sensor

theorem took_rejectRange
    (verdict : judge s.quantity.setups[k].content s.quantity.slots[k] (s.valueOf i rd) = .rejectRange) :
    ∃ t, exec c s = .next t ∧ s.TookReading t f passing i .rejectRange s.quantity.slots[k].rejected
        (s.quantity.slots[k].statusReport k s.quantity.slots[k].rejected.status) ∧
      (3 ≤ s.quantity.slots[k].rejects + 1 ∧ s.quantity.slots[k].status = .fresh → t.Raised .inputSuspect (.slot k)) :=
  took_rejected alive awake u arrives payload key new slot (p := s.quantity.slots[k].pendingJump) (g := id) (by decide)
    rfl (by rw [sensor]
            exact deliverReading_rejectRange (s := s.tagTaken i f.tag) ((u.known _).of_tables rfl) (u.isFaulted _) used
              ((u.known _).of_tables rfl) verdict)

theorem took_rejectStep
    (verdict : judge s.quantity.setups[k].content s.quantity.slots[k] (s.valueOf i rd) = .rejectStep) :
    ∃ t, exec c s = .next t ∧
      s.TookReading t f passing i .rejectStep { s.quantity.slots[k].rejected with pendingJump := some (s.valueOf i rd) }
        (s.quantity.slots[k].statusReport k s.quantity.slots[k].rejected.status) ∧
      (3 ≤ s.quantity.slots[k].rejects + 1 ∧ s.quantity.slots[k].status = .fresh → t.Raised .inputSuspect (.slot k)) :=
  took_rejected alive awake u arrives payload key new slot (g := fun sl => { sl with pendingJump := some (s.valueOf i rd) })
    (by decide) rfl (by rw [sensor]
                        exact deliverReading_rejectStep (s := s.tagTaken i f.tag) ((u.known _).of_tables rfl)
                          (u.isFaulted _) used ((u.known _).of_tables rfl) verdict)

theorem took_accepted
    (verdict : judge s.quantity.setups[k].content s.quantity.slots[k] (s.valueOf i rd) = .accepted) :
    ∃ t, exec c s = .next t ∧ s.TookReading t f passing i .accepted
        (s.quantity.slots[k].accept s.quantity.setups[k].content (s.valueOf i rd))
        [.slot k (s.quantity.slots[k].accept s.quantity.setups[k].content (s.valueOf i rd)).view] := by
  obtain ⟨r, run, took, _⟩ := took_of_delivery (e := .accepted) alive awake u arrives payload key new slot (by decide)
    (by rw [sensor]
        exact deliverReading_accepted (s := s.tagTaken i f.tag) ((u.known _).of_tables rfl) (u.isFaulted _) used
          verdict)
    (slotAccepted_work (s := s.tagTaken i f.tag) (u.isFaulted _) _ _)
  exact ⟨r, run, took⟩

end

end Sys2Proof.Machine
end

section
/-! SUPPORT. Readings accepted one after the other. -/
namespace Sys2Proof.Machine
open Sys2Proof

/-- The state once entry `i` took a reading that its slot accepted, the thin counter becoming `n`. -/
def State.readingAccepted (i : Fin 64) (tag : Byte) (n : Nat) (v : Int) (s : State) : State :=
  ((s.tagTaken i tag).slotAccepted s.intake.map[i].content.slot
    s.quantity.setups[s.intake.map[i].content.slot].content v).mapTaken i n tag

theorem readingAccepted_quantity (i : Fin 64) (tag : Byte) (n : Nat) (v : Int) (s : State) :
    (s.readingAccepted i tag n v).quantity = { s.quantity with
      slots := s.quantity.slots.set s.intake.map[i].content.slot
        (s.quantity.slots[s.intake.map[i].content.slot].accept
          s.quantity.setups[s.intake.map[i].content.slot].content v) } := rfl

theorem readingAccepted_intake (i : Fin 64) (tag : Byte) (n : Nat) (v : Int) (s : State) :
    (s.readingAccepted i tag n v).intake = { s.intake with dyn := s.intake.dyn.set i ⟨n, some tag⟩ } :=
  congrArg (fun d => { s.intake with dyn := d }) (Vector.set_set ..)

theorem readingAccepted_undamaged {s : State} (u : s.Undamaged) (i : Fin 64) (tag : Byte) (n : Nat) (v : Int) :
    (s.readingAccepted i tag n v).Undamaged := u

/-- A reading that its slot accepts is taken. -/
theorem takeReading_accepted {s : State} {src tag : Byte} {rd : Reading} {i : Fin 64} (passing : Bool)
    (act : UnmappedAction) (u : s.Undamaged) (key : s.KeyAt src.toNat rd.channel i)
    (new : s.intake.dyn[i].lastTag ≠ some tag) (sensor : rd.sensor = .ok)
    (used : s.quantity.setups[s.intake.map[i].content.slot].content.kind ≠ .unused)
    (verdict : judge s.quantity.setups[s.intake.map[i].content.slot].content
      s.quantity.slots[s.intake.map[i].content.slot] (s.valueOf i rd) = .accepted) :
    Act.Runs s (takeReading src tag passing act rd) (s.forwardDue i passing).2
      (s.readingAccepted i tag (s.forwardDue i passing).1 (s.valueOf i rd)) [.accepted] := by
  refine takeReading_matched passing act (fun j => u.known _) key (u.isFaulted _) new ?_
  refine takeMatched_runs passing rfl ?_
  rw [sensor]
  exact deliverReading_accepted (s := s.tagTaken i tag) ((u.known _).of_tables rfl) (u.isFaulted _) used verdict

theorem forwardDue_other {s t : State} {i j : Fin 64} {d : MapDyn} (other : i ≠ j) (passing : Bool)
    (intake : t.intake = { s.intake with dyn := s.intake.dyn.set i d }) : t.forwardDue j passing = s.forwardDue j passing := by
  have dyn : t.intake.dyn[j] = s.intake.dyn[j] := by
    rw [intake]
    exact Vector.getElem_set_ne i.isLt j.isLt fun same => other (Fin.ext same)
  have map : t.intake.map = s.intake.map := by rw [intake]
  rw [forwardDue_eq, forwardDue_eq, dyn, map]

section
variable {s : State} {c : Instr} {f : Frame} {passing : Bool} {r1 r2 : Reading} {i j : Fin 64}
  (alive : s.alive = true) (awake : s.mgmt.opState ≠ .parked) (u : s.Undamaged)
  (arrives : s.SampleArrives c f passing) (payload : readingsOf f.payload = some [r1, r2])
  (key : s.KeyAt f.src.toNat r1.channel i) (key' : s.KeyAt f.src.toNat r2.channel j)
  (new : s.intake.dyn[i].lastTag ≠ some f.tag) (sensor : r1.sensor = .ok)
  (used : s.quantity.setups[s.intake.map[i].content.slot].content.kind ≠ .unused)
  (verdict : judge s.quantity.setups[s.intake.map[i].content.slot].content
    s.quantity.slots[s.intake.map[i].content.slot] (s.valueOf i r1) = .accepted)
include alive awake u arrives payload key key' new sensor used verdict

/-- Two readings of one channel: the second is a duplicate. -/
theorem took_accepted_duplicate (same : i = j) : ∃ t, exec c s = .next t ∧
    t.quantity = (s.readingAccepted i f.tag (s.forwardDue i passing).1 (s.valueOf i r1)).quantity ∧
    t.intake = { s.intake with dyn := s.intake.dyn.set i ⟨(s.forwardDue i passing).1, some f.tag⟩ } ∧
    s.Forwarded t f (s.forwardDue i passing).2 [.rxGood, .accepted, .duplicate] := by
  subst same
  have first := takeReading_accepted passing s.mgmt.params.content.unmappedAction u key new sensor used verdict
  have intake := readingAccepted_intake i f.tag (s.forwardDue i passing).1 (s.valueOf i r1) s
  have u' := readingAccepted_undamaged u i f.tag (s.forwardDue i passing).1 (s.valueOf i r1)
  generalize mid : s.readingAccepted i f.tag (s.forwardDue i passing).1 (s.valueOf i r1) = z at first intake u'
  have key'' : z.KeyAt f.src.toNat r2.channel i := by
    rw [State.KeyAt, intake]
    exact key'
  have last : z.intake.dyn[i].lastTag = some f.tag := by
    rw [intake]
    simp
  have taken := takeReadings_cons first (takeReadings_one
    (takeReading_duplicate passing s.mgmt.params.content.unmappedAction (fun _ => u'.known _) key'' (u'.isFaulted _) last))
  rw [Bool.or_false] at taken
  obtain ⟨t, run, forwarded, _, whole⟩ := exec_sampleArrives alive awake u.paramsGood arrives payload taken
    (by rw [← mid]; rfl)
  exact ⟨t, run, (congrArg State.quantity whole :), (congrArg State.intake whole :).trans intake, forwarded⟩

/-- Two readings of different channels, both accepted: the second meets the slots the first left. -/
theorem took_accepted_accepted (other : i ≠ j) (new' : s.intake.dyn[j].lastTag ≠ some f.tag) (sensor' : r2.sensor = .ok)
    (used' : s.quantity.setups[s.intake.map[j].content.slot].content.kind ≠ .unused)
    (verdict' : judge s.quantity.setups[s.intake.map[j].content.slot].content
      (s.readingAccepted i f.tag (s.forwardDue i passing).1 (s.valueOf i r1)).quantity.slots[s.intake.map[j].content.slot]
      (s.valueOf j r2) = .accepted) : ∃ t, exec c s = .next t ∧
    t.quantity = ((s.readingAccepted i f.tag (s.forwardDue i passing).1 (s.valueOf i r1)).readingAccepted j f.tag
      (s.forwardDue j passing).1 (s.valueOf j r2)).quantity ∧
    t.intake = { s.intake with
      dyn := (s.intake.dyn.set i ⟨(s.forwardDue i passing).1, some f.tag⟩).set j
        ⟨(s.forwardDue j passing).1, some f.tag⟩ } ∧
    s.Forwarded t f ((s.forwardDue i passing).2 || (s.forwardDue j passing).2) [.rxGood, .accepted, .accepted] := by
  have first := takeReading_accepted passing s.mgmt.params.content.unmappedAction u key new sensor used verdict
  have intake := readingAccepted_intake i f.tag (s.forwardDue i passing).1 (s.valueOf i r1) s
  have quantity := readingAccepted_quantity i f.tag (s.forwardDue i passing).1 (s.valueOf i r1) s
  have u' := readingAccepted_undamaged u i f.tag (s.forwardDue i passing).1 (s.valueOf i r1)
  have only : s.OnlyRpq (s.readingAccepted i f.tag (s.forwardDue i passing).1 (s.valueOf i r1)) := rfl
  generalize s.readingAccepted i f.tag (s.forwardDue i passing).1 (s.valueOf i r1) = z at *
  have map : z.intake.map = s.intake.map := by rw [intake]
  have setups : z.quantity.setups = s.quantity.setups := by rw [quantity]
  have due : z.forwardDue j passing = s.forwardDue j passing := forwardDue_other other passing intake
  have value : z.valueOf j r2 = s.valueOf j r2 := by rw [State.valueOf, map, State.valueOf]
  have key'' : z.KeyAt f.src.toNat r2.channel j := by
    rw [State.KeyAt, map]
    exact key'
  have dyn : z.intake.dyn[j] = s.intake.dyn[j] := by
    rw [intake]
    exact Vector.getElem_set_ne i.isLt j.isLt fun same => other (Fin.ext same)
  have second := takeReading_accepted passing s.mgmt.params.content.unmappedAction u' key'' (by rw [dyn]; exact new') sensor'
    (by simpa only [map, setups] using used')
    (by simpa only [map, setups, value] using verdict')
  rw [due, value] at second
  have taken := takeReadings_cons first (takeReadings_one second)
  obtain ⟨t, run, forwarded, _, whole⟩ := exec_sampleArrives alive awake u.paramsGood arrives payload taken
    only
  refine ⟨t, run, (congrArg State.quantity whole :), (congrArg State.intake whole :).trans ?_, forwarded⟩
  rw [readingAccepted_intake, intake]

end

/-- Settles O14, by the verdicts on one reading, and for two by the state the first leaves. -/
theorem acceptedReadingsReachTheirSlot : Obligations.AcceptedReadingsReachTheirSlot := by
  refine ⟨?_, ?_⟩
  · intro s c f passing rd i alive awake u arrives payload key k setup sl v suspects rejected view near stepped
    refine ⟨took_duplicate alive awake u.paramsGood (fun j => u.known _) (u.isFaulted _) arrives payload key,
      fun new => ⟨?_, fun used sensor => ?_, fun used sensor => ?_, fun used sensor out => ?_,
        fun used sensor low high => ⟨fun l checked value far away => ?_, fun ok => ?_⟩⟩⟩
    · exact took_unused alive awake u arrives payload key new rfl
    · exact took_warming alive awake u arrives payload key new rfl used sensor
    · exact took_fault alive awake u arrives payload key new rfl used sensor
    · exact took_rejectRange alive awake u arrives payload key new rfl used sensor (judge_outside out)
    · exact took_rejectStep alive awake u arrives payload key new rfl used sensor
        (judge_stepped low high checked value far away)
    · obtain ⟨t, run, took⟩ := took_accepted alive awake u arrives payload key new rfl used sensor
        (judge_accepted low high ok)
      have now : t.quantity.slots[k] = sl.accept setup v := by
        obtain ⟨quantity, _⟩ := took
        rw [quantity]
        exact Vector.getElem_set_self _
      refine ⟨t, run, ?_, ?_, ?_, ?_, ?_, ?_, ?_, fun x plain median => ?_, ?_⟩
      all_goals rw [now]
      · rfl
      · rfl
      · rfl
      · rfl
      · rfl
      · rfl
      · rfl
      · have seen := seenValue_appended plain median
        exact ⟨congrArg (setup.compA.evaluate sl.compA) seen, congrArg (setup.compB.evaluate sl.compB) seen⟩
      · exact took
  · intro s c f passing r1 r2 i j alive awake u arrives payload key key' new sensor k setup v slots due dyn used verdict
    constructor
    · intro same
      exact took_accepted_duplicate alive awake u arrives payload key key' new sensor used verdict same
    · intro other new' sensor' l setup2 w used' verdict'
      exact took_accepted_accepted alive awake u arrives payload key key' new sensor used verdict other new' sensor'
        used' verdict'

end Sys2Proof.Machine
end

section
/-! SUPPORT. Passing SAMPLE frames. -/
namespace Sys2Proof.Machine
open Sys2Proof

/-! ### The payload of a good frame -/

theorem judgeFields_payloadOk {dest src kind tag len : Byte} {payload : List Byte} {check : Word16} {f : Frame}
    (h : judgeFields dest src kind tag len payload check = .good f) : payloadOk f.kind f.payload = true := by
  unfold judgeFields at h
  split at h
  · cases h
  split at h
  · cases h
  split at h
  · cases h
  split at h
  next ok => cases h; exact ok
  next => cases h

theorem payloadOk_of_classify_good {r : Reception} {f : Frame} (h : classify r = .good f) :
    payloadOk f.kind f.payload = true := by
  obtain ⟨dest, src, kind, tag, len, payload, hi, lo, _, _, judged⟩ := classify_good h
  exact judgeFields_payloadOk judged

/-- A good SAMPLE frame has a reading. -/
theorem readings_of_classify_good {r : Reception} {f : Frame} (h : classify r = .good f) (sample : f.kind = .sample) :
    ∃ rd rds, readingsOf f.payload = some (rd :: rds) := by
  have ok := payloadOk_of_classify_good h
  rw [sample] at ok
  obtain ⟨size, read⟩ := Bool.and_eq_true_iff.1 ok
  obtain ⟨readings, eq⟩ := Option.isSome_iff_exists.1 read
  cases readings with
  | cons rd rds => exact ⟨rd, rds, eq⟩
  | nil =>
    exfalso
    revert size eq
    generalize f.payload = p
    intro size eq
    unfold readingsOf at eq
    split at eq
    · cases size
    · split at eq
      · split at eq <;> cases eq
      · cases eq
    · cases eq

/-! ### Unmapped readings -/

theorem takeReadings_unmapped {s : State} {src : Byte} (tag : Byte) (passing : Bool) (act : UnmappedAction)
    (known : ∀ i : Fin 64, s.Known (.channelMap i)) (none_ : ∀ ch i, hasKey src.toNat ch (s.mapSeen i) = false)
    (rds : List Reading) : Act.Runs s (takeReadings src tag passing act rds)
      (!rds.isEmpty && (passing && act == .pass)) s (rds.map fun _ => .unmapped) := by
  induction rds with
  | nil => exact .pure_ ..
  | cons rd rds ih =>
    have both := takeReadings_cons (takeReading_unmapped (rd := rd) (tag := tag) passing act known (none_ rd.channel)) ih
    rw [show (!(rd :: rds).isEmpty && (passing && act == .pass)) =
      ((passing && act == .pass) || (!rds.isEmpty && (passing && act == .pass))) by
        cases rds.isEmpty <;> cases (passing && act == .pass) <;> rfl]
    exact both

/-! ### Any reading -/

/-- Whatever a reading is, its delivery is work on its slot and one sub-event, no duplicate. -/
theorem deliverReading_works {s : State} (u : s.Undamaged) (k : Fin 32) (v : Int) (sensor : SensorState) :
    ∃ t e sl reports, Act.Runs s (deliverReading k v sensor) () t [e] ∧ s.SlotWork t k sl reports ∧ e ≠ .duplicate := by
  have known := u.known (.slotSetup k)
  have good := u.isFaulted (.slotSetup k)
  by_cases unused : s.quantity.setups[k].content.kind = .unused
  · exact ⟨_, _, _, _, deliverReading_unused known good sensor unused, .none_ s k, by decide⟩
  · cases sensor with
    | warming => exact ⟨_, _, _, _, deliverReading_warming known good unused, .none_ s k, by decide⟩
    | fault => exact ⟨_, _, _, _, deliverReading_fault known good unused (u.known _), slotFaulted_work s k, by decide⟩
    | ok =>
      cases verdict : judge s.quantity.setups[k].content s.quantity.slots[k] v with
      | rejectRange =>
        exact ⟨_, _, _, _, deliverReading_rejectRange known good unused (u.known _) verdict, slotRejected_work good _,
          by decide⟩
      | rejectStep =>
        exact ⟨_, _, _, _, deliverReading_rejectStep known good unused (u.known _) verdict, slotRejected_work good _,
          by decide⟩
      | accepted =>
        exact ⟨_, _, _, _, deliverReading_accepted known good unused verdict, slotAccepted_work good _ _, by decide⟩

/-- What the forward rule of a passing frame gives, row by row. -/
theorem forwardDue_passing {s : State} {i : Fin 64} {n : Nat} {call : Bool}
    (h : (s.intake.map[i].content.rule = .drop ∧ n = s.intake.dyn[i].thin ∧ call = false) ∨
      (s.intake.map[i].content.rule = .pass ∧ n = s.intake.dyn[i].thin ∧ call = true) ∨
      (∃ k, s.intake.map[i].content.rule = .thin k ∧
        ((s.intake.dyn[i].thin + 1 < k ∧ n = s.intake.dyn[i].thin + 1 ∧ call = false) ∨
          (k ≤ s.intake.dyn[i].thin + 1 ∧ n = 0 ∧ call = true)))) : s.forwardDue i true = (n, call) := by
  rw [forwardDue_eq, if_pos rfl]
  rcases h with ⟨rule, rfl, rfl⟩ | ⟨rule, rfl, rfl⟩ | ⟨k, rule, ⟨below, rfl, rfl⟩ | ⟨reached, rfl, rfl⟩⟩
  all_goals rw [rule]
  · rfl
  · rfl
  · exact if_neg (not_le.2 below)
  · exact if_pos reached

/-! ### The obligation -/

section
variable {s : State} {r : Reception} {f : Frame} (alive : s.alive = true) (awake : s.mgmt.opState ≠ .parked)
  (taking : s.port.dnRx = .taking) (u : s.Undamaged) (good : classify r = .good f) (sample : f.kind = .sample)
  (dest : f.dest = 0 ∨ f.dest = 63) (room : s.port.fwq.length < 16)

include taking good sample dest in
theorem sampleArrives_passing (inside : inWindow s.mgmt.params.content f.src.toNat = true) :
    s.SampleArrives (.dnArrival r) f true := by
  obtain ⟨low, high⟩ := Bool.and_eq_true_iff.1 inside
  exact ⟨sample, r, good, .inr (.inr ⟨rfl, taking, dest, of_decide_eq_true low, of_decide_eq_true high, rfl⟩)⟩

include room in
theorem forwarded_room {t : State} {call : Bool} {es : List SubEvent} (h : s.Forwarded t f call es) :
    t.port.fwq = s.port.fwq ++ (if call then [f] else []) ∧ t.port.ptq = s.port.ptq := by
  obtain ⟨port, _, _⟩ := h
  rw [decide_eq_false (not_le.2 room), Bool.not_false, Bool.and_true] at port
  exact ⟨(congrArg PortUnit.fwq port :), (congrArg PortUnit.ptq port :)⟩

include alive awake taking u good sample dest room

theorem exec_passing_unmapped (empty_ : ∀ i : Fin 64, s.intake.map[i].content.valid = false)
    (inside : inWindow s.mgmt.params.content f.src.toNat = true) : ∃ t, exec (.dnArrival r) s = .next t ∧
      t.port.fwq = s.port.fwq ++ (if s.mgmt.params.content.unmappedAction = .pass then [f] else []) ∧
      t.port.ptq = s.port.ptq ∧
      { t with tally := s.tally, notice := s.notice, port := s.port } = s := by
  obtain ⟨rd, rds, payload⟩ := readings_of_classify_good good sample
  have none_ (ch : Nat) (i : Fin 64) : hasKey f.src.toNat ch (s.mapSeen i) = false := by
    rw [u.mapSeen, hasKey, empty_ i]
    rfl
  have taken := takeReadings_unmapped f.tag true s.mgmt.params.content.unmappedAction (fun i => u.known _) none_ (rd :: rds)
  obtain ⟨t, run, forwarded, _, whole⟩ := exec_sampleArrives alive awake u.paramsGood
    (sampleArrives_passing taking good sample dest inside) payload taken rfl
  obtain ⟨fwq, ptq⟩ := forwarded_room room forwarded
  refine ⟨t, run, ?_, ptq, whole⟩
  rw [fwq]
  cases s.mgmt.params.content.unmappedAction <;> rfl

theorem exec_passing_outside (outside : inWindow s.mgmt.params.content f.src.toNat = false) :
    exec (.dnArrival r) s = .next ((s.onPort fun p => { p with fwq := p.fwq ++ [f] }).count .rxGood) := by
  refine exec_dnArrival_good alive awake taking good ?_
  have whole : takeSample f true ((⟨s, []⟩ : Event).give .rxGood) = .ok () _ :=
    (takeSample_outside (u.known _) (by rw [u.paramsSeen]; exact outside) rfl).trans ((offerFwq_after_give f).1 room)
  rcases dest with dest | dest <;>
  · rw [dest, sample]
    exact whole

variable {rd : Reading} {i : Fin 64} (inside : inWindow s.mgmt.params.content f.src.toNat = true)
  (payload : readingsOf f.payload = some [rd]) (key : s.KeyAt f.src.toNat rd.channel i)
include inside payload key

omit room in
theorem exec_passing_duplicate (last : s.intake.dyn[i].lastTag = some f.tag) :
    exec (.dnArrival r) s = .next (s.countAll [.rxGood, .duplicate]) :=
  exec_sampleArrives_kept alive awake u.paramsGood (sampleArrives_passing taking good sample dest inside) payload
    (takeReadings_one (takeReading_duplicate true s.mgmt.params.content.unmappedAction (fun _ => u.known _) key
      (u.isFaulted _) last))

theorem exec_passing_taken (new : s.intake.dyn[i].lastTag ≠ some f.tag) {n : Nat} {call : Bool}
    (due : s.forwardDue i true = (n, call)) : ∃ t, exec (.dnArrival r) s = .next t ∧
      t.port.fwq = s.port.fwq ++ (if call then [f] else []) ∧ t.port.ptq = s.port.ptq ∧
      t.intake = { s.intake with dyn := s.intake.dyn.set i ⟨n, some f.tag⟩ } ∧ t.timer = s.timer ∧
      t.cmd = s.cmd ∧ t.mgmt = s.mgmt ∧ t.integ = s.integ ∧ t.park = s.park := by
  obtain ⟨t, e, sl, reports, deliver, work, other⟩ := deliverReading_works (s := s.tagTaken i f.tag) u
    s.intake.map[i].content.slot (s.valueOf i rd) rd.sensor
  obtain ⟨w, run, ⟨_, intake, _, forwarded, rest⟩, _⟩ := took_of_delivered alive awake u.paramsGood (fun j => u.known _)
    (u.isFaulted _) (sampleArrives_passing taking good sample dest inside) payload key new other deliver work
  have due' : s.forwardDue i (true && e != .duplicate) = (n, call) := by
    rw [show (e != .duplicate) = true by simpa using other]
    exact due
  rw [due'] at intake forwarded
  obtain ⟨fwq, ptq⟩ := forwarded_room room forwarded
  exact ⟨w, run, fwq, ptq, intake, rest⟩

end

/-- Settles O13, by the window, the map and the forward rule. -/
theorem unmappedSamplesAreForwarded : Obligations.UnmappedSamplesAreForwarded := by
  intro s r f alive awake taking u good sample dest room
  refine ⟨fun empty_ inside => ?_, fun outside => ?_, fun rd i low high payload key => ?_⟩
  · obtain ⟨t, run, fwq, ptq, whole⟩ :=
      exec_passing_unmapped alive awake taking u good sample dest room empty_ inside
    exact ⟨t, run, fwq, ptq, (congrArg State.quantity whole :), (congrArg State.intake whole :),
      (congrArg State.ctrl whole :), (congrArg State.timer whole :), (congrArg State.cmd whole :),
      (congrArg State.mgmt whole :), (congrArg State.integ whole :), (congrArg State.park whole :)⟩
  · refine exec_passing_outside alive awake taking u good sample dest room ?_
    rw [inWindow, Bool.and_eq_false_iff]
    exact outside.imp (fun h => decide_eq_false (not_le.2 h)) (fun h => decide_eq_false (not_lt.2 h))
  · have inside : inWindow s.mgmt.params.content f.src.toNat = true :=
      Bool.and_eq_true_iff.2 ⟨decide_eq_true low, decide_eq_true high⟩
    constructor
    · intro last
      exact exec_passing_duplicate alive awake taking u good sample dest inside payload key last
    · intro new n call rule was ways
      exact exec_passing_taken alive awake taking u good sample dest room inside payload key new (forwardDue_passing ways)

end Sys2Proof.Machine
end

section
/-! SUPPORT. The scrubber's check with its effects, and the scrub step around it. -/
namespace Sys2Proof.Machine
open Sys2Proof

/-! ### What a fault leaves of the tables -/

section
variable (e : EntryId) (s : State) (n : Nat)

theorem faultFound_ctrl : ∃ reports, (s.faultFound e n).ctrl = { s.ctrl with reports := reports } := by
  obtain ⟨_, ctrl⟩ := faultFound_joined e s n
  exact ⟨_, ctrl⟩

theorem faultFound_flips (x : EntryId) : (s.faultFound e n).flips x = s.flips x := by
  have rest := congrArg (fun t : State => t.flips x) (faultFound_rest e s n)
  obtain ⟨reports, ctrl⟩ := faultFound_ctrl e s n
  cases x
  case modeRecord i => exact (congrArg (fun c : Controller => c.records[i].flipped) ctrl :)
  all_goals exact rest

theorem faultFound_isFaulted_other {x : EntryId} (other : x ≠ e) : (s.faultFound e n).isFaulted x = s.isFaulted x := by
  obtain ⟨integ, _⟩ := faultFound_joined e s n
  simp [State.isFaulted, integ, other]

/-- With no other damage, after the fault all is known. -/
theorem faultFound_known (alone : ∀ x, x ≠ e → s.flips x = []) (x : EntryId) : (s.faultFound e n).Known x := by
  intro unfaulted
  by_cases same : x = e
  · rw [same, faultFound_isFaulted] at unfaulted
    cases unfaulted
  · rw [faultFound_flips]
    exact alone x same

end

/-! ### The check with its effect -/

/-- The state once the scrubber has found an entry faulted, with the effect on its block. -/
def State.effectFound (e : EntryId) (s : State) : State :=
  let found := s.faultFound e s.paramsSeen.escalation
  match e with
  | .slotSetup i => found.slotFaulted i
  | .actuator a => s.actuatorFound a
  | .modeRecord i => if s.ctrl.mode.recordIndex = some i then found.targetsHanded PowerOn.safeTargets else found
  | _ => found

theorem Act.Runs.run {α : Type} {s t : State} {a : Act α} {x : α} (h : Act.Runs s a x t []) (o : List (Fin 4)) :
    a ⟨s, o⟩ = .ok x ⟨t, o⟩ := by
  obtain ⟨tally, _, run⟩ := h
  have same : t.withTally s.tally = t := by rw [← tally]; rfl
  have whole := run s.tally o
  rw [same] at whole
  exact whole

/-- A mode whose record is faulted has the targets of SAFE. -/
theorem modeTargets_faulted {v : Event} {m : Mode} {i : Fin 7} (index : m.recordIndex = some i)
    (known : v.state.Known (.modeRecord i)) (faulted : v.state.isFaulted (.modeRecord i) = true) :
    modeTargets m v = .ok PowerOn.safeTargets v := by
  have record : readRecord i v = .ok none v := by
    rw [readRecord_known known, State.recordSeen, if_pos faulted]
  cases m with
  | safe | park => cases index
  | _ =>
    cases index
    exact (Act.bind_ok record).trans rfl

section
variable {e : EntryId} {v : Event}

theorem checkWithEffect_known (k : v.state.Known e) : checkWithEffect e v = .ok () v := by
  cases e with
  | slotSetup i => exact (Act.bind_ok (readSetup_known k)).trans rfl
  | actuator a => exact (Act.bind_ok (readActuator_known k)).trans rfl
  | modeRecord i => exact checkWithEffect_modeRecord_known k
  | channelMap i => exact (Act.bind_ok (checkEntry_known k)).trans rfl
  | recovery i => exact (Act.bind_ok (checkEntry_known k)).trans rfl
  | params => exact (Act.bind_ok (checkParams_known k)).trans rfl

variable (good : v.state.isFaulted e = false)
include good

theorem checkWithEffect_one (one : (v.state.flips e).length = 1) (other : e ≠ .params) :
    checkWithEffect e v = .ok () ⟨v.state.correct e, v.owed⟩ := by
  have check := checkEntry_one good one
  cases e with
  | slotSetup i =>
    have read : ∃ x, readSetup i v = .ok x ⟨v.state.correct (.slotSetup i), v.owed⟩ := ⟨_, (Act.bind_ok check).trans rfl⟩
    obtain ⟨x, read⟩ := read
    exact (Act.bind_ok read).trans rfl
  | actuator a =>
    have read : ∃ x, readActuator a v = .ok x ⟨v.state.correct (.actuator a), v.owed⟩ :=
      ⟨_, (Act.bind_ok check).trans rfl⟩
    obtain ⟨x, read⟩ := read
    exact (Act.bind_ok read).trans rfl
  | modeRecord i => exact (Act.bind_ok check).trans rfl
  | channelMap i => exact (Act.bind_ok check).trans rfl
  | recovery i => exact (Act.bind_ok check).trans rfl
  | params => exact absurd rfl other

variable (damaged : 2 ≤ (v.state.flips e).length) (other : e ≠ .params)
include damaged other

theorem checkWithEffect_full (full : faultListCapacity ≤ v.state.integ.faultList.length) :
    checkWithEffect e v = .error .wiped ⟨v.settled.tableWipe, []⟩ := by
  have check := checkEntry_full good damaged full
  cases e with
  | slotSetup i => exact Act.bind_error (Act.bind_error check)
  | actuator a => exact Act.bind_error (Act.bind_error check)
  | modeRecord i => exact Act.bind_error check
  | channelMap i => exact Act.bind_error check
  | recovery i => exact Act.bind_error check
  | params => exact absurd rfl other

variable (room : v.state.integ.faultList.length < faultListCapacity) (params : v.state.Known .params)
  (alone : ∀ x, x ≠ e → v.state.flips x = [])
include room params alone

theorem checkWithEffect_found : checkWithEffect e v = .ok () ⟨v.state.effectFound e, v.owed⟩ := by
  have check := checkEntry_found good damaged room other params
  have known := faultFound_known e v.state v.state.paramsSeen.escalation alone
  cases e with
  | slotSetup i =>
    have effect := (slotToFault_runs (known .params) i).run v.owed
    have read : readSetup i v = .ok none ⟨v.state.effectFound (.slotSetup i), v.owed⟩ :=
      (Act.bind_ok check).trans ((Act.bind_ok effect).trans rfl)
    exact (Act.bind_ok read).trans rfl
  | actuator a => exact (Act.bind_ok (readActuator_found good damaged room params)).trans rfl
  | channelMap i => exact (Act.bind_ok check).trans rfl
  | recovery i => exact (Act.bind_ok check).trans rfl
  | params => exact absurd rfl other
  | modeRecord i =>
    obtain ⟨reports, ctrl⟩ := faultFound_ctrl (.modeRecord i) v.state v.state.paramsSeen.escalation
    have faulted := faultFound_isFaulted (.modeRecord i) v.state v.state.paramsSeen.escalation
    have mode : (v.state.faultFound (.modeRecord i) v.state.paramsSeen.escalation).ctrl.mode = v.state.ctrl.mode := by
      rw [ctrl]
    refine (Act.bind_ok check).trans ((Act.bind_ok (Act.look_run ..)).trans ?_)
    dsimp only
    rw [mode]
    by_cases current : v.state.ctrl.mode.recordIndex = some i
    · rw [State.effectFound, if_pos current, current, beq_self_eq_true, beq_self_eq_true, Bool.and_self, onlyIf_true]
      refine (Act.bind_ok (Act.look_run ..)).trans ?_
      dsimp only
      rw [mode]
      refine (Act.bind_ok (modeTargets_faulted current (known _) faulted)).trans ?_
      exact handTargets_run (fun a => known _) _
    · rw [State.effectFound, if_neg current, show (v.state.ctrl.mode.recordIndex == some i) = false by simpa using current,
        Bool.and_false]
      rfl

end

end Sys2Proof.Machine
end

section
/-! SUPPORT. What the scrubber's finding of a fault leaves. -/
namespace Sys2Proof.Machine
open Sys2Proof

/-- What every fault found leaves, whatever the effect on the entry's block. -/
def State.FaultKept (s t : State) (e : EntryId) : Prop :=
  t.integ = { s.integ with faultList := s.integ.faultList ++ [e] } ∧ t.Raised .tableFault (.entry e) ∧
    (s.integ.faultList = [] → Report.faultList true ∈ t.ctrl.reports) ∧ s.OnlyRpq t ∧
    t.ctrl = { s.ctrl with reports := t.ctrl.reports } ∧
    { t with quantity := s.quantity, ctrl := s.ctrl, cmd := s.cmd, notice := s.notice, port := s.port, integ := s.integ } = s

/-- The record of a mode that is current. -/
def State.recordCurrent (s : State) (e : EntryId) : Prop := ∃ i, e = .modeRecord i ∧ s.ctrl.mode.recordIndex = some i

section
variable (e : EntryId) (s : State)

theorem faultFound_kept (n : Nat) : s.FaultKept (s.faultFound e n) e := by
  have raised := faultFound_raisedFrom e s n
  obtain ⟨integ, ctrl⟩ := faultFound_joined e s n
  refine ⟨integ, raised.raised, fun empty_ => ?_, raised.onlyRpq, ?_, ?_⟩
  · rw [ctrl, if_pos empty_]
    simp
  · rw [ctrl]
  · have rest := faultFound_rest e s n
    generalize s.faultFound e n = t at rest
    exact (congrArg (fun x : State => { x with quantity := s.quantity, cmd := s.cmd }) rest :)

variable {e s}

theorem State.FaultKept.slotFaulted {t : State} (h : s.FaultKept t e) (k : Fin 32) : s.FaultKept (t.slotFaulted k) e := by
  obtain ⟨integ, raised, report, only, ctrl, rest⟩ := h
  obtain ⟨_, ctrl', only', rest'⟩ := slotFaulted_work t k
  have record : (t.slotFaulted k).noticeRecord .tableFault = t.noticeRecord .tableFault := by
    by_cases first : t.quantity.slots[k].status = .fault ∨ t.isRoleSlot k = false
    · obtain ⟨notice, _⟩ := slotFaulted_calm first
      rw [State.noticeRecord, notice]
      rfl
    · obtain ⟨new, role⟩ := not_or.1 first
      obtain ⟨_, others, _⟩ := slotFaulted_raised new (by simpa using role)
      exact others _ (by decide)
  refine ⟨(congrArg State.integ rest' :).trans integ, raised_of_record raised record, fun empty_ => ?_, only.trans only', ?_, ?_⟩
  · rw [ctrl']
    exact List.mem_append_left _ (report empty_)
  · rw [ctrl', ctrl]
  · generalize t.slotFaulted k = r at rest'
    have cut := congrArg (fun x : State => { x with
      quantity := s.quantity, ctrl := s.ctrl, cmd := s.cmd, notice := s.notice, port := s.port, integ := s.integ }) rest'
    exact cut.trans rest

theorem State.FaultKept.onCmd {t r : State} (h : s.FaultKept t e) (same : { r with cmd := t.cmd } = t) : s.FaultKept r e := by
  obtain ⟨integ, raised, report, only, ctrl, rest⟩ := h
  have ctrlSame : r.ctrl = t.ctrl := (congrArg State.ctrl same :)
  have port : r.port = t.port := (congrArg State.port same :)
  have notice : r.notice = t.notice := (congrArg State.notice same :)
  refine ⟨(congrArg State.integ same :).trans integ, raised_of_record raised (by rw [State.noticeRecord, notice]; rfl), ?_, ?_, ?_, ?_⟩
  · rw [ctrlSame]
    exact report
  · rw [State.OnlyRpq, port]
    exact only
  · rw [ctrlSame]
    exact ctrl
  · have cut := congrArg (fun x : State => { x with
      quantity := s.quantity, ctrl := s.ctrl, cmd := s.cmd, notice := s.notice, port := s.port, integ := s.integ }) same
    exact cut.trans rest

theorem effectFound_kept : s.FaultKept (s.effectFound e) e := by
  have found := faultFound_kept e s s.paramsSeen.escalation
  cases e with
  | slotSetup i => exact found.slotFaulted i
  | actuator a =>
    refine found.onCmd ?_
    have same := actuatorFound_found a s
    have cmd : (s.faultFound (.actuator a) s.paramsSeen.escalation).cmd = s.cmd :=
      (congrArg State.cmd (faultFound_rest (.actuator a) s s.paramsSeen.escalation) :)
    rw [cmd]
    exact same
  | modeRecord i =>
    unfold State.effectFound
    dsimp only
    split
    · exact found.onCmd rfl
    · exact found
  | channelMap i | recovery i | params => exact found

/-- The effect on a slot whose setup is found faulted. -/
theorem effectFound_slot (i : Fin 32) : (s.effectFound (.slotSetup i)).quantity.slots[i].status = .fault := by
  have work := slotFaulted_work (s.faultFound (.slotSetup i) s.paramsSeen.escalation) i
  obtain ⟨quantity, _⟩ := work
  refine (congrArg (fun q : QuantityTable => q.slots[i].status) quantity).trans ?_
  simp [Slot.toFault]

theorem effectFound_quantity (other : ∀ i, e ≠ .slotSetup i) : (s.effectFound e).quantity = s.quantity := by
  have rest := faultFound_rest e s s.paramsSeen.escalation
  cases e with
  | slotSetup i => exact absurd rfl (other i)
  | actuator a => exact (congrArg State.quantity (actuatorFound_rest a s) :)
  | modeRecord i =>
    unfold State.effectFound
    dsimp only
    split <;> exact (congrArg State.quantity rest :)
  | channelMap i | recovery i | params => exact (congrArg State.quantity rest :)

/-- The effect on an actuator found faulted: its delivery dropped. -/
theorem effectFound_actuator (a : Actuator) : ((s.effectFound (.actuator a)).cmd.delivery.get a).pendingValue = none ∧
    ((s.effectFound (.actuator a)).cmd.delivery.get a).outstanding = none := by
  have delivery : (s.effectFound (.actuator a)).cmd.delivery.get a = (s.cmd.delivery.get a).dropped := by
    refine (congrArg (fun c : CommandEngine => c.delivery.get a) (actuatorFound_cmd a s)).trans ?_
    exact (PerActuator.get_set ..).trans (if_pos rfl)
  rw [delivery]
  exact ⟨rfl, rfl⟩

/-- The effect of the current mode's record found faulted: the targets of SAFE. -/
theorem effectFound_record {i : Fin 7} (current : s.ctrl.mode.recordIndex = some i) (a : Actuator) :
    ((s.effectFound (.modeRecord i)).cmd.delivery.get a).target = some (PowerOn.targetOf ⟨20, 8, true, true⟩ a) := by
  unfold State.effectFound
  dsimp only
  rw [if_pos current]
  exact targetsHanded_target ..

theorem effectFound_cmd (other : ∀ a, e ≠ .actuator a) (other' : ∀ i, e = .modeRecord i → s.ctrl.mode.recordIndex ≠ some i) :
    (s.effectFound e).cmd = s.cmd := by
  have rest := faultFound_rest e s s.paramsSeen.escalation
  cases e with
  | actuator a => exact absurd rfl (other a)
  | slotSetup i =>
    obtain ⟨_, _, _, same⟩ := slotFaulted_work (s.faultFound (.slotSetup i) s.paramsSeen.escalation) i
    exact (congrArg State.cmd same :).trans (congrArg State.cmd rest :)
  | modeRecord i =>
    unfold State.effectFound
    dsimp only
    rw [if_neg (other' i rfl)]
    exact (congrArg State.cmd rest :)
  | channelMap i | recovery i | params => exact (congrArg State.cmd rest :)

end

end Sys2Proof.Machine
end

section
/-! SUPPORT. The scrub step, and storage cells that flip. -/
namespace Sys2Proof.Machine
open Sys2Proof

/-! ### Cells -/

theorem flipped_set_other {α : Type} {n : Nat} (m : Vector (Stored α) n) {j i : Fin n} (other : j ≠ i) (l : List Nat) :
    (m.set i { m[i] with flipped := l })[j].flipped = m[j].flipped :=
  congrArg Stored.flipped (Vector.getElem_set_ne i.isLt j.isLt fun same => other (Fin.ext same.symm))

theorem setFlips_flips_other {x e : EntryId} (other : x ≠ e) (l : List Nat) (s : State) :
    (s.setFlips e l).flips x = s.flips x := by
  cases e with
  | params =>
    cases x with
    | params => exact absurd rfl other
    | _ => rfl
  | actuator a =>
    cases x with
    | actuator b =>
      refine (congrArg Stored.flipped (PerActuator.get_set ..)).trans (congrArg Stored.flipped (if_neg ?_))
      exact fun same => other (congrArg _ same)
    | _ => rfl
  | channelMap i =>
    cases x with
    | channelMap j => exact flipped_set_other s.intake.map (fun same => other (congrArg _ same)) l
    | _ => rfl
  | slotSetup i =>
    cases x with
    | slotSetup j => exact flipped_set_other s.quantity.setups (fun same => other (congrArg _ same)) l
    | _ => rfl
  | modeRecord i =>
    cases x with
    | modeRecord j => exact flipped_set_other s.ctrl.records (fun same => other (congrArg _ same)) l
    | _ => rfl
  | recovery i =>
    cases x with
    | recovery j => exact flipped_set_other s.timer.bins (fun same => other (congrArg _ same)) l
    | _ => rfl

theorem exec_flippedCell {s : State} (alive : s.alive = true) (e : EntryId) (c : Nat) :
    exec (.flippedCell e c) s = .next (s.setFlips e (toggleCell c (s.flips e))) := live_alive alive

theorem toggleCell_nil (c : Nat) : toggleCell c [] = [c] := rfl

theorem toggleCell_same (c : Nat) : toggleCell c [c] = [] := by simp [toggleCell]

/-! ### The step -/

/-- The scrub position moved on, the timer started again for an interval. -/
def Integrity.scrubbed (pos : Fin 112) (iv : Nat) (u : IntegrityUnit) : IntegrityUnit :=
  { u with scrubPos := nextScrub pos, scrubTimer := some (iv * 10) }

section
variable {s : State} (alive : s.alive = true)
include alive

theorem exec_scrub_stopped (stopped : s.integ.scrubTimer = none) : exec .scrubIntervalExpiry s = .next s := by
  refine (live_alive alive).trans (congrArg _ (Act.after_ok (x := ()) (w := ⟨s, []⟩) ?_))
  rw [scrubExpiry, Act.bind_ok (Act.look_run ..), stopped]
  rfl

variable (running : s.integ.scrubTimer.isSome = true)
include running

theorem exec_scrub_off {p : Params} (read : readParams ⟨s, []⟩ = .ok p ⟨s, []⟩) (off : p.scrubInterval = 0) :
    exec .scrubIntervalExpiry s = .next (s.onInteg fun u => { u with scrubTimer := none }) := by
  refine (live_alive alive).trans (congrArg _ (Act.after_ok (x := ()) (w := ⟨_, []⟩) ?_))
  rw [scrubExpiry, Act.bind_ok (Act.look_run ..), running]
  refine (Act.bind_ok read).trans ?_
  rw [if_pos off]
  rfl

variable {m : State} {p : Params} (read : readParams ⟨s, []⟩ = .ok p ⟨m, []⟩) (on : p.scrubInterval ≠ 0)
  (pos : m.integ.scrubPos = s.integ.scrubPos)
include read on pos

theorem exec_scrub {t : State}
    (check : checkWithEffect (EntryId.atScrubPos s.integ.scrubPos) ⟨m, []⟩ = .ok () ⟨t, []⟩) :
    exec .scrubIntervalExpiry s = .next (t.onInteg (Integrity.scrubbed s.integ.scrubPos p.scrubInterval)) := by
  refine (live_alive alive).trans (congrArg _ (Act.after_ok (x := ()) (w := ⟨_, []⟩) ?_))
  rw [scrubExpiry, Act.bind_ok (Act.look_run ..), running]
  refine (Act.bind_ok read).trans ?_
  rw [if_neg on]
  refine (Act.bind_ok (Act.look_run ..)).trans ?_
  dsimp only
  rw [pos]
  exact (Act.bind_ok check).trans rfl

theorem exec_scrub_wiped {t : State}
    (check : checkWithEffect (EntryId.atScrubPos s.integ.scrubPos) ⟨m, []⟩ = .error .wiped ⟨t, []⟩) :
    exec .scrubIntervalExpiry s = .next t := by
  refine (live_alive alive).trans (congrArg _ (Act.after_error (e := .wiped) (w := ⟨t, []⟩) ?_))
  rw [scrubExpiry, Act.bind_ok (Act.look_run ..), running]
  refine (Act.bind_ok read).trans ?_
  rw [if_neg on]
  refine (Act.bind_ok (Act.look_run ..)).trans ?_
  dsimp only
  rw [pos]
  exact Act.bind_error check

end

/-! ### A step with the parameters good -/

theorem flips_onInteg (e : EntryId) (f : IntegrityUnit → IntegrityUnit) (s : State) : (s.onInteg f).flips e = s.flips e := by
  cases e <;> rfl

section
variable {s : State} {e : EntryId} (alive : s.alive = true) (running : s.integ.scrubTimer.isSome = true)
  (params : s.ParamsGood) (on : s.mgmt.params.content.scrubInterval ≠ 0)
  (here : EntryId.atScrubPos s.integ.scrubPos = e)
include alive running params on here

theorem exec_scrub_known (known : s.Known e) : exec .scrubIntervalExpiry s =
    .next (s.onInteg (Integrity.scrubbed s.integ.scrubPos s.mgmt.params.content.scrubInterval)) := by
  subst here
  exact exec_scrub alive running (readParams_good params) on rfl (checkWithEffect_known (v := ⟨s, []⟩) known)

theorem exec_scrub_one (other : e ≠ .params) (good : s.isFaulted e = false) (one : (s.flips e).length = 1) :
    ∃ t, exec .scrubIntervalExpiry s = .next t ∧ t.flips e = [] ∧
      t.integ = Integrity.scrubbed s.integ.scrubPos s.mgmt.params.content.scrubInterval
        { s.integ with corrected := min 65535 (s.integ.corrected + 1) } ∧
      s.RaisedFrom t .tableCorrected (.entry e) 0 ∧
      { t.setFlips e (s.flips e) with notice := s.notice, port := s.port, integ := s.integ } = s := by
  subst here
  have run := exec_scrub alive running (readParams_good params) on rfl (checkWithEffect_one (v := ⟨s, []⟩) good one other)
  refine ⟨_, run, ?_, ?_, ?_, ?_⟩
  · exact (flips_onInteg ..).trans (correct_flips ..)
  · exact congrArg (Integrity.scrubbed _ _) (correct_integ ..)
  · exact (correct_raisedFrom ..).congr rfl rfl rfl rfl
  · rw [← setFlips_outside]
    exact (setFlips_outside _ _ (s.correct (EntryId.atScrubPos s.integ.scrubPos)) ..).trans (correct_restored _ s)

theorem exec_scrub_found (other : e ≠ .params) (good : s.isFaulted e = false) (damaged : 2 ≤ (s.flips e).length)
    (room : s.integ.faultList.length < 8) (alone : ∀ x, x ≠ e → s.flips x = []) : exec .scrubIntervalExpiry s = .next
      ((s.effectFound e).onInteg (Integrity.scrubbed s.integ.scrubPos s.mgmt.params.content.scrubInterval)) := by
  subst here
  exact exec_scrub alive running (readParams_good params) on rfl
    (checkWithEffect_found (v := ⟨s, []⟩) good damaged other room params.known alone)

theorem exec_scrub_full (other : e ≠ .params) (good : s.isFaulted e = false) (damaged : 2 ≤ (s.flips e).length)
    (full : 8 ≤ s.integ.faultList.length) : exec .scrubIntervalExpiry s = .next s.tableWipe := by
  subst here
  exact exec_scrub_wiped alive running (readParams_good params) on rfl
    (checkWithEffect_full (v := ⟨s, []⟩) good damaged other full)

end

end Sys2Proof.Machine
end

section
/-! SUPPORT. A scrub step whose own read finds the parameters damaged. -/
namespace Sys2Proof.Machine
open Sys2Proof

/-- An entry that a check neither corrects nor faults, the parameters aside. -/
def State.AtRest (s : State) (e : EntryId) : Prop := s.isFaulted e = true ∨ e = .params ∨ s.flips e = []

section
variable {s : State} {e : EntryId}

theorem State.AtRest.known (rest : s.AtRest e) (params : s.Known .params) : s.Known e := by
  intro unfaulted
  rcases rest with faulted | rfl | good
  · rw [faulted] at unfaulted
    cases unfaulted
  · exact params unfaulted
  · exact good

theorem correct_isFaulted (x e : EntryId) (s : State) : (s.correct e).isFaulted x = s.isFaulted x := by
  rw [State.isFaulted, correct_integ]
  rfl

theorem correct_flips_other {x e : EntryId} (other : x ≠ e) (s : State) : (s.correct e).flips x = s.flips x := by
  have rest := congrArg (fun t : State => t.flips x) (correct_rest e s)
  refine Eq.trans ?_ (rest.trans (setFlips_flips_other other [] s))
  cases x <;> rfl

theorem State.AtRest.corrected (rest : s.AtRest e) : (s.correct .params).AtRest e := by
  rcases rest with faulted | same | good
  · exact .inl ((correct_isFaulted ..).trans faulted)
  · exact .inr (.inl same)
  · by_cases same : e = .params
    · exact .inr (.inl same)
    · exact .inr (.inr ((correct_flips_other same s).trans good))

theorem State.AtRest.faultFound (rest : s.AtRest e) (n : Nat) : (s.faultFound .params n).AtRest e := by
  rcases rest with faulted | same | good
  · by_cases same : e = .params
    · exact .inr (.inl same)
    · exact .inl ((faultFound_isFaulted_other .params s n same).trans faulted)
  · exact .inr (.inl same)
  · exact .inr (.inr ((faultFound_flips .params s n e).trans good))

variable (alive : s.alive = true) (running : s.integ.scrubTimer.isSome = true)
  (here : EntryId.atScrubPos s.integ.scrubPos = e) (rest : s.AtRest e)
include alive running here rest

/-- With the parameters faulted the interval is the power-on one. -/
theorem exec_scrub_defaults (faulted : s.isFaulted .params = true) :
    exec .scrubIntervalExpiry s = .next (s.onInteg (Integrity.scrubbed s.integ.scrubPos 10)) := by
  subst here
  have known : s.Known .params := fun no => by rw [faulted] at no; cases no
  have read := readParams_known (v := ⟨s, []⟩) known
  rw [State.paramsSeen, if_pos faulted] at read
  exact exec_scrub alive running read (by decide) rfl (checkWithEffect_known (v := ⟨s, []⟩) (rest.known known))

theorem exec_scrub_params_one (good : s.isFaulted .params = false) (one : (s.flips .params).length = 1)
    (on : s.mgmt.params.content.scrubInterval ≠ 0) : exec .scrubIntervalExpiry s = .next ((s.correct .params).onInteg
      (Integrity.scrubbed s.integ.scrubPos s.mgmt.params.content.scrubInterval)) := by
  subst here
  have content : (s.correct .params).mgmt.params.content = s.mgmt.params.content := by rw [correct_params_mgmt]
  have read := readParams_corrected (v := ⟨s, []⟩) good one
  rw [content] at read
  have known : (s.correct .params).Known .params := fun _ => correct_flips .params s
  exact exec_scrub alive running read on (by rw [correct_integ])
    (checkWithEffect_known (v := ⟨s.correct .params, []⟩) (rest.corrected.known known))

theorem exec_scrub_params_found (good : s.isFaulted .params = false) (damaged : 2 ≤ (s.flips .params).length)
    (room : s.integ.faultList.length < 8) : exec .scrubIntervalExpiry s =
      .next ((s.faultFound .params 60).onInteg (Integrity.scrubbed s.integ.scrubPos 10)) := by
  subst here
  have read := readParams_newlyFaulted (v := ⟨s, []⟩) good damaged room
  obtain ⟨integ, _⟩ := faultFound_joined .params s 60
  have known : (s.faultFound .params 60).Known .params := fun no => by
    rw [faultFound_isFaulted] at no
    cases no
  exact exec_scrub alive running read (by decide) (by rw [integ])
    (checkWithEffect_known (v := ⟨s.faultFound .params 60, []⟩) ((rest.faultFound 60).known known))

end

/-! ### The statements' parts -/

/-- The scrub step of a device with good parameters, by what the entry at its position is. -/
theorem scrub_found_facts {s : State} {e : EntryId} (f : IntegrityUnit → IntegrityUnit) :
    let t := (s.effectFound e).onInteg f
    t.integ = f { s.integ with faultList := s.integ.faultList ++ [e] } ∧
      (t.noticeRecord .tableFault).pending = true ∧ (t.noticeRecord .tableFault).detail = some (.entry e) ∧
      (s.integ.faultList = [] → Report.faultList true ∈ t.ctrl.reports) ∧
      (∀ i, e = .slotSetup i → t.quantity.slots[i].status = .fault) ∧
      (∀ a, e = .actuator a → (t.cmd.delivery.get a).pendingValue = none ∧ (t.cmd.delivery.get a).outstanding = none) ∧
      (∀ i, e = .modeRecord i → s.ctrl.mode.recordIndex = some i →
        ∀ a, (t.cmd.delivery.get a).target = some (PowerOn.targetOf ⟨20, 8, true, true⟩ a)) ∧
      ((∀ a, e ≠ .actuator a) → (∀ i, e = .modeRecord i → s.ctrl.mode.recordIndex ≠ some i) → t.cmd = s.cmd) ∧
      ((∀ i, e ≠ .slotSetup i) → t.quantity = s.quantity) ∧ s.OnlyRpq t ∧ t.intake = s.intake ∧
      t.timer = s.timer ∧ t.mgmt = s.mgmt ∧ t.tally = s.tally ∧ t.park = s.park ∧
      t.ctrl = { s.ctrl with reports := t.ctrl.reports } := by
  intro t
  obtain ⟨integ, ⟨pending, detail⟩, report, only, ctrl, rest⟩ := effectFound_kept (e := e) (s := s)
  refine ⟨congrArg f integ, pending, detail, report, ?_, ?_, ?_, fun o o' => effectFound_cmd o o',
    fun o => effectFound_quantity o, only, (congrArg State.intake rest :), (congrArg State.timer rest :),
    (congrArg State.mgmt rest :), (congrArg State.tally rest :), (congrArg State.park rest :), ctrl⟩
  · rintro i rfl
    exact effectFound_slot i
  · rintro a rfl
    exact effectFound_actuator a
  · rintro i rfl current a
    exact effectFound_record current a

end Sys2Proof.Machine
end

section
/-! SUPPORT. Damage that is known already: faulted entries are not used. -/
namespace Sys2Proof.Machine
open Sys2Proof

theorem State.OnlyKnownDamage.entry {s : State} (h : s.OnlyKnownDamage) (e : EntryId) : s.Known e := h e

theorem doorClosed_noBin {s : State} (known : ∀ i : Fin 4, s.Known (.recovery i))
    (none_ : ∀ i : Fin 4, s.isFaulted (.recovery i) = true ∨ s.timer.bins[i].content.length = 0) :
    doorClosed ⟨s, []⟩ = .ok () ⟨s.onTimer fun t => { t with measurement := ⟨0, false, 0⟩ }, []⟩ := by
  have bins := readBins_known (v := ⟨s.onTimer fun t => { t with measurement := t.measurement.held }, []⟩) [0, 1, 2, 3]
    fun i _ => (known i).of_tables rfl
  rw [doorClosed, Act.bind_ok (Act.upd_run _ _), Act.bind_ok bins, Act.bind_ok (Act.look_run _ _)]
  have nothing (m : Nat) : pickBin m ([0, 1, 2, 3].filterMap
      (s.onTimer fun t => { t with measurement := t.measurement.held }).binSeen) = none := by
    rw [pickBin_none_iff]
    intro b mem
    obtain ⟨i, _, seen⟩ := List.mem_filterMap.1 mem
    rw [not_qualifies_iff]
    rw [State.binSeen] at seen
    split at seen
    · cases seen
    next unfaulted =>
      cases seen
      exact .inl ((none_ i).resolve_left unfaulted)
  rw [nothing]
  rfl

theorem writeComparatorReply_faulted {v : Event} {slot comparator : Byte} {i : Fin 32} {n : CompName}
    (index : slot.toNat = i.val) (name : CompName.ofByte comparator = some n) (c : CompSetup)
    (read : readSetup i v = .ok none v) : writeComparatorReply slot comparator (some c) v = .ok (plain .refusedState) v := by
  simp only [writeComparatorReply, boundedIndex_some index, name, Act.bind_run, read, Act.pure_run]

section
variable {s : State} (alive : s.alive = true) (known : s.OnlyKnownDamage) (good : s.isFaulted .params = false)
include alive known good

section
variable {r : Reception} {f : Frame} (awake : s.mgmt.opState ≠ .parked) (taking : s.port.dnRx = .taking)
  (classified : classify r = .good f) (one : f.dest = 1)
include awake taking classified one

section
variable {rd : Reading} (sample : f.kind = .sample) (payload : readingsOf f.payload = some [rd])
include sample payload

/-- Readings of a faulted map entry are UNMAPPED. -/
theorem exec_reading_entryFaulted (faulted : ∀ i : Fin 64, s.intake.map[i].content.valid = true →
      s.intake.map[i].content.source = f.src.toNat → s.intake.map[i].content.channel = rd.channel →
      s.isFaulted (.channelMap i) = true) :
    exec (.dnArrival r) s = .next (s.countAll [.rxGood, .unmapped]) := by
  have arrives : s.SampleArrives (.dnArrival r) f false := ⟨sample, r, classified, .inl ⟨rfl, taking, one, rfl⟩⟩
  have none_ (i : Fin 64) : hasKey f.src.toNat rd.channel (s.mapSeen i) = false := by
    rw [State.mapSeen]
    split
    next => rfl
    next unfaulted =>
      rw [Bool.eq_false_iff]
      intro key
      obtain ⟨valid, source, channel⟩ := (hasKey_iff ..).1 key
      exact unfaulted (faulted i valid source channel)
  exact exec_sampleArrives_kept alive awake ⟨good, known _ good⟩ arrives payload
    (takeReadings_one (takeReading_unmapped false s.mgmt.params.content.unmappedAction (fun i => known _) none_))

/-- Readings for a slot whose setup is faulted are rejected for their state. -/
theorem exec_reading_setupFaulted {i : Fin 64} (key : s.KeyAt f.src.toNat rd.channel i)
    (usable : s.isFaulted (.channelMap i) = false)
    (faulted : s.isFaulted (.slotSetup s.intake.map[i].content.slot) = true)
    (new : s.intake.dyn[i].lastTag ≠ some f.tag) : ∃ t, exec (.dnArrival r) s = .next t ∧
      s.TookReading t f false i .rejectState s.quantity.slots[s.intake.map[i].content.slot] [] := by
  have arrives : s.SampleArrives (.dnArrival r) f false := ⟨sample, r, classified, .inl ⟨rfl, taking, one, rfl⟩⟩
  obtain ⟨t, run, took, _⟩ := took_of_delivered alive awake ⟨good, known _ good⟩ (fun j => known _) usable arrives payload key
    new (by decide) (deliverReading_faulted (s := s.tagTaken i f.tag) rd.sensor faulted)
    (State.SlotWork.none_ (s.tagTaken i f.tag) s.intake.map[i].content.slot)
  exact ⟨t, run, took⟩

end

omit good in
/-- ACKs of faulted actuators are STRAY. -/
theorem exec_ack_faulted {rep : Reported} (kind : f.kind = .ack) (payload : ackOf f.payload = some rep)
    (faulted : ∀ a, (s.cmd.entries.get a).content.present = true → (s.cmd.entries.get a).content.node = f.src.toNat →
      s.isFaulted (.actuator a) = true) : exec (.dnArrival r) s = .next (s.countAll [.rxGood, .strayAck]) := by
  have nobody : atNode (s.nodesSeen Actuator.all) f.src.toNat = [] := by
    rw [List.eq_nil_iff_forall_not_mem]
    intro a mem
    rw [atNode, List.mem_map] at mem
    obtain ⟨⟨b, n⟩, mem, rfl⟩ := mem
    obtain ⟨mem, node⟩ := List.mem_filter.1 mem
    obtain ⟨c, _, some_⟩ := List.mem_filterMap.1 mem
    obtain ⟨e, seen, eq⟩ := Option.map_eq_some_iff.1 some_
    cases eq
    rw [State.actuatorSeen] at seen
    split at seen
    · cases seen
    next unfaulted =>
      split at seen
      next present =>
        cases seen
        exact unfaulted (faulted b present (by simpa using node))
      next => cases seen
  refine exec_dnArrival_runs alive awake taking classified ?_
  rw [ack_disposed kind one payload]
  unfold takeAck
  refine .bind (es := []) (.readNodes_ _ fun b _ => known _) ?_
  rw [nobody]
  exact .bind (es := []) (.look_ _ fun _ => rfl) (.bind (es := []) (.look_ _ fun _ => rfl) (.give_ ..))

end

omit alive good in
/-- A comparator of a slot whose setup is faulted is not written. -/
theorem exec_writeComparator_faulted {tag slot comparator direction confirm : Byte} {set clear : Word16} {i : Fin 32}
    {d : Direction} (ht : s.TakesRequest) (inState : s.mgmt.opState = .config ∨ s.mgmt.opState = .run)
    (index : slot.toNat = i.val) (faulted : s.isFaulted (.slotSetup i) = true) (named : comparator.toNat ≤ 1)
    (code : Direction.ofCode direction.toNat = some d) (low : 1 ≤ confirm.toNat) (high : confirm.toNat ≤ 15)
    (above : d = .above → clear.toInt ≤ set.toInt) (below : d = .below → set.toInt ≤ clear.toInt) :
    exec (.writeComparator (gateway tag) slot comparator direction set clear confirm) s =
      .next (s.answeredPlain tag (codeByte 8 0) .refusedState) := by
  obtain ⟨n, name⟩ : ∃ n, CompName.ofByte comparator = some n := by
    rcases Nat.le_one_iff_eq_zero_or_eq_one.1 named with zero | one
    · rw [(dest_eq_iff comparator 0 (by decide)).2 zero]
      exact ⟨.a, rfl⟩
    · rw [(dest_eq_iff comparator 1 (by decide)).2 one]
      exact ⟨.b, rfl⟩
  have read := readSetup_known (v := ⟨s.answeredPlain tag (codeByte 8 0) .done, []⟩) ((known.entry (.slotSetup i)).of_tables rfl)
  have seen : (s.answeredPlain tag (codeByte 8 0) .done).setupSeen i = none := if_pos faulted
  rw [seen] at read
  refine exec_gateway_quiet rfl rfl ht (config_or_run inState) ?_
  rw [compSetupOf_good code low high above below]
  exact writeComparatorReply_faulted index name _ read

omit good in
/-- With every bin faulted or of length 0 the last door to close starts no recovery. -/
theorem exec_debounceEnd_noBin {d : Door} {busy : LinesBusy} (runs : (s.timer.doors.get d).debounce.isSome = true)
    (inRun : s.mgmt.opState = .run) (wasOpen : s.timer.doorOpen = true) (shut : (s.debounced d).timer.doorOpen = false)
    (none_ : ∀ i : Fin 4, s.isFaulted (.recovery i) = true ∨ s.timer.bins[i].content.length = 0) :
    exec (.debounceEnd d busy) s =
      .next ((s.debounced d).onTimer fun t => { t with measurement := ⟨0, false, 0⟩ }).reportTimers := by
  have high : (s.timer.doors.get d).rawLow = false := by
    rw [← Bool.not_eq_true]
    intro low
    rw [debounced_open low] at shut
    cases shut
  have closes := doorClosed_noBin (s := s.debounced d) (fun i => (known.entry (.recovery i)).of_tables rfl)
    (fun i => none_ i)
  refine exec_debounceEnd alive runs
    (w := ⟨((s.debounced d).onTimer fun t => { t with measurement := ⟨0, false, 0⟩ }).reportTimers, []⟩) ?_
  rw [high, shut, wasOpen, doorChanged_inRun (v := ⟨s.debounced d, []⟩) inRun]
  exact (Act.bind_ok closes).trans rfl

end

end Sys2Proof.Machine
end

section
/-! SUPPORT. Readings whose own reads find new damage. -/
namespace Sys2Proof.Machine
open Sys2Proof

/-! ### The check that faults an entry, within an event -/

theorem faultFound_withTally (e : EntryId) (n : Nat) (s : State) (u : TallyUnit) :
    (s.withTally u).faultFound e n = (s.faultFound e n).withTally u := by
  have joined : (s.withTally u).joinFaultList e = (s.joinFaultList e).withTally u := by
    unfold State.joinFaultList
    have list : (s.withTally u).integ = s.integ := rfl
    cases e <;> simp only [list, apply_ite (fun x : State => x.withTally u)] <;> rfl
  rw [State.faultFound, joined, raiseWith_withTally, State.faultFound]

section
variable {s : State} {e : EntryId} (new : s.NewDamage e)
include new

theorem newDamage_paramsGood : s.ParamsGood := by
  obtain ⟨other, unfaulted, _, _, alone, _⟩ := new
  exact ⟨unfaulted, alone .params (Ne.symm other)⟩

/-- The other entries are known. -/
theorem newDamage_known {x : EntryId} (other : x ≠ e) : s.Known x := by
  obtain ⟨_, _, _, _, alone, _⟩ := new
  exact fun _ => alone x other

/-- The state once the new damage is found. -/
theorem checkEntry_runs : Act.Runs s (checkEntry e) .newlyFaulted (s.faultFound e s.mgmt.params.content.escalation) [] := by
  have params := newDamage_paramsGood new
  obtain ⟨other, _, good, damaged, _, room⟩ := new
  have rest := faultFound_rest e s s.mgmt.params.content.escalation
  obtain ⟨reports, ctrl⟩ := faultFound_ctrl e s s.mgmt.params.content.escalation
  refine ⟨(congrArg State.tally rest :), (congrArg Controller.mode ctrl :), fun u o => ?_⟩
  refine (checkEntry_found (v := ⟨s.withTally u, o⟩) good damaged room other (params.known.of_tables rfl)).trans ?_
  have seen : (s.withTally u).paramsSeen = s.mgmt.params.content := params.paramsSeen
  rw [seen, faultFound_withTally]
  rfl

theorem newDamage_found_known (n : Nat) (x : EntryId) : (s.faultFound e n).Known x := by
  obtain ⟨_, _, _, _, alone, _⟩ := new
  exact faultFound_known e s n alone x

end

/-! ### A map entry -/

section
variable {s : State} {i : Fin 64} (new : s.NewDamage (.channelMap i))

theorem mapSeen_found (n : Nat) {j : Fin 64} (other : j ≠ i) : (s.faultFound (.channelMap i) n).mapSeen j = s.mapSeen j := by
  have rest := faultFound_rest (.channelMap i) s n
  have map : (s.faultFound (.channelMap i) n).intake = s.intake := (congrArg State.intake rest :)
  rw [State.mapSeen, State.mapSeen, faultFound_isFaulted_other _ s n (fun same => other (EntryId.channelMap.inj same)), map]

include new

theorem lookup_found (src ch : Nat) (l : List (Fin 64)) (mem : i ∈ l) :
    Act.Runs s (lookup src ch l)
      (l.find? fun j => hasKey src ch ((s.faultFound (.channelMap i) s.mgmt.params.content.escalation).mapSeen j))
      (s.faultFound (.channelMap i) s.mgmt.params.content.escalation) [] := by
  induction l with
  | nil => cases mem
  | cons j l ih =>
    have found := newDamage_found_known new s.mgmt.params.content.escalation
    rw [List.find?_cons]
    by_cases same : j = i
    · subst same
      have read : Act.Runs s (readMapEntry j) none
          (s.faultFound (.channelMap j) s.mgmt.params.content.escalation) [] :=
        .bind (es := []) (checkEntry_runs new) (.pure_ ..)
      have gone : (s.faultFound (.channelMap j) s.mgmt.params.content.escalation).mapSeen j = none :=
        if_pos (faultFound_isFaulted ..)
      rw [gone]
      exact .bind (es := []) read (.bind (es := []) (.lookup_ src ch l fun x _ => found _) (.pure_ ..))
    · have read : Act.Runs s (readMapEntry j) (s.mapSeen j) s [] := .quiet fun u o =>
        readMapEntry_known (v := ⟨s.withTally u, o⟩)
          ((newDamage_known new (fun h => same (EntryId.channelMap.inj h))).of_tables rfl)
      rw [mapSeen_found _ same]
      refine .bind (es := []) read (.bind (es := []) (ih (List.mem_of_ne_of_mem (Ne.symm same) mem)) ?_)
      cases hasKey src ch (s.mapSeen j) <;> exact .pure_ ..

variable {r : Reception} {f : Frame} {rd : Reading} (alive : s.alive = true) (awake : s.mgmt.opState ≠ .parked)
  (taking : s.port.dnRx = .taking) (classified : classify r = .good f) (one : f.dest = 1) (sample : f.kind = .sample)
  (payload : readingsOf f.payload = some [rd]) (key : s.KeyAt f.src.toNat rd.channel i)
include alive awake taking classified one sample payload key

theorem exec_reading_entryFound : exec (.dnArrival r) s =
    .next ((s.faultFound (.channelMap i) s.mgmt.params.content.escalation).countAll [.rxGood, .unmapped]) := by
  have arrives : s.SampleArrives (.dnArrival r) f false := ⟨sample, r, classified, .inl ⟨rfl, taking, one, rfl⟩⟩
  have looked := lookup_found new f.src.toNat rd.channel mapIndexes (List.mem_finRange i)
  have nowhere : mapIndexes.find? (fun j => hasKey f.src.toNat rd.channel
      ((s.faultFound (.channelMap i) s.mgmt.params.content.escalation).mapSeen j)) = none := by
    refine lookup_missing fun j => ?_
    by_cases same : j = i
    · subst same
      rw [State.mapSeen, if_pos (faultFound_isFaulted ..)]
      rfl
    · rw [mapSeen_found _ same, Bool.eq_false_iff, State.mapSeen]
      split
      next => exact Bool.noConfusion
      next => exact fun held => same ((key j).1 ((hasKey_iff ..).1 held))
  rw [nowhere] at looked
  refine exec_sampleArrives_kept alive awake (newDamage_paramsGood new) arrives payload (takeReadings_one ?_)
    (es := [.unmapped])
  unfold takeReading
  exact .bind (es := []) looked (.bind (es := [.unmapped]) (.give_ ..) (.pure_ ..))

end

/-! ### A slot setup -/

section
variable {s : State} {k : Fin 32} {i : Fin 64} {f : Frame}

/-- The state once a reading for entry `i` has found its slot's setup faulted. -/
def State.setupFound (k : Fin 32) (n : Nat) (s : State) : State := (s.faultFound (.slotSetup k) n).slotFaulted k

theorem setupFound_rest (k : Fin 32) (n : Nat) (s : State) : { s.setupFound k n with
    quantity := s.quantity, notice := s.notice, port := s.port, integ := s.integ, ctrl := s.ctrl } = s := by
  obtain ⟨_, _, _, same⟩ := slotFaulted_work (s.faultFound (.slotSetup k) n) k
  have found := faultFound_rest (.slotSetup k) s n
  unfold State.setupFound
  generalize (s.faultFound (.slotSetup k) n).slotFaulted k = t at same
  have cut := congrArg (fun x : State => { x with
    quantity := s.quantity, notice := s.notice, port := s.port, integ := s.integ, ctrl := s.ctrl }) same
  exact cut.trans (congrArg (fun x : State => { x with quantity := s.quantity }) found :)

theorem setupFound_intake (k : Fin 32) (n : Nat) (s : State) : (s.setupFound k n).intake = s.intake :=
  (congrArg State.intake (setupFound_rest k n s) :)

theorem setupFound_quantity (k : Fin 32) (n : Nat) (s : State) : (s.setupFound k n).quantity =
    { s.quantity with slots := s.quantity.slots.set k s.quantity.slots[k].toFault } := by
  obtain ⟨quantity, _⟩ := slotFaulted_work (s.faultFound (.slotSetup k) n) k
  have same : (s.faultFound (.slotSetup k) n).quantity = s.quantity :=
    (congrArg State.quantity (faultFound_rest (.slotSetup k) s n) :)
  exact quantity.trans (congrArg
    (fun q : QuantityTable => { q with slots := q.slots.set k q.slots[k].toFault }) same)

theorem setupFound_joined {k : Fin 32} {s : State} (n : Nat) (first : s.quantity.slots[k].status ≠ .fault) :
    s.Joined (s.setupFound k n) (.slotSetup k)
      [.slot k ⟨.fault, s.quantity.slots[k].compA.isSet, s.quantity.slots[k].compB.isSet⟩] := by
  obtain ⟨_, ctrl', _, same⟩ := slotFaulted_work (s.faultFound (.slotSetup k) n) k
  obtain ⟨integ, ctrl⟩ := faultFound_joined (.slotSetup k) s n
  have quantity : (s.faultFound (.slotSetup k) n).quantity = s.quantity :=
    (congrArg State.quantity (faultFound_rest (.slotSetup k) s n) :)
  rw [quantity, if_neg first] at ctrl'
  refine ⟨(congrArg State.integ same :).trans integ, ctrl'.trans ?_⟩
  rw [ctrl]
  simp only [List.append_assoc, List.append_nil]

/-- The notice of the table comes first, then that of the input if the slot is a role's. -/
theorem setupFound_told {k : Fin 32} {s : State} (good : s.ParamsGood) (first : s.quantity.slots[k].status ≠ .fault) :
    let found := s.faultFound (.slotSetup k) s.mgmt.params.content.escalation
    let t := s.setupFound k s.mgmt.params.content.escalation
    s.RaisedFrom found .tableFault (.entry (.slotSetup k)) s.mgmt.params.content.escalation ∧
      ((∃ role, s.ctrl.bindings.get role = some k) →
        found.RaisedFrom t .inputLost (.slot k) s.mgmt.params.content.escalation) ∧
      ((∀ role, s.ctrl.bindings.get role ≠ some k) → t.notice = found.notice ∧ t.port = found.port) := by
  intro found t
  have rest := faultFound_rest (.slotSetup k) s s.mgmt.params.content.escalation
  obtain ⟨reports, ctrl⟩ := faultFound_ctrl (.slotSetup k) s s.mgmt.params.content.escalation
  have bindings : found.ctrl.bindings = s.ctrl.bindings := (congrArg Controller.bindings ctrl :)
  have quantity : found.quantity = s.quantity := (congrArg State.quantity rest :)
  have seen : found.paramsSeen = s.mgmt.params.content := by
    rw [State.paramsSeen, faultFound_isFaulted_other _ s _ EntryId.noConfusion, good.1, if_neg (by decide)]
    exact (congrArg (fun x : State => x.mgmt.params.content) rest :)
  have first' : found.quantity.slots[k].status ≠ .fault := by rw [quantity]; exact first
  refine ⟨faultFound_raisedFrom .., fun bound => ?_, fun unbound => ?_⟩
  · have raised := slotFaulted_raised first' ((isRoleSlot_iff found k).2 (by rw [bindings]; exact bound))
    rw [seen] at raised
    exact raised
  · refine slotFaulted_calm (s := found) (.inr ?_)
    rw [Bool.eq_false_iff]
    intro role
    obtain ⟨b, held⟩ := (isRoleSlot_iff found k).1 role
    rw [bindings] at held
    exact unbound b held

theorem setupFound_runs (new : s.NewDamage (.slotSetup k)) (v : Int) (sensor : SensorState) :
    Act.Runs s (deliverReading k v sensor) () (s.setupFound k s.mgmt.params.content.escalation) [.rejectState] := by
  have found := newDamage_found_known new s.mgmt.params.content.escalation
  have read : Act.Runs s (readSetup k) none (s.setupFound k s.mgmt.params.content.escalation) [] :=
    .bind (es := []) (checkEntry_runs new) (.bind (es := []) (slotToFault_runs (found .params) k) (.pure_ ..))
  unfold deliverReading
  exact .bind (es := []) read (.give_ ..)

variable {r : Reception} {rd : Reading} (new : s.NewDamage (.slotSetup k)) (alive : s.alive = true)
  (awake : s.mgmt.opState ≠ .parked) (taking : s.port.dnRx = .taking) (classified : classify r = .good f)
  (one : f.dest = 1) (sample : f.kind = .sample) (payload : readingsOf f.payload = some [rd])
  (key : s.KeyAt f.src.toNat rd.channel i) (usable : s.isFaulted (.channelMap i) = false)
  (slot : s.intake.map[i].content.slot = k) (fresh : s.intake.dyn[i].lastTag ≠ some f.tag)
include new alive awake taking classified one sample payload key usable slot fresh

theorem exec_reading_setupFound : exec (.dnArrival r) s =
    .next ((((s.tagTaken i f.tag).setupFound k s.mgmt.params.content.escalation).mapTaken i s.intake.dyn[i].thin
      f.tag).countAll [.rxGood, .rejectState]) := by
  have arrives : s.SampleArrives (.dnArrival r) f false := ⟨sample, r, classified, .inl ⟨rfl, taking, one, rfl⟩⟩
  have due : s.forwardDue i false = (s.intake.dyn[i].thin, false) := forwardDue_eq ..
  subst slot
  have delivered := setupFound_runs (s := s.tagTaken i f.tag) new
    (scale rd.raw s.intake.map[i].content.gain s.intake.map[i].content.offset) rd.sensor
  have intake : ((s.tagTaken i f.tag).setupFound s.intake.map[i].content.slot s.mgmt.params.content.escalation).intake =
      (s.tagTaken i f.tag).intake := setupFound_intake ..
  have matched := takeMatched_runs false intake delivered
  rw [due] at matched
  have taken := takeReadings_one (takeReading_matched false s.mgmt.params.content.unmappedAction
    (fun j => newDamage_known new EntryId.noConfusion) key usable fresh matched)
  exact exec_sampleArrives_kept alive awake (newDamage_paramsGood new) arrives payload taken

end

/-- What counting in an event leaves of the fault found in it. -/
theorem countAll_told {s z : State} {es : List SubEvent} (apart : (es.map SubEvent.group).Nodup) (noWrap : s.NoWrap)
    (tally : z.tally = s.tally) (mode : z.ctrl.mode = s.ctrl.mode) :
    (z.countAll es).tally = (s.countAll es).tally ∧ { z.countAll es with tally := z.tally } = z := by
  have calm := countAll_calm (s := z) apart (by rw [State.NoWrap, tally]; exact noWrap)
  obtain ⟨_, _, rest⟩ := countAll_only es z
  refine ⟨countAll_tally_congr tally mode es, ?_⟩
  obtain ⟨notice, port⟩ := calm
  rw [← notice, ← port] at rest
  exact rest

end Sys2Proof.Machine
end

section
/-! O55: what the scrubber and the reads make of damage. -/
namespace Sys2Proof.Machine
open Sys2Proof

section
variable {s : State} {r : Reception} {f : Frame} {rd : Reading} {i : Fin 64} (alive : s.alive = true)
  (awake : s.mgmt.opState ≠ .parked) (taking : s.port.dnRx = .taking) (classified : classify r = .good f)
  (one : f.dest = 1) (sample : f.kind = .sample) (payload : readingsOf f.payload = some [rd])
  (key : s.KeyAt f.src.toNat rd.channel i) (noWrap : s.NoWrap)
include alive awake taking classified one sample payload key noWrap

theorem reading_entryFound (new : s.NewDamage (.channelMap i)) :
    ∃ t, exec (.dnArrival r) s = .next t ∧ t.tally = (s.countAll [.rxGood, .unmapped]).tally ∧
      s.RaisedFrom t .tableFault (.entry (.channelMap i)) s.mgmt.params.content.escalation ∧ s.Joined t (.channelMap i) [] ∧
      { t with tally := s.tally, notice := s.notice, port := s.port, integ := s.integ, ctrl := s.ctrl } = s := by
  have run := exec_reading_entryFound new alive awake taking classified one sample payload key
  have raised := faultFound_raisedFrom (.channelMap i) s s.mgmt.params.content.escalation
  obtain ⟨integ, ctrl⟩ := faultFound_joined (.channelMap i) s s.mgmt.params.content.escalation
  have rest := faultFound_rest (.channelMap i) s s.mgmt.params.content.escalation
  obtain ⟨_, mode, _⟩ := checkEntry_runs new
  generalize s.faultFound (.channelMap i) s.mgmt.params.content.escalation = z at run raised integ ctrl rest mode
  obtain ⟨tally, told⟩ := countAll_told (z := z) (es := [.rxGood, .unmapped]) (by decide) noWrap (congrArg State.tally rest :) mode
  generalize z.countAll [.rxGood, .unmapped] = t at run tally told
  refine ⟨t, run, tally, raised.congr rfl rfl (congrArg State.notice told :) (congrArg State.port told :),
    ⟨(congrArg State.integ told :).trans integ, (congrArg State.ctrl told :).trans ctrl⟩, ?_⟩
  have cut := congrArg (fun x : State => { x with
    tally := s.tally, notice := s.notice, port := s.port, integ := s.integ, ctrl := s.ctrl }) told
  exact cut.trans (congrArg (fun x : State => { x with tally := s.tally }) rest :)

theorem reading_setupFound {k : Fin 32} (usable : s.isFaulted (.channelMap i) = false)
    (slot : s.intake.map[i].content.slot = k) (new : s.NewDamage (.slotSetup k))
    (fresh : s.intake.dyn[i].lastTag ≠ some f.tag) (first : s.quantity.slots[k].status ≠ .fault) :
    ∃ t, exec (.dnArrival r) s = .next t ∧ t.tally = (s.countAll [.rxGood, .rejectState]).tally ∧
      t.quantity = { s.quantity with slots := s.quantity.slots.set k s.quantity.slots[k].toFault } ∧
      t.intake.map = s.intake.map ∧ t.intake.dyn[i] = { s.intake.dyn[i] with lastTag := some f.tag } ∧
      s.Joined t (.slotSetup k)
        [.slot k ⟨.fault, s.quantity.slots[k].compA.isSet, s.quantity.slots[k].compB.isSet⟩] ∧
      (∃ n p, s.RaisedFrom { s with notice := n, port := p } .tableFault (.entry (.slotSetup k))
          s.mgmt.params.content.escalation ∧
        ((∃ role, s.ctrl.bindings.get role = some k) → State.RaisedFrom { s with notice := n, port := p } t .inputLost
          (.slot k) s.mgmt.params.content.escalation) ∧
        ((∀ role, s.ctrl.bindings.get role ≠ some k) → t.notice = n ∧ t.port = p)) ∧
      { t with quantity := s.quantity, intake := s.intake, tally := s.tally, notice := s.notice, port := s.port,
               integ := s.integ, ctrl := s.ctrl } = s := by
  have run := exec_reading_setupFound new alive awake taking classified one sample payload key usable slot fresh
  have quantity := setupFound_quantity k s.mgmt.params.content.escalation (s.tagTaken i f.tag)
  obtain ⟨integ, ctrl⟩ := setupFound_joined (s := s.tagTaken i f.tag) s.mgmt.params.content.escalation first
  have told := setupFound_told (s := s.tagTaken i f.tag) (newDamage_paramsGood new) first
  have rest := setupFound_rest k s.mgmt.params.content.escalation (s.tagTaken i f.tag)
  obtain ⟨_, mode, _⟩ := setupFound_runs (s := s.tagTaken i f.tag) new 0 .ok
  have intake := setupFound_intake k s.mgmt.params.content.escalation (s.tagTaken i f.tag)
  have escalation : (s.tagTaken i f.tag).mgmt.params.content.escalation = s.mgmt.params.content.escalation := rfl
  rw [escalation] at told mode
  obtain ⟨raised, bound, unbound⟩ := told
  generalize (s.tagTaken i f.tag).setupFound k s.mgmt.params.content.escalation = y at *
  obtain ⟨tally, settled⟩ := countAll_told (z := y.mapTaken i s.intake.dyn[i].thin f.tag) (es := [.rxGood, .rejectState])
    (by decide) noWrap (congrArg State.tally rest :) mode
  generalize (y.mapTaken i s.intake.dyn[i].thin f.tag).countAll [.rxGood, .rejectState] = t at run tally settled
  have notice : t.notice = y.notice := (congrArg State.notice settled :)
  have port : t.port = y.port := (congrArg State.port settled :)
  have taken : t.intake = (y.mapTaken i s.intake.dyn[i].thin f.tag).intake := (congrArg State.intake settled :)
  refine ⟨t, run, tally, (congrArg State.quantity settled :).trans quantity, ?_, ?_,
    ⟨(congrArg State.integ settled :).trans integ, (congrArg State.ctrl settled :).trans ctrl⟩,
    ⟨_, _, raised.congr rfl rfl rfl rfl, fun role => (bound role).congr rfl rfl notice port, fun none_ => ?_⟩, ?_⟩
  · rw [taken]
    exact (congrArg Intake.map intake :)
  · rw [taken]
    exact Vector.getElem_set_self i.isLt
  · obtain ⟨notice', port'⟩ := unbound none_
    exact ⟨notice.trans notice', port.trans port'⟩
  · have cut := congrArg (fun x : State => { x with
      quantity := s.quantity, intake := s.intake, tally := s.tally, notice := s.notice, port := s.port,
      integ := s.integ, ctrl := s.ctrl }) settled
    exact cut.trans (congrArg (fun x : State => { x with intake := s.intake, tally := s.tally }) rest :)

end

/-- Settles O55: the flips, the scrub step by its entry, the known damage, the parameters' own damage, and the damage
that a reading finds. -/
theorem scrubStepsCheckTheEntryAtTheirPosition : Obligations.ScrubStepsCheckTheEntryAtTheirPosition := by
  refine ⟨?_, ?_, ?_, ?_, ?_⟩
  · intro s e c alive
    refine ⟨exec_flippedCell alive e c, fun none_ => ?_, fun one => ?_,
      fun l => ⟨setFlips_flips e l s, fun x other => setFlips_flips_other other l s⟩⟩
    · rw [none_, toggleCell_nil]
    · rw [one, toggleCell_same]
  · intro s alive unfaulted good e iv moved
    have params : s.ParamsGood := ⟨unfaulted, good⟩
    refine ⟨exec_scrub_stopped alive, fun running off => exec_scrub_off alive running (readParams_good params) off,
      fun running on other => ⟨fun atRest => ?_, fun fresh one => ?_, fun fresh damaged room alone => ?_,
        fun fresh damaged full => ?_⟩⟩
    · refine exec_scrub_known alive running params on rfl fun fresh => ?_
      exact atRest.resolve_left (by rw [fresh]; decide)
    · obtain ⟨t, run, flips, integ, ⟨record, others, _, air, _, port⟩, rest⟩ :=
        exec_scrub_one alive running params on rfl other fresh one
      refine ⟨t, run, flips, integ, ?_, ?_, others, air, ?_, rest⟩
      · rw [record]
      · rw [record]
      · rw [State.OnlyRpq, port]
    · exact ⟨_, exec_scrub_found alive running params on rfl other fresh damaged room alone, scrub_found_facts _⟩
    · exact ⟨_, exec_scrub_full alive running params on rfl other fresh damaged full, wiped_tableWipe s⟩
  · intro s alive known good
    refine ⟨fun r f awake taking classified one => ⟨fun rd sample payload => ⟨fun faulted => ?_, fun i key usable => ?_⟩,
      fun rep kind payload faulted => ?_⟩, ?_, ?_⟩
    · exact exec_reading_entryFaulted alive known good awake taking classified one sample payload faulted
    · intro k sl faulted fresh
      exact exec_reading_setupFaulted alive known good awake taking classified one sample payload key usable faulted fresh
    · exact exec_ack_faulted alive known awake taking classified one kind payload faulted
    · intro tag slot comparator direction confirm set clear i d ht inState index faulted named code low high above below
      exact exec_writeComparator_faulted known ht inState index faulted named code low high above below
    · intro d busy runs inRun s1 wasOpen shut none_
      exact exec_debounceEnd_noBin alive known runs inRun wasOpen shut none_
  · intro s alive running e iv moved atRest
    refine ⟨fun faulted rest => ?_, fun good none_ on same => ?_, fun good one on rest => ?_,
      fun good damaged room rest => ?_⟩
    · exact exec_scrub_defaults alive running rfl rest faulted
    · have params : s.ParamsGood := ⟨good, List.length_eq_zero_iff.1 none_⟩
      exact exec_scrub_known alive running params on rfl (by rw [show EntryId.atScrubPos _ = _ from same]; exact params.known)
    · have run := exec_scrub_params_one alive running rfl rest good one on
      have raised := correct_raisedFrom .params s
      have same := correct_rest .params s
      have integ := correct_integ .params s
      have flips := correct_flips .params s
      generalize s.correct .params = m at run raised same integ flips
      refine ⟨_, run, flips, congrArg (Integrity.scrubbed _ _) integ, raised.congr rfl rfl rfl rfl, ?_⟩
      exact (congrArg (fun x : State => { x with mgmt := s.mgmt }) same :)
    · have run := exec_scrub_params_found alive running rfl rest good damaged room
      have raised := faultFound_raisedFrom .params s 60
      have same := faultFound_rest .params s 60
      obtain ⟨integ, ctrl⟩ := faultFound_joined .params s 60
      generalize s.faultFound .params 60 = m at run raised same integ ctrl
      refine ⟨_, run, raised.congr rfl rfl rfl rfl, ⟨?_, ctrl⟩, rfl, same⟩
      exact (congrArg (fun u : IntegrityUnit =>
        { u with scrubPos := s.integ.scrubPos, scrubTimer := s.integ.scrubTimer }) integ :)
  · intro s r f rd i alive awake taking classified one sample payload key usable noWrap k sl seconds
    refine ⟨fun new => ?_, fun new fresh first => ?_⟩
    · exact reading_entryFound alive awake taking classified one sample payload key noWrap new
    · exact reading_setupFound alive awake taking classified one sample payload key noWrap usable rfl new fresh first

end Sys2Proof.Machine
end
